-- ==== Sys2Proof/Word.lean ====
section
/-! DEFINITION. The plain data of the Jezmir JM16: bytes, the index types of its seats, rows, doors and cells
(00_scope.md, Indices), and the fixed-length table every record table of the part is held in. -/

namespace Sys2Proof

/-- One byte of the serial link. -/
abbrev Byte := BitVec 8
/-- A seat, 0..15. -/
abbrev Seat := Fin 16
/-- A row, 0..4. -/
abbrev Row := Fin 5
/-- A door, 0..3, after its DOORn line. -/
abbrev Door := Fin 4
/-- A presence line, 0..3, after its ROWPn line. -/
abbrev Line := Fin 4
/-- A mat cell, 0..15. -/
abbrev Cell := Fin 16
/-- An advisory position, 0 or 1. -/
abbrev Pos := Fin 2
/-- A threshold profile, 0..3. -/
abbrev ProfileIx := Fin 4

/-- A table of exactly `n` entries, held as a list so that the kernel can evaluate it. -/
structure Tab (n : Nat) (α : Type) where
  cells : List α
  size : cells.length = n
  deriving DecidableEq, Repr

/-- The entry at index `i`. -/
def Tab.get {n : Nat} {α : Type} (t : Tab n α) (i : Fin n) : α :=
  t.cells[i.val]'(by rw [t.size]; exact i.isLt)

/-- The table with entry `i` replaced. -/
def Tab.set {n : Nat} {α : Type} (t : Tab n α) (i : Fin n) (a : α) : Tab n α :=
  ⟨t.cells.set i.val a, by rw [List.length_set, t.size]⟩

/-- The table whose entry at each index is `f` of it. -/
def Tab.ofFn {n : Nat} {α : Type} (f : Fin n → α) : Tab n α :=
  ⟨List.ofFn f, List.length_ofFn⟩

/-- The table with the same entry everywhere. -/
def Tab.const (n : Nat) {α : Type} (a : α) : Tab n α :=
  ⟨List.replicate n a, List.length_replicate⟩

/-- A set of seats, as a 16-member set (00_scope.md, Sets and lists). -/
abbrev SeatSet := Tab 16 Bool

end Sys2Proof
end

