-- ==== Sys2Proof/Syntax.lean ====
section
/-! DEFINITION. The commands of the JM16: one constructor for each row of spec/opcode_table.json, in its order.
A request row carries the frame LNK takes: its body bytes and whether its end byte is 0x0D (final). -/

namespace Sys2Proof

/-- A complete request frame without its CODE (R149): the body, and whether the frame is final (end byte 0x0D)
or says that more follows (0x0B). -/
structure ReqFrame where
  body : List Byte
  final : Bool
  deriving DecidableEq, Repr

/-- The frame of a PROFILE WRITE (R15). `nChild`: the N_child that the host sends, `none` when only the bytes tell the frame;
R173 gives the other eleven fields their place in the record, and N_child none (assumption log 22). -/
structure ProfileFrame extends ReqFrame where
  nChild : Option Byte
  deriving DecidableEq, Repr

/-- Part 3 of a map image: its records, and the N_child of each profile as in `ProfileFrame`. -/
structure ProfilePart where
  records : List Byte
  nChild : Option (Tab 4 Byte)
  deriving DecidableEq, Repr

/-- The commands. Events of the part's own operations and lines come first, then the requests of the host. -/
inductive Instr where
  | fullReset
  /-- `straps`: the levels of MAPSEL1 and MAPSEL0 when they are sampled (R5). -/
  | storeLoadComplete (straps : BitVec 2)
  | ignLineChange (level : Bool)
  | ignitionOff
  | ignitionOn
  | doorLineChange (door : Door) (level : Bool)
  | doorOpen (door : Door)
  | doorClosed (door : Door)
  | rowpLineChange (line : Line) (level : Bool)
  | rowInstalled (row : Row)
  | rowRemoved (row : Row)
  | intervalExpiry
  | settleEnd
  /-- `raw`: the converter's code; `anch`: the levels of ANCH0..ANCH7 at that moment (R23, R25). -/
  | conversionComplete (raw : BitVec 12) (anch : BitVec 8)
  | markerPushed
  | entryComplete
  | blockedMarkerTake
  | frameFinish
  | frameHandlingComplete
  | remTimerStep
  | startIntervalExpiry
  | visualTimerExpiry (seat : Seat)
  | chimeBudgetExpiry (seat : Seat)
  | freshnessExpiry
  | retentionTimerExpiry
  /-- `passes`: whether the section as read back passes its integrity test (R166). -/
  | commitComplete (passes : Bool)
  /-- `passes`: bit n says whether section n, in the order of R164, reads back passing (R170). -/
  | clearCommitComplete (passes : BitVec 6)
  | receiveByte (b : Byte)
  | interByteTimeout
  | replyComplete
  | transferInactivityExpiry
  | unknownRequest (code : Byte) (frame : ReqFrame)
  | identify (frame : ReqFrame)
  | status (frame : ReqFrame)
  | restart (frame : ReqFrame)
  | noticeFetch (frame : ReqFrame)
  | noticeLevelSet (frame : ReqFrame)
  /-- A MAP WRITE of part 0; `records`: its body after the part index. -/
  | mapWriteOpen (records : List Byte) (final : Bool)
  /-- A MAP WRITE that continues a transfer. -/
  | mapWriteContinue (part : Byte) (records : List Byte) (final : Bool)
  /-- The final MAP WRITE, carrying part 3. -/
  | mapWriteFinal (records : ProfilePart)
  | mapRead (frame : ReqFrame)
  | profileWrite (frame : ProfileFrame)
  | scanTimingSet (frame : ReqFrame)
  | scanStatus (frame : ReqFrame)
  | seatProbe (frame : ReqFrame)
  | probeRead (frame : ReqFrame)
  | calWrite (frame : ReqFrame)
  | calRead (frame : ReqFrame)
  | zeroCapture (frame : ReqFrame)
  | seatSummary (frame : ReqFrame)
  | seatDetail (frame : ReqFrame)
  | vehicleState (frame : ReqFrame)
  | reminderSet (frame : ReqFrame)
  | cabinReminder (frame : ReqFrame)
  | advisoryRead (frame : ReqFrame)
  | retentionSet (frame : ReqFrame)
  /-- RETENTION SET with an empty body. -/
  | retentionRead (final : Bool)
  | protectSet (frame : ReqFrame)
  | protectionClear (frame : ReqFrame)
  deriving DecidableEq, Repr

end Sys2Proof
end

