-- ==== Sys2Proof/Machine/Types.lean ====
section
/-! DEFINITION. The named values and records of the blocks (00_scope.md; the record tables of chapters 1 to 11).
Fields that cross the link in fixed bit places are bit vectors, so that a record read with MAP READ can be written back
unchanged (R14); counts, timers and features are numbers. -/

namespace Sys2Proof.Machine

/-! ## Named values -/

/-- A verdict (00_scope.md, Verdicts). -/
inductive Verdict where
  | unknown | empty | object | childSeat | small | adult
  deriving DecidableEq, Repr

/-- A seat's lifecycle (R12, R13). -/
inductive Lifecycle where
  | unmapped | absent | active | faulted
  deriving DecidableEq, Repr

/-- A seat's buckle state (R89). -/
inductive BuckleState where
  | unfitted | unknown | unlatched | latched | fault
  deriving DecidableEq, Repr

/-- The band decoded from one buckle reading (R54). -/
inductive BuckleBand where
  | openCircuit | unlatched | latched | short
  deriving DecidableEq, Repr

/-- A seat's anchor state (R92). -/
inductive AnchorState where
  | unfitted | free | engaged
  deriving DecidableEq, Repr

/-- The state of a seat's reminder machine (R104). -/
inductive ReminderState where
  | none | armed | visual | audible | capped | latched | childUnsecured
  deriving DecidableEq, Repr

/-- The value of an advisory position (R122). -/
inductive AdvisoryValue where
  | fault | suppress | enable
  deriving DecidableEq, Repr

/-- The state of a row (R2, R9). -/
inductive RowState where
  | fixed | installed | removed
  deriving DecidableEq, Repr

/-- A front-end gain (R1, R24). -/
inductive Gain where
  | x1 | x2 | x4 | x8
  deriving DecidableEq, Repr

/-- The debounced ignition state (R134). -/
inductive Ignition where
  | off | on
  deriving DecidableEq, Repr

/-- A store section (R164). -/
inductive Section where
  | map | profiles | reminder | timing | calibration | protection
  deriving DecidableEq, Repr

/-- The status of a reply (R154); `barred` is PROTECTED. -/
inductive Status where
  | ok | accepted | badCheck | badLength | badFrame | unknownRequest | badArg | busy | notReady | state | barred
  | mapInvalid | noTransfer
  deriving DecidableEq, Repr

/-! ## The cabin map (chapter 1) -/

/-- A seat map record, its fields at their places in R173. `gain`: ×1, ×2, ×4, ×8 as 0..3. `advisory`: 0, 1, or 0xF
for none. `anchor`: 0..7, or 0xFF for none. -/
structure SeatMap where
  cells : BitVec 16
  fitted : Bool
  tension : Bool
  buckle : Bool
  presume : Bool
  row : BitVec 4
  gain : BitVec 4
  profile : BitVec 4
  advisory : BitVec 4
  anchor : Byte
  deriving DecidableEq, Repr, Inhabited

/-- A row record. `presence`: 0..3, or 0xFF for none. `doors`: bit n names DOORn. -/
structure RowRec where
  removable : Bool
  presence : Byte
  doors : Byte
  deriving DecidableEq, Repr, Inhabited

/-- A threshold profile (R3). -/
structure Profile where
  tc : BitVec 12
  k : BitVec 10
  mEmpty : Byte
  mPerson : Byte
  mAdult : Byte
  h : Byte
  sRail : Byte
  tCinch : Byte
  cSmall : Byte
  nUp : Byte
  nDown : Byte
  nChild : Byte
  deriving DecidableEq, Repr

/-- The seat and row records of a map: what a preset, the store's map section or a map image gives. -/
structure MapRecs where
  rows : Tab 5 RowRec
  seats : Tab 16 SeatMap
  deriving DecidableEq, Repr

/-- The kind of record that a map validity test fails at (R4). -/
inductive RecordKind where
  | row | seat | profile
  deriving DecidableEq, Repr

/-- Why a map record fails (R4). -/
inductive MapReason where
  | row0Removable | presenceMissing | presenceUnexpected | presenceRange | presenceReused | doorRange | seatRow
  | cellCount | gain | profileIndex | anchorRange | anchorReused | advisoryRange | advisoryRow | advisoryReused
  | noSeat | profileRange | profileOrder
  deriving DecidableEq, Repr

/-- The failing record of a map: the triple of R4. -/
structure MapFailure where
  kind : RecordKind
  index : Nat
  reason : MapReason
  deriving DecidableEq, Repr

/-! ## Scanning (chapter 2) -/

/-- A state of the Scan Controller (R17). -/
inductive ScanState where
  | halted | stopped | waiting | pass | probing
  deriving DecidableEq, Repr

/-- A channel of a harness port (R23, R24). -/
inductive Channel where
  | cell (n : Cell)
  | tension
  | buckle
  deriving DecidableEq, Repr

/-- A sample entry (R23). -/
structure Sample where
  seat : Seat
  channel : Channel
  raw : BitVec 12
  deriving DecidableEq, Repr

/-- An end-of-frame marker (R25). -/
structure Marker where
  seat : Seat
  anchor : Option Bool
  torn : Bool
  probeOnly : Bool
  deriving DecidableEq, Repr

/-- An entry of the sample queue (R26). -/
inductive Entry where
  | sample (e : Sample)
  | marker (m : Marker)
  deriving DecidableEq, Repr

/-- What a seat step is waiting for: the end of a settle wait of the length it was loaded with (R22, R24), the
completion of the conversion in flight (R23), or room for the marker it has formed (R27). -/
inductive ScanPhase where
  | settle (micros : Nat)
  | convert
  | mark (m : Marker)
  deriving DecidableEq, Repr

/-- The seat step in flight. `todo`: the channels still to convert, the one in flight first. `lost`: a sample of the
frame was lost (R26). `cut`: the frame was cut short (R28, R31). -/
structure SeatStep where
  seat : Seat
  todo : List Channel
  phase : ScanPhase
  lost : Bool
  cut : Bool
  deriving DecidableEq, Repr

/-- The scan timing values (R19): P, D and the settle time in µs. -/
structure Timing where
  p : Nat
  d : Nat
  settle : Nat
  deriving DecidableEq, Repr

/-- The cause in a probe's cancel report (R32, R36). -/
inductive CancelCause where
  | map | row | ignition
  deriving DecidableEq, Repr

/-- A condition set (R55). -/
structure Conditions where
  zero : Bool
  saturated : Bool
  open_ : Bool
  allOpen : Bool
  uncalibrated : Bool
  rail : Bool
  cinched : Bool
  deriving DecidableEq, Repr

/-- One fitted cell in the probe buffer (R32). -/
structure ProbeCell where
  cell : Cell
  raw : BitVec 12
  p : Nat
  deriving DecidableEq, Repr

/-- The probe buffer (R32, R45). `tension`: raw code and T. `buckle`: raw code and band. -/
structure ProbeBuffer where
  seat : Seat
  fromProbePass : Bool
  cells : List ProbeCell
  tension : Option (BitVec 12 × Nat)
  buckle : Option (BitVec 12 × BuckleBand)
  load : Nat
  mass : Nat
  contacts : Nat
  rail : Nat
  conditions : Conditions
  deriving DecidableEq, Repr

/-- What an ARMED probe was accepted for (R28, R29, R34): the next timed passes; a probe pass that begins when the closing
pass it was accepted in ends; or a probe pass of its own, begun or awaited in STOPPED or PROBING. -/
inductive ProbeService where
  | timed | closing | probePass
  deriving DecidableEq, Repr

/-- The probe slot (R32). -/
inductive ProbeSlot where
  | free (report : Option CancelCause)
  | armed (seat : Seat) (how : ProbeService)
  | filled (buffer : ProbeBuffer)
  deriving DecidableEq, Repr

/-! ## The Feature Unit (chapter 3) -/

/-- The calibration of one cell (R56). -/
structure CellCal where
  z : BitVec 10
  g : BitVec 10
  mark : Bool
  deriving DecidableEq, Repr

/-- The working calibration: 16 seats of 16 cells (R56). -/
abbrev Calibration := Tab 16 (Tab 16 CellCal)

/-- A cell reading in the frame accumulator (R41). -/
structure CellReading where
  raw : BitVec 12
  p : Nat
  isOpen : Bool
  deriving DecidableEq, Repr

/-- A tension reading in the frame accumulator (R53). -/
structure TensionReading where
  raw : BitVec 12
  t : Nat
  valid : Bool
  deriving DecidableEq, Repr

/-- A frame in the frame accumulator (R41). `torn`: the state is TORN; else COLLECTING. -/
structure Accumulator where
  seat : Seat
  torn : Bool
  cells : Tab 16 (Option CellReading)
  tension : Option TensionReading
  buckle : Option (BitVec 12 × BuckleBand)
  saturated : Bool
  uncalibrated : Bool
  deriving DecidableEq, Repr

/-- FEAT's intake (R40). TAKING is `entry` (an entry operation in flight, with the calibration read when the entry was
taken, R48) or `finishing` (the finishing of a frame in flight, R43). `beforeProbe`: a probe was armed for timed passes
since the marker was taken (R34). `beforeCapture`: a zero capture was opened since (R60). -/
inductive Intake where
  | idle
  | entry (e : Sample) (cal : CellCal)
  | blocked
  | finishing (m : Marker) (beforeProbe beforeCapture : Bool)
  deriving DecidableEq, Repr

/-- The state of a zero capture (R59, R60). -/
inductive CaptureState where
  | collecting | waitingStore | committing
  deriving DecidableEq, Repr

/-- The zero capture record (R59). -/
structure Capture where
  seat : Seat
  state : CaptureState
  count : Nat
  sums : Tab 16 Nat
  offsets : Option (Tab 16 Nat)
  deriving DecidableEq, Repr

/-- A mat frame in the handover slot (R46). `tension`: T and whether it is valid. -/
structure MatFrame where
  seat : Seat
  contacts : Nat
  load : Nat
  mass : Nat
  rail : Nat
  tension : Option (Nat × Bool)
  band : Option BuckleBand
  anchor : Option Bool
  conditions : Conditions
  deriving DecidableEq, Repr

/-! ## Verdicts and seat faults (chapters 4 and 5) -/

/-- The last features of a seat (R65). -/
structure LastFeatures where
  load : Nat
  mass : Nat
  contacts : Nat
  rail : Nat
  tension : Option (Nat × Bool)
  evidence : Nat
  conditions : Conditions
  deriving DecidableEq, Repr

/-- The buckle agree count: 0, or the length of a run with the band it counts, LATCHED or UNLATCHED (R89). -/
inductive Agree where
  | zero
  | run (latched : Bool) (count : Nat)
  deriving DecidableEq, Repr

/-- A record of the Seat Table (R62). -/
structure SeatRec where
  lifecycle : Lifecycle
  confirmed : Verdict
  candidate : Option Verdict
  candidateCount : Nat
  history : List Verdict
  evicted : Option Verdict
  unstable : Bool
  motionHold : Bool
  features : Option LastFeatures
  buckle : BuckleState
  agree : Agree
  buckleStreak : Nat
  anchor : AnchorState
  tensionFault : Bool
  tensionStreak : Nat
  matStreak : Nat
  cleanStreak : Nat
  latchedEmpty : Bool
  deriving DecidableEq, Repr

/-- A fault set (R95). -/
structure FaultSet where
  mat : Bool
  buckle : Bool
  tension : Bool
  deriving DecidableEq, Repr

/-! ## Reminders, advisory, retention (chapters 6 to 8) -/

/-- The five reminder settings (R98), km/h and whole seconds. -/
structure ReminderSettings where
  vRemind : Nat
  vHold : Nat
  tStart : Nat
  tVisual : Nat
  tChime : Nat
  deriving DecidableEq, Repr

/-- A reminder record (R104); both timers in steps of 0.1 s. -/
structure ReminderRec where
  state : ReminderState
  visual : Nat
  budget : Nat
  deriving DecidableEq, Repr

/-- The cabin summary (R119). -/
structure Summary where
  chime : Bool
  visual : SeatSet
  child : SeatSet
  occupied : Nat
  latched : Nat
  deriving DecidableEq, Repr

/-- The reminder case a seat is placed in (R106). -/
inductive ReminderCase where
  | notReminded | belted | unbelted | buckleUnknown | childUnsecured
  deriving DecidableEq, Repr

/-- An advisory position's record (R122). -/
structure Advisory where
  seat : Option Seat
  value : AdvisoryValue
  deriving DecidableEq, Repr

/-- An advisory record in the mailbox (R127). -/
structure AdvisoryRec where
  position : Pos
  value : AdvisoryValue
  seat : Option Seat
  confirmed : Option Verdict
  lifecycle : Option Lifecycle
  deriving DecidableEq, Repr

/-- A retention snapshot (R138); the budget in steps of 0.1 s. -/
structure Snapshot where
  confirmed : Verdict
  buckle : BuckleState
  budget : Nat
  deriving DecidableEq, Repr

/-- Why snapshots are discarded (R144). -/
inductive DiscardCause where
  | door (d : Door)
  | row | timer | map | restart | ignition
  deriving DecidableEq, Repr

/-! ## Link and store (chapters 9 and 10) -/

/-- The outcome in a CALIBRATION notice (R177). -/
inductive CalOutcome where
  | done | range | aborted
  deriving DecidableEq, Repr

/-- A notice (R159). A RETENTION notice with no cause is RESUMED (R144). -/
inductive Notice where
  | verdict (seat : Seat) (old new : Verdict)
  | stability (seat : Seat) (unstable : Bool)
  | fault (seat : Seat) (set : FaultSet) (lifecycle : Lifecycle)
  | buckle (seat : Seat) (state : BuckleState)
  | reminder (seat : Seat) (state : ReminderState)
  | cabin (chime : Bool) (visual child : SeatSet)
  | row (row : Row) (state : RowState)
  | calibration (seat : Seat) (outcome : CalOutcome)
  | retention (cause : Option DiscardCause) (seats : SeatSet)
  | store (sec : Section) (ok : Bool)
  deriving DecidableEq, Repr

/-- A state of the receiver (R150). -/
inductive RxState where
  | hunt | length | body | check | end_
  deriving DecidableEq, Repr

/-- TXD (R149): high, or sending the bytes of a frame. -/
inductive Txd where
  | high
  | sending (bytes : List Byte)
  deriving DecidableEq, Repr

/-- A reply on TXD (R149). `nChild`: the N_child of each profile record of the body, in order, which R14 and R15 have the
reply carry and R173 gives no byte (assumption log 22). -/
structure Reply where
  code : Byte
  status : Status
  body : List Byte
  nChild : List Byte := []
  deriving DecidableEq, Repr

/-- Dispatch (R153): idle, or handling until the last byte of the reply has left TXD. `restart`: a RESTART is handed to
every block then (R163, R170). -/
inductive Dispatch where
  | idle
  | handling (reply : Reply) (restart : Bool)
  deriving DecidableEq, Repr

/-- An open map transfer (R155). Its inactivity timer runs exactly while the record is open. -/
structure Transfer where
  expected : Nat
  part0 : Option (List Byte)
  part1 : Option (List Byte)
  part2 : Option (List Byte)
  deriving DecidableEq, Repr

/-- The protection switches; `true` is barred (R168). -/
structure Switches where
  map : Bool
  calibration : Bool
  profile : Bool
  clear : Bool
  deriving DecidableEq, Repr

/-- What one commit writes: a section with its contents (R166). -/
inductive SectionImage where
  | map (recs : MapRecs)
  | profiles (ps : Tab 4 Profile)
  | reminder (settings : ReminderSettings) (tRetain : Nat)
  | timing (t : Timing)
  | calibration (cal : Calibration)
  | protection (sw : Switches)
  deriving DecidableEq, Repr

/-- The section an image is of. -/
def SectionImage.sec : SectionImage → Section
  | .map _ => .map
  | .profiles _ => .profiles
  | .reminder _ _ => .reminder
  | .timing _ => .timing
  | .calibration _ => .calibration
  | .protection _ => .protection

/-- The five sections PROTECTION CLEAR writes from their working copies (R170); the map section is erased. -/
structure ClearImages where
  profiles : Tab 4 Profile
  settings : ReminderSettings
  tRetain : Nat
  timing : Timing
  cal : Calibration
  switches : Switches
  deriving DecidableEq, Repr

/-- The commit in flight (R166). -/
inductive Commit where
  | idle
  | one (image : SectionImage)
  | clear (images : ClearImages)
  deriving DecidableEq, Repr

/-- A section of the store as it stands in the non-volatile memory: its contents and its integrity byte (R164). -/
structure Sect (α : Type) where
  content : α
  integrity : Byte
  deriving DecidableEq, Repr

/-- The six sections as stored (R164). -/
structure Stored where
  mapSect : Sect MapRecs
  profilesSect : Sect (Tab 4 Profile)
  reminderSect : Sect (ReminderSettings × Nat)
  timingSect : Sect Timing
  calibrationSect : Sect Calibration
  protectionSect : Sect Switches
  deriving DecidableEq, Repr

/-- The six validity flags (R164). -/
structure SectionFlags where
  map : Bool
  profiles : Bool
  reminder : Bool
  timing : Bool
  calibration : Bool
  protection : Bool
  deriving DecidableEq, Repr

end Sys2Proof.Machine
end

