-- ==== Sys2Proof/Config.lean ====
section
/-! DEFINITION. What the spec leaves open. Each constant has no body, so no proof can see what it is; the counter
`State.free` selects a fresh value at each use. -/

namespace Sys2Proof

/-- FREE: how the notices of several blocks of one event interleave (R8, R11, R66, R136, R163). Assumption log 10. -/
opaque Config.noticeOrder : Nat → Nat

/-- FREE: how many of a RESTART's notices are posted before the queue is emptied (R61, R118, R143). Assumption log 11. -/
opaque Config.restartCut : Nat → Nat

/-- FREE: the cells, buckle bit, row, gain and profile of an unfitted seat of the preset that a strap value selects: the
tables of R6 give them for the fitted seats only. Assumption log 12. -/
opaque Config.presetUnfitted : BitVec 2 → Seat → Machine.SeatMap

/-- FREE: a row record of a map section that failed its test before and reads back passing after a failed erasure
(R170). Assumption log 13. -/
opaque Config.heldRow : Nat → Row → Machine.RowRec

/-- FREE: a seat record of such a section. Assumption log 13. -/
opaque Config.heldSeat : Nat → Seat → Machine.SeatMap

/-- FREE: the N_child of a profile record told by its bytes alone. R173 gives the record 12 bytes, of which bytes 3 to 11 hold
nine of the ten one-byte fields it lists; the tenth, N_child, has no byte. Assumption log 22. -/
opaque Config.unplacedNChild : Nat → Byte

/-- FREE: the profile by which SEAT DETAIL shows the effective thresholds of an unfitted seat. R80 asks thresholds of
every seat, R1 lets no block read the profile field of an unfitted record. Assumption log 25. -/
opaque Config.unfittedProfile : Seat → ProfileIx

/-- FREE: the byte sum of a section's contents as the store lays them out. R164 tests the sum of a section with its
integrity byte; no rule gives the bytes of the contents. Assumption log 14. -/
opaque Config.contentSum : Machine.SectionImage → Byte

/-- FREE: the integrity byte that a section damaged by a failed or cut-off write is left with. Assumption log 14. -/
opaque Config.damagedByte : Machine.SectionImage → Byte

end Sys2Proof
end

