-- ==== Sys2Proof/Machine/Defaults.lean ====
section
/-! DEFINITION. Ranges, defaults and presets: R3, R5, R6, R19, R56, R98, R147, R168. -/

namespace Sys2Proof.Machine

/-- "Clamped to lo..hi" (00_scope.md, Numbers). -/
def clamp (lo hi x : Nat) : Nat := if x < lo then lo else if hi < x then hi else x

/-- `x` lies in `lo..hi`. -/
def inRange (lo hi x : Nat) : Bool := lo ≤ x && x ≤ hi

/-! ## Profiles (R3) -/

/-- The default profile 0 and, with `mAdult` 90 and H 6, the default of profiles 1 to 3 (R3). -/
def defaultProfile (i : ProfileIx) : Profile :=
  { tc := 40, k := 40, mEmpty := 8, mPerson := 30, mAdult := if i = 0 then 94 else 90,
    h := if i = 0 then 4 else 6, sRail := 40, tCinch := 120, cSmall := 6, nUp := 3, nDown := 10, nChild := 5 }

/-- The default profiles. -/
def defaultProfiles : Tab 4 Profile := Tab.ofFn defaultProfile

/-- Whether every field of a profile lies in its range of R3. -/
def Profile.inRanges (p : Profile) : Bool :=
  inRange 1 1023 p.k.toNat && inRange 1 253 p.mEmpty.toNat && inRange 2 254 p.mPerson.toNat &&
  inRange 3 255 p.mAdult.toNat && inRange 0 20 p.h.toNat && inRange 1 4095 p.tc.toNat &&
  inRange 1 64 p.sRail.toNat && inRange 1 255 p.tCinch.toNat && inRange 1 16 p.cSmall.toNat &&
  inRange 1 20 p.nUp.toNat && inRange 1 60 p.nDown.toNat && inRange 1 30 p.nChild.toNat

/-- m_empty < m_person < m_adult (R3). -/
def Profile.ordered (p : Profile) : Bool :=
  p.mEmpty.toNat < p.mPerson.toNat && p.mPerson.toNat < p.mAdult.toNat

/-- A profile that the part may store (R3). -/
def Profile.ok (p : Profile) : Bool := p.inRanges && p.ordered

/-- A byte field clamped to its range. -/
def clampByte (lo hi : Nat) (b : Byte) : Byte := BitVec.ofNat 8 (clamp lo hi b.toNat)

/-- Every field clamped to its range of R3 (R15). -/
def Profile.clamped (p : Profile) : Profile :=
  { tc := BitVec.ofNat 12 (clamp 1 4095 p.tc.toNat), k := BitVec.ofNat 10 (clamp 1 1023 p.k.toNat),
    mEmpty := clampByte 1 253 p.mEmpty, mPerson := clampByte 2 254 p.mPerson,
    mAdult := clampByte 3 255 p.mAdult, h := clampByte 0 20 p.h, sRail := clampByte 1 64 p.sRail,
    tCinch := clampByte 1 255 p.tCinch, cSmall := clampByte 1 16 p.cSmall, nUp := clampByte 1 20 p.nUp,
    nDown := clampByte 1 60 p.nDown, nChild := clampByte 1 30 p.nChild }

/-! ## Scan timing, reminder settings, retention time, calibration, switches -/

/-- The defaults of R19. -/
def defaultTiming : Timing := { p := 1000, d := 50, settle := 100 }

/-- P, D and the settle time, each clamped to its range (R19, R38). -/
def Timing.clamped (t : Timing) : Timing :=
  { p := clamp 2 1000 t.p, d := clamp 2 65535 t.d, settle := clamp 20 500 t.settle }

/-- The effective interval, P × D clamped to 10 000..1 000 000 µs (R19). -/
def Timing.interval (t : Timing) : Nat := clamp 10000 1000000 (t.p * t.d)

/-- The defaults of R98. -/
def defaultSettings : ReminderSettings :=
  { vRemind := 20, vHold := 10, tStart := 60, tVisual := 8, tChime := 90 }

/-- The five settings, each clamped to its range (R98, R99). -/
def ReminderSettings.clamped (r : ReminderSettings) : ReminderSettings :=
  { vRemind := clamp 5 60 r.vRemind, vHold := clamp 3 60 r.vHold, tStart := clamp 10 300 r.tStart,
    tVisual := clamp 0 60 r.tVisual, tChime := clamp 10 240 r.tChime }

/-- A time in whole seconds, in steps of 0.1 s. -/
def steps (seconds : Nat) : Nat := seconds * 10

/-- The default of t_retain (R147). -/
def defaultRetain : Nat := 600

/-- t_retain clamped to its range (R147). -/
def clampRetain (t : Nat) : Nat := clamp 0 3600 t

/-- An uncalibrated cell (R56). -/
def uncalibratedCell : CellCal := { z := 300, g := 256, mark := false }

/-- Every cell uncalibrated (R56). -/
def uncalibrated : Calibration := Tab.const 16 (Tab.const 16 uncalibratedCell)

/-- Z and G lie in 64..1023 (R48, R56, R57). -/
def CellCal.inRange (c : CellCal) : Bool := 64 ≤ c.z.toNat && 64 ≤ c.g.toNat

/-- The record a stored cell gives at the load: itself, or uncalibrated when its mark is clear or its values are out of
range (R56, R165). -/
def CellCal.loaded (c : CellCal) : CellCal := if c.mark && c.inRange then c else uncalibratedCell

/-- Every switch permitted (R164). -/
def permitted : Switches := { map := false, calibration := false, profile := false, clear := false }

/-! ## The empty map and the presets (R5, R6) -/

/-- A seat of the empty map (R5). -/
def emptySeat : SeatMap :=
  { cells := 0, fitted := false, tension := false, buckle := false, presume := false, row := 0, gain := 0,
    profile := 0, advisory := 0xF, anchor := 0xFF }

/-- A non-removable row with the given door set. -/
def fixedRow (doors : Byte) : RowRec := { removable := false, presence := 0xFF, doors := doors }

/-- A bench on presence line `line` with the given door set. -/
def bench (line : Byte) (doors : Byte) : RowRec := { removable := true, presence := line, doors := doors }

/-- The empty map (R5). -/
def emptyMap : MapRecs := { rows := Tab.const 5 (fixedRow 0), seats := Tab.const 16 emptySeat }

/-- A fitted preset seat in `row` with no tension, anchor or advisory position (R6). -/
def presetSeat (row : BitVec 4) : SeatMap :=
  { cells := 0xFFFF, fitted := true, tension := false, buckle := true, presume := false, row := row, gain := 0,
    profile := if row = 0 then 0 else 1, advisory := 0xF, anchor := 0xFF }

/-- The driver's seat of every preset (R6). -/
def driverSeat : SeatMap := { presetSeat 0 with presume := true }

/-- The passenger seat of every preset: advisory 0 and tension (R6). -/
def passengerSeat : SeatMap := { presetSeat 0 with advisory := 0, tension := true }

/-- A preset seat with an anchor line. -/
def anchoredSeat (row : BitVec 4) (line : Byte) : SeatMap := { presetSeat row with anchor := line }

/-- Seats 0 to 10 of the 12- and 15-position presets, which are the same in both (R6). -/
def vanSeats : List SeatMap :=
  [driverSeat, passengerSeat, anchoredSeat 1 0, presetSeat 1, anchoredSeat 1 1, anchoredSeat 2 2, presetSeat 2,
   anchoredSeat 2 3, presetSeat 3, presetSeat 3, presetSeat 3]

/-- The fitted seats of the preset of a strap value, in seat order (R5, R6). -/
def presetSeats (strap : BitVec 2) : List SeatMap :=
  if strap = 1 then vanSeats ++ [presetSeat 3]
  else if strap = 2 then vanSeats ++ [presetSeat 4, presetSeat 4, presetSeat 4, presetSeat 4]
  else [driverSeat, { presetSeat 0 with advisory := 1 }, passengerSeat]

/-- The rows of the preset of a strap value (R6). -/
def presetRows (strap : BitVec 2) (i : Row) : RowRec :=
  let rows := if strap = 1 then [fixedRow 3, bench 0 4, bench 1 4, bench 2 12]
    else if strap = 2 then [fixedRow 3, bench 0 4, bench 1 4, bench 2 4, bench 3 12]
    else [fixedRow 11]
  rows.getD i.val (fixedRow 0)

/-- A preset seat that is not fitted: no presume occupied setting, no tension, no anchor line, no advisory position (R6);
its other fields are free (assumption log 12). -/
def unfittedPresetSeat (strap : BitVec 2) (i : Seat) : SeatMap :=
  { Config.presetUnfitted strap i with
    fitted := false, presume := false, tension := false, anchor := 0xFF, advisory := 0xF }

/-- The preset of a strap value other than 00 (R6). -/
def preset (strap : BitVec 2) : MapRecs :=
  { rows := Tab.ofFn (presetRows strap)
    seats := Tab.ofFn fun i => match (presetSeats strap)[i.val]? with
      | some m => m
      | none => unfittedPresetSeat strap i }

end Sys2Proof.Machine
end

