-- ==== Sys2Proof/Machine/Sections.lean ====
section
/-! DEFINITION. The sections of the store as they stand in the non-volatile memory (R164): the integrity byte, the integrity
test, and what reading and writing a section do. The bytes of the contents are free in their sum (assumption log 14). -/

namespace Sys2Proof.Machine

/-- The byte sum of a section, its integrity byte included (R164). -/
def sectionSum (image : SectionImage) (integrity : Byte) : Byte := Config.contentSum image + integrity

/-- A section passes its integrity test when its byte sum is 0 modulo 256 (R164). -/
def sectionPasses (image : SectionImage) (integrity : Byte) : Bool := decide (sectionSum image integrity = 0)

/-- The integrity byte chosen so that the byte sum of the section is 0 modulo 256 (R164). -/
def integrityOf (image : SectionImage) : Byte := 0 - Config.contentSum image

/-- The integrity byte of a damaged section: any value with which the section fails its test (R166, R170; assumption
log 14). -/
def damagedByte (image : SectionImage) : Byte :=
  if sectionPasses image (Config.damagedByte image) then Config.damagedByte image + 1 else Config.damagedByte image

/-- What a section gives when it is read: its contents when it passes its test, nothing when it fails (R164). `image` says
which section it is. -/
def Sect.read {α : Type} (image : α → SectionImage) (x : Sect α) : Option α :=
  if sectionPasses (image x.content) x.integrity then some x.content else none

/-- A section after a write that reads back passing or failing (R166). -/
def Sect.written {α : Type} (image : α → SectionImage) (a : α) (passes : Bool) : Sect α :=
  { content := a, integrity := if passes then integrityOf (image a) else damagedByte (image a) }

/-- The image of the reminder section. -/
def reminderOf (x : ReminderSettings × Nat) : SectionImage := .reminder x.1 x.2

/-- The map section's records. -/
def Stored.map (d : Stored) : Option MapRecs := d.mapSect.read .map

/-- The profiles section's profiles. -/
def Stored.profiles (d : Stored) : Option (Tab 4 Profile) := d.profilesSect.read .profiles

/-- The reminder settings section's settings and t_retain. -/
def Stored.reminder (d : Stored) : Option (ReminderSettings × Nat) := d.reminderSect.read reminderOf

/-- The scan timing section's values. -/
def Stored.timing (d : Stored) : Option Timing := d.timingSect.read .timing

/-- The calibration section's cells. -/
def Stored.calibration (d : Stored) : Option Calibration := d.calibrationSect.read .calibration

/-- The protection section's switches. -/
def Stored.protection (d : Stored) : Option Switches := d.protectionSect.read .protection

/-- The store after a write of one section (R166). -/
def Stored.write (d : Stored) (image : SectionImage) (passes : Bool) : Stored :=
  match image with
  | .map recs => { d with mapSect := .written .map recs passes }
  | .profiles ps => { d with profilesSect := .written .profiles ps passes }
  | .reminder r t => { d with reminderSect := .written reminderOf (r, t) passes }
  | .timing t => { d with timingSect := .written .timing t passes }
  | .calibration c => { d with calibrationSect := .written .calibration c passes }
  | .protection w => { d with protectionSect := .written .protection w passes }

/-- The store after the six writes of PROTECTION CLEAR, section n reading back as bit n of `passes`: the map section over
the records given, the others from their images (R170). -/
def clearedStore (recs : MapRecs) (c : ClearImages) (passes : BitVec 6) : Stored :=
  { mapSect := .written .map recs (passes.getLsbD 0)
    profilesSect := .written .profiles c.profiles (passes.getLsbD 1)
    reminderSect := .written reminderOf (c.settings, c.tRetain) (passes.getLsbD 2)
    timingSect := .written .timing c.timing (passes.getLsbD 3)
    calibrationSect := .written .calibration c.cal (passes.getLsbD 4)
    protectionSect := .written .protection c.switches (passes.getLsbD 5) }

/-- The sections that a full reset cuts off in their writing fail their test, whatever part had been written (R166,
R170). -/
def Stored.cutOff (d : Stored) (c : Commit) : Stored :=
  match c with
  | .idle => d
  | .one image => d.write image false
  | .clear images => clearedStore d.mapSect.content images 0

/-- A store none of whose sections passes its integrity test (assumption log 2). -/
def blankStore : Stored :=
  clearedStore emptyMap
    { profiles := defaultProfiles, settings := defaultSettings, tRetain := defaultRetain, timing := defaultTiming,
      cal := uncalibrated, switches := permitted } 0

end Sys2Proof.Machine
end

