-- ==== Sys2Proof/Machine/State.lean ====
section
/-! DEFINITION. The state of the JM16, block by block (00_scope.md, Block diagram), and the state right after reset. -/

namespace Sys2Proof.Machine

/-- CMAP: the working map and the row states (chapter 1). -/
structure CMap where
  rows : Tab 5 RowRec
  seats : Tab 16 SeatMap
  profiles : Tab 4 Profile
  /-- The map valid flag (R5, R7). -/
  valid : Bool
  /-- The strap value sampled at full reset (R5). -/
  strap : BitVec 2
  rowState : Tab 5 RowState
  /-- A row's 500 ms debounce runs, toward the state it does not hold (R9). -/
  rowDebounce : Tab 5 Bool
  deriving DecidableEq, Repr

/-- SCAN (R17). The scan list of the pass in flight is `visited`, then the seat of `step`, then `rest`. -/
structure Scan where
  state : ScanState
  closing : Bool
  visited : List Seat
  step : Option SeatStep
  rest : List Seat
  gain : Gain
  /-- The interval timer: stopped, or running with its load in µs (R20). -/
  interval : Option Nat
  queue : List Entry
  probe : ProbeSlot
  overrun : Bool
  tornFlag : Bool
  timing : Timing
  deriving DecidableEq, Repr

/-- FEAT (chapter 3). -/
structure Feat where
  intake : Intake
  acc : Option Accumulator
  cal : Calibration
  capture : Option Capture
  deriving DecidableEq, Repr

/-- VERD: the Seat Table and the handover slot (R62, R63). -/
structure Verd where
  seats : Tab 16 SeatRec
  slot : Option MatFrame
  deriving DecidableEq, Repr

/-- REM (chapter 6). -/
structure Rem where
  settings : ReminderSettings
  /-- A speed in km/h, or UNKNOWN (R100). -/
  speed : Option Nat
  /-- The freshness timer runs (R101). -/
  freshness : Bool
  /-- The start interval timer: stopped, or its remaining 0.1 s steps (R102). -/
  startTimer : Option Nat
  startElapsed : Bool
  table : Tab 16 ReminderRec
  summary : Summary
  deriving DecidableEq, Repr

/-- ADV (chapter 7). -/
structure Adv where
  positions : Tab 2 Advisory
  mailbox : Option AdvisoryRec
  superseded : Bool
  deriving DecidableEq, Repr

/-- RET (chapter 8). -/
structure Ret where
  ignition : Ignition
  ignDebounce : Bool
  /-- A door's state is OPEN (R135). -/
  doorOpen : Tab 4 Bool
  doorDebounce : Tab 4 Bool
  snapshots : Tab 16 (Option Snapshot)
  /-- The retention timer: stopped, or its remaining 0.1 s steps (R140). -/
  timer : Option Nat
  /-- t_retain in seconds (R147). -/
  tRetain : Nat
  deriving DecidableEq, Repr

/-- LNK (chapter 9). -/
structure Lnk where
  rxState : RxState
  rxLen : Byte
  /-- The receive buffer: CODE, then the body (R150). -/
  rxBuf : List Byte
  rxCheck : Byte
  /-- The inter-byte timer runs (R152). -/
  interByte : Bool
  dispatch : Dispatch
  transfer : Option Transfer
  notices : List Notice
  overflow : Bool
  /-- The attention level (R161). -/
  level : Nat
  deriving DecidableEq, Repr

/-- STORE (chapter 10). -/
structure Store where
  /-- The full-reset load is in flight: the receiver is disabled and RET watches no line (R150, R165). -/
  loading : Bool
  stored : Stored
  valid : SectionFlags
  switches : Switches
  commit : Commit
  deriving DecidableEq, Repr

/-- The hard-wired lines (00_scope.md, Signal summary): levels seen on the inputs, levels driven on the outputs. -/
structure Pins where
  ign : Bool
  door : Tab 4 Bool
  rowp : Tab 4 Bool
  anch : BitVec 8
  /-- SUPAn and SUPBn of each advisory position (R125). -/
  sup : Tab 2 (Bool × Bool)
  attn : Bool
  deriving DecidableEq, Repr

/-- The whole machine. `pending` and `free` are the model's own: the waiting commands, and the counter that selects the
next free value of Config. -/
structure State where
  cmap : CMap
  scan : Scan
  feat : Feat
  verd : Verd
  rem : Rem
  adv : Adv
  ret : Ret
  lnk : Lnk
  store : Store
  pins : Pins
  free : Nat
  pending : List Instr
  deriving DecidableEq, Repr

/-- The part has no fault that stops it: every error the spec names is an effect on State. No constructor. -/
inductive Fault where
  deriving DecidableEq, Repr

/-- Why a command has no meaning. -/
inductive Refusal where
  /-- Raised by `exec` for a command the model has not reached (none is left). Safe. -/
  | notModelled (mnemonic : String)
  deriving DecidableEq, Repr

/-! ## Right after reset -/

/-- The seat record of a seat without sensors: the fresh values of R12, UNMAPPED. DESIGN CHOICE (assumption log 3): the
Seat Table holds it for every seat while the full-reset load is in flight, before the map apply that R81 names. -/
def blankSeat : SeatRec :=
  { lifecycle := .unmapped, confirmed := .unknown, candidate := none, candidateCount := 0, history := [],
    evicted := none, unstable := false, motionHold := false, features := none, buckle := .unfitted, agree := .zero,
    buckleStreak := 0, anchor := .unfitted, tensionFault := false, tensionStreak := 0, matStreak := 0,
    cleanStreak := 0, latchedEmpty := false }

/-- CMAP before the load's map apply. Values but the row states and debounces: assumption log 3. -/
def CMap.reset : CMap :=
  { rows := emptyMap.rows, seats := emptyMap.seats, profiles := defaultProfiles, valid := false, strap := 0,
    rowState := Tab.const 5 .fixed, rowDebounce := Tab.const 5 false }

/-- SCAN at full reset (R17). -/
def Scan.reset : Scan :=
  { state := .halted, closing := false, visited := [], step := none, rest := [], gain := .x1, interval := none,
    queue := [], probe := .free none, overrun := false, tornFlag := false, timing := defaultTiming }

/-- FEAT at full reset (R40, R59). -/
def Feat.reset : Feat := { intake := .idle, acc := none, cal := uncalibrated, capture := none }

/-- A record holding NONE, a visual timer of 0 and a full budget (R104). -/
def restingReminder (tChime : Nat) : ReminderRec := { state := .none, visual := 0, budget := steps tChime }

/-- REM at full reset (R98, R100 to R104, R119). -/
def Rem.reset : Rem :=
  { settings := defaultSettings, speed := none, freshness := false, startTimer := none, startElapsed := false,
    table := Tab.const 16 (restingReminder defaultSettings.tChime)
    summary := { chime := false, visual := Tab.const 16 false, child := Tab.const 16 false, occupied := 0,
                 latched := 0 } }

/-- ADV at full reset (R126). -/
def Adv.reset : Adv :=
  { positions := Tab.const 2 { seat := none, value := .fault }, mailbox := none, superseded := false }

/-- RET at full reset (R134, R135, R138, R140). -/
def Ret.reset : Ret :=
  { ignition := .off, ignDebounce := false, doorOpen := Tab.const 4 false, doorDebounce := Tab.const 4 false,
    snapshots := Tab.const 16 none, timer := none, tRetain := defaultRetain }

/-- LNK at full reset (R150, R153, R155, R159, R161). -/
def Lnk.reset : Lnk :=
  { rxState := .hunt, rxLen := 0, rxBuf := [], rxCheck := 0, interByte := false, dispatch := .idle,
    transfer := none, notices := [], overflow := false, level := 1 }

/-- STORE at full reset, over the contents given: the load of all six sections is in flight (R165). -/
def Store.reset (stored : Stored) : Store :=
  { loading := true, stored := stored
    valid := { map := false, profiles := false, reminder := false, timing := false, calibration := false,
               protection := false }
    switches := permitted, commit := .idle }

/-- The machine right after reset: power-up with the store load in flight (R165). DESIGN CHOICE values: assumption
log 2 (store contents), 3 (working copies before the load), 4 (input levels), 10 (`free`). -/
def State.reset : State :=
  { cmap := CMap.reset, scan := Scan.reset, feat := Feat.reset
    verd := { seats := Tab.const 16 blankSeat, slot := none }
    rem := Rem.reset, adv := Adv.reset, ret := Ret.reset, lnk := Lnk.reset, store := Store.reset blankStore
    pins := { ign := false, door := Tab.const 4 false, rowp := Tab.const 4 false, anch := 0,
              sup := Tab.const 2 (false, false), attn := false }
    free := 0, pending := [] }

end Sys2Proof.Machine
end

