-- ==== Sys2Proof/Machine/Operands.lean ====
section
/-! DEFINITION. How the blocks read the records of the working map: every coded field of a seat or row record as the
value it stands for. A field of a valid map's fitted seat is always in range (R4); the readings outside that range,
which only an anchor line code of an invalid map can show, are the model's (assumption log 21). -/

namespace Sys2Proof.Machine

/-- All seats, in ascending order. -/
def allSeats : List Seat := List.finRange 16

/-- The set of the seats for which `p` holds. -/
def seatSet (p : Seat → Bool) : SeatSet := Tab.ofFn p

/-- No seat is in the set. -/
def noSeats (x : SeatSet) : Bool := allSeats.all fun i => !x.get i

/-! ## Seat records (R1, R173) -/

/-- The seat's row; row 0 for a code above 4, which no fitted seat of a valid map has (R4). -/
def SeatMap.rowIx (m : SeatMap) : Row := if h : m.row.toNat < 5 then ⟨m.row.toNat, h⟩ else 0

/-- The front-end gain of the seat's cells (R1); ×1 for a code above 3 (as above). -/
def SeatMap.gainOf (m : SeatMap) : Gain :=
  if m.gain = 1 then .x2 else if m.gain = 2 then .x4 else if m.gain = 3 then .x8 else .x1

/-- The threshold profile the seat uses (R1); profile 0 for a code above 3 (as above). -/
def SeatMap.profileIx (m : SeatMap) : ProfileIx :=
  if h : m.profile.toNat < 4 then ⟨m.profile.toNat, h⟩ else 0

/-- The advisory position the seat names, if any (R1). DESIGN CHOICE (assumption log 21): a code of 2..0xE, which R4 refuses
for a fitted seat, names none. -/
def SeatMap.advisoryPos (m : SeatMap) : Option Pos :=
  if h : m.advisory.toNat < 2 then some ⟨m.advisory.toNat, h⟩ else none

/-- The ANCHn line the seat maps, if any (R1). DESIGN CHOICE (assumption log 21): a code of 8..0xFE, which R4 refuses for a
fitted seat, maps no line; the fresh record of a fitted seat of an invalid map reads it so (R12). -/
def SeatMap.anchorLine (m : SeatMap) : Option Nat := if m.anchor.toNat < 8 then some m.anchor.toNat else none

/-- Cell `n` is in the cell set of a fitted seat. -/
def SeatMap.cellFitted (m : SeatMap) (n : Cell) : Bool := m.fitted && m.cells.getLsbD n.val

/-- The fitted cells in ascending index (R23). -/
def SeatMap.cellList (m : SeatMap) : List Cell := (List.finRange 16).filter m.cellFitted

/-- The channels a seat step converts, in order: the fitted cells, then tension, then buckle (R23, R24). -/
def SeatMap.channels (m : SeatMap) : List Channel :=
  m.cellList.map .cell ++ (if m.tension then [.tension] else []) ++ (if m.buckle then [.buckle] else [])

/-- The channel is fitted on the seat (R42). -/
def SeatMap.channelFitted (m : SeatMap) : Channel → Bool
  | .cell n => m.cellFitted n
  | .tension => m.fitted && m.tension
  | .buckle => m.fitted && m.buckle

/-- The ROWPn line of a removable row (R2). -/
def RowRec.lineIs (r : RowRec) (line : Line) : Bool := r.removable && r.presence.toNat == line.val

/-- Door `d` is in the row's door set (R2). -/
def RowRec.hasDoor (r : RowRec) (d : Door) : Bool := r.doors.getLsbD d.val

/-! ## Readings across the map -/

/-- The row record of the seat's row. -/
def CMap.rowOf (c : CMap) (i : Seat) : RowRec := c.rows.get (c.seats.get i).rowIx

/-- The profile the seat's record names, as it stands (R16). -/
def CMap.profileOf (c : CMap) (i : Seat) : Profile := c.profiles.get (c.seats.get i).profileIx

/-- The seat is a fitted seat of the row. -/
def CMap.inRow (c : CMap) (r : Row) (i : Seat) : Bool :=
  (c.seats.get i).fitted && decide ((c.seats.get i).rowIx = r)

/-- Door `d` is in the door set of the seat's row (R1, R2). -/
def CMap.behindDoor (c : CMap) (d : Door) (i : Seat) : Bool := (c.rowOf i).hasDoor d

/-- A cell is fitted when the map is valid, the seat's record is fitted and the cell is in its cell set (R57). -/
def CMap.cellFitted (c : CMap) (i : Seat) (n : Cell) : Bool := c.valid && (c.seats.get i).cellFitted n

/-- The fitted seat whose record names an advisory position, of a valid map (R122). -/
def CMap.advisorySeat (c : CMap) (p : Pos) : Option Seat :=
  if c.valid then
    allSeats.find? fun i => (c.seats.get i).fitted && decide ((c.seats.get i).advisoryPos = some p)
  else none

/-- The lifecycle the map and the row states give a seat, at a map apply or at RESTART (R7, R13). -/
def CMap.lifecycleOf (c : CMap) (i : Seat) : Lifecycle :=
  let m := c.seats.get i
  if !c.valid || !m.fitted then .unmapped
  else if c.rowState.get m.rowIx = .removed then .absent
  else .active

/-- The level that a line position of ANCH0..ANCH7 shows. -/
def Pins.anchLevel (p : Pins) (line : Nat) : Bool := p.anch.getLsbD line

end Sys2Proof.Machine
end

