-- ==== Sys2Proof/Machine/Layouts.lean ====
section
/-! DEFINITION. Byte layouts and code values of everything carried on the link: R149 and chapter 11 (R171 to R178).
Records with exact wire places are read and written on bit vectors; other fields are written from numbers. -/

namespace Sys2Proof.Machine

/-! ## Fields (R171) -/

/-- A number as one byte. -/
def byteOf (n : Nat) : Byte := BitVec.ofNat 8 n

/-- A field of two bytes, low byte first. -/
def le16 (n : Nat) : List Byte := [byteOf n, byteOf (n / 256)]

/-- A packed group of three bytes, low byte first. -/
def le24 (n : Nat) : List Byte := [byteOf n, byteOf (n / 256), byteOf (n / 65536)]

/-- The number of a two-byte field. -/
def ofLe16 (lo hi : Byte) : Nat := lo.toNat + 256 * hi.toNat

/-- The number of a packed group. -/
def ofLe24 (b0 b1 b2 : Byte) : Nat := b0.toNat + 256 * b1.toNat + 65536 * b2.toNat

/-- Bit `n` of the number is the entry `n` of the list. -/
def bitsOf : List Bool → Nat
  | [] => 0
  | b :: bs => b.toNat + 2 * bitsOf bs

/-- A set of seats: bit n stands for seat n. -/
def seatSetBytes (x : SeatSet) : List Byte := le16 (bitsOf x.cells)

/-- A byte field that may be absent: 0xFF when absent. -/
def optByte (x : Option Nat) : Byte := match x with | some n => byteOf n | none => 0xFF

/-! ## Codes (R171, R172, R173, R177) -/

def Verdict.code : Verdict → Nat
  | .unknown => 0 | .empty => 1 | .object => 2 | .childSeat => 3 | .small => 4 | .adult => 5

def Lifecycle.code : Lifecycle → Nat
  | .unmapped => 0 | .absent => 1 | .active => 2 | .faulted => 3

def BuckleState.code : BuckleState → Nat
  | .unfitted => 0 | .unknown => 1 | .unlatched => 2 | .latched => 3 | .fault => 4

def AnchorState.code : AnchorState → Nat
  | .unfitted => 0 | .free => 1 | .engaged => 2

def ReminderState.code : ReminderState → Nat
  | .none => 0 | .armed => 1 | .visual => 2 | .audible => 3 | .capped => 4 | .latched => 5 | .childUnsecured => 6

def AdvisoryValue.code : AdvisoryValue → Nat
  | .fault => 0 | .suppress => 1 | .enable => 2

def RowState.code : RowState → Nat
  | .fixed => 0 | .installed => 1 | .removed => 2

def Section.code : Section → Nat
  | .map => 0 | .profiles => 1 | .reminder => 2 | .timing => 3 | .calibration => 4 | .protection => 5

def ScanState.code : ScanState → Nat
  | .halted => 0 | .stopped => 1 | .waiting => 2 | .pass => 3 | .probing => 4

def Ignition.code : Ignition → Nat
  | .off => 0 | .on => 1

/-- A probe cancel report, NONE when absent. -/
def cancelCode : Option CancelCause → Nat
  | none => 0 | some .map => 1 | some .row => 2 | some .ignition => 3

def Status.code : Status → Byte
  | .ok => 0x00 | .accepted => 0x01 | .badCheck => 0x10 | .badLength => 0x11 | .badFrame => 0x12
  | .unknownRequest => 0x13 | .badArg => 0x14 | .busy => 0x20 | .notReady => 0x21 | .state => 0x22
  | .barred => 0x23 | .mapInvalid => 0x24 | .noTransfer => 0x25

def RecordKind.code : RecordKind → Nat
  | .row => 0 | .seat => 1 | .profile => 2

def MapReason.code : MapReason → Nat
  | .row0Removable => 1 | .presenceMissing => 2 | .presenceUnexpected => 3 | .presenceRange => 4
  | .presenceReused => 5 | .doorRange => 6 | .seatRow => 7 | .cellCount => 8 | .gain => 9 | .anchorRange => 10
  | .anchorReused => 11 | .advisoryRange => 12 | .advisoryRow => 13 | .advisoryReused => 14 | .noSeat => 15
  | .profileRange => 16 | .profileOrder => 17 | .profileIndex => 18

def Conditions.bits (c : Conditions) : Nat :=
  bitsOf [c.zero, c.saturated, c.open_, c.allOpen, c.uncalibrated, c.rail, c.cinched]

def FaultSet.bits (f : FaultSet) : Nat := bitsOf [f.mat, f.buckle, f.tension]

def Switches.bits (w : Switches) : Nat := bitsOf [w.map, w.calibration, w.profile, w.clear]

/-- The four switch settings of a PROTECT SET byte (R171, R178). DESIGN CHOICE (assumption log 28): bits 4 to 7, of which no
rule speaks, are ignored. -/
def Switches.ofByte (b : Byte) : Switches :=
  { map := b.getLsbD 0, calibration := b.getLsbD 1, profile := b.getLsbD 2, clear := b.getLsbD 3 }

def SectionFlags.bits (v : SectionFlags) : Nat :=
  bitsOf [v.map, v.profiles, v.reminder, v.timing, v.calibration, v.protection]

def speedByte (x : Option Nat) : Byte := optByte x

/-! ## Map image records (R173) -/

/-- A row record's three bytes. -/
def RowRec.bytes (r : RowRec) : List Byte := [BitVec.setWidth 8 (BitVec.ofBool r.removable), r.presence, r.doors]

/-- The row record of three bytes. -/
def RowRec.ofBytes (b0 b1 b2 : Byte) : RowRec := { removable := b0.getLsbD 0, presence := b1, doors := b2 }

/-- A seat record's six bytes. -/
def SeatMap.bytes (m : SeatMap) : List Byte :=
  [m.cells.extractLsb' 0 8, m.cells.extractLsb' 8 8,
   byteOf (bitsOf [m.fitted, m.tension, m.buckle, m.presume]),
   m.gain ++ m.row, m.advisory ++ m.profile, m.anchor]

/-- The seat record of six bytes. -/
def SeatMap.ofBytes (b0 b1 b2 b3 b4 b5 : Byte) : SeatMap :=
  { cells := b1 ++ b0, fitted := b2.getLsbD 0, tension := b2.getLsbD 1, buckle := b2.getLsbD 2,
    presume := b2.getLsbD 3, row := b3.extractLsb' 0 4, gain := b3.extractLsb' 4 4,
    profile := b4.extractLsb' 0 4, advisory := b4.extractLsb' 4 4, anchor := b5 }

/-- A profile record's packed group: Tc in bits 0 to 11, K in bits 12 to 21. -/
def Profile.group (p : Profile) : BitVec 24 := (0 : BitVec 2) ++ (p.k ++ p.tc)

/-- A profile record's twelve bytes: the packed group, then the first nine of the ten one-byte fields that R173 lists for
bytes 3 to 11. N_child has no byte: it goes beside the record (assumption log 22). -/
def Profile.bytes (p : Profile) : List Byte :=
  [p.group.extractLsb' 0 8, p.group.extractLsb' 8 8, p.group.extractLsb' 16 8,
   p.mEmpty, p.mPerson, p.mAdult, p.h, p.sRail, p.tCinch, p.cSmall, p.nUp, p.nDown]

/-- The profile record of twelve bytes, with the N_child that goes beside it (R173; assumption log 22). -/
def Profile.ofBytes (nChild : Byte) (b : List Byte) : Profile :=
  let g : BitVec 24 := b.getD 2 0 ++ (b.getD 1 0 ++ b.getD 0 0)
  { tc := g.extractLsb' 0 12, k := g.extractLsb' 12 10, mEmpty := b.getD 3 0, mPerson := b.getD 4 0,
    mAdult := b.getD 5 0, h := b.getD 6 0, sRail := b.getD 7 0, tCinch := b.getD 8 0, cSmall := b.getD 9 0,
    nUp := b.getD 10 0, nDown := b.getD 11 0, nChild := nChild }

/-- Record `i` of a run of records of `n` bytes each. -/
def recordAt (n : Nat) (bytes : List Byte) (i : Nat) : List Byte := (bytes.drop (n * i)).take n

/-- The row record of three bytes of a list. -/
def RowRec.ofList (b : List Byte) : RowRec := RowRec.ofBytes (b.getD 0 0) (b.getD 1 0) (b.getD 2 0)

/-- The seat record of six bytes of a list. -/
def SeatMap.ofList (b : List Byte) : SeatMap :=
  SeatMap.ofBytes (b.getD 0 0) (b.getD 1 0) (b.getD 2 0) (b.getD 3 0) (b.getD 4 0) (b.getD 5 0)

/-- The seat and row records of the staged parts 0 to 2 (R155, R173). -/
def MapRecs.ofParts (part0 part1 part2 : List Byte) : MapRecs :=
  { rows := Tab.ofFn fun i => RowRec.ofList (recordAt 3 part0 i.val)
    seats := Tab.ofFn fun i =>
      SeatMap.ofList (if i.val < 8 then recordAt 6 part1 i.val else recordAt 6 part2 (i.val - 8)) }

/-- A profile record of a map image told by its bytes alone, against the working profile of its index: a record that carries
what MAP READ returned for that profile is that profile, N_child included (R14; assumption log 22). -/
def Profile.writtenBack (held sent : Profile) : Profile :=
  if { sent with nChild := held.nChild } = held then held else sent

/-- The four profiles of part 3: with the N_child sent, or, told by the bytes alone, written over the working profiles with
free values that `k` selects (assumption log 22). -/
def profilesOfPart (held : Tab 4 Profile) (k : Nat) (nChild : Option (Tab 4 Byte)) (part3 : List Byte) : Tab 4 Profile :=
  Tab.ofFn fun i =>
    let record := recordAt 12 part3 i.val
    match nChild with
    | some n => Profile.ofBytes (n.get i) record
    | none => (held.get i).writtenBack (Profile.ofBytes (Config.unplacedNChild (k + i.val)) record)

/-- The N_child of a PROFILE WRITE: the one sent, or, told by the bytes alone, a free one (R15; assumption log 22). -/
def sentNChild (k : Nat) (nChild : Option Byte) : Byte := nChild.getD (Config.unplacedNChild k)

/-- The records of a part of the working map, in the layout MAP WRITE carries them in (R14, R173). -/
def CMap.partBytes (c : CMap) (part : Nat) : List Byte :=
  if part = 0 then c.rows.cells.flatMap RowRec.bytes
  else if part = 1 then (c.seats.cells.take 8).flatMap SeatMap.bytes
  else if part = 2 then (c.seats.cells.drop 8).flatMap SeatMap.bytes
  else c.profiles.cells.flatMap Profile.bytes

/-- The three bytes of a MAP_INVALID body (R173). -/
def MapFailure.bytes (f : MapFailure) : List Byte := [byteOf f.kind.code, byteOf f.index, byteOf f.reason.code]

/-! ## Calibration (R174) -/

/-- A CAL WRITE entry: the cell and its Z and G. -/
structure CalEntry where
  cell : Cell
  z : BitVec 10
  g : BitVec 10
  deriving DecidableEq, Repr

/-- The entry of a packed group. -/
def CalEntry.ofBytes (b0 b1 b2 : Byte) : CalEntry :=
  let g : BitVec 24 := b2 ++ (b1 ++ b0)
  { cell := ⟨(g.extractLsb' 20 4).toNat, (g.extractLsb' 20 4).isLt⟩, z := g.extractLsb' 0 10,
    g := g.extractLsb' 10 10 }

/-- The entries of a CAL WRITE body after its first two bytes. -/
def calEntries : List Byte → List CalEntry
  | b0 :: b1 :: b2 :: rest => CalEntry.ofBytes b0 b1 b2 :: calEntries rest
  | _ => []

/-- A cell's packed group in the CAL READ reply. -/
def calGroup (c : CellCal) (fitted : Bool) : List Byte :=
  le24 (c.z.toNat + c.g.toNat * 2 ^ 10 + c.mark.toNat * 2 ^ 20 + fitted.toNat * 2 ^ 21)

/-! ## Seat replies (R175) -/

/-- The two bytes of a seat in SEAT SUMMARY. -/
def summaryBytes (r : SeatRec) (m : ReminderState) : List Byte :=
  [byteOf (r.lifecycle.code + r.confirmed.code * 16),
   byteOf (r.buckle.code + m.code * 8 + r.latchedEmpty.toNat * 128)]

/-- The agree count byte. -/
def agreeByte : Agree → Byte
  | .zero => 0
  | .run latched n => byteOf (n + (if latched then BuckleState.latched.code else BuckleState.unlatched.code) * 16)

/-- Feature bytes 20 to 27 of SEAT DETAIL: L, M, C, S, T, E, 0 when absent (R175), and the condition set, 0xFF when absent
as R171 gives it for a byte that may be absent (DEDUCED, assumption log 26). -/
def featureBytes : Option LastFeatures → List Byte
  | none => [0, 0, 0, 0, 0, 0, 0, 0xFF]
  | some f =>
      le16 f.load ++ [byteOf f.mass, byteOf f.contacts, byteOf f.rail,
        byteOf (match f.tension with | some t => t.1 | none => 0), byteOf f.evidence, byteOf f.conditions.bits]

/-- The flags byte of SEAT DETAIL. -/
def detailFlags (r : SeatRec) : Byte :=
  let tension := match r.features with | some f => f.tension | none => none
  byteOf (bitsOf [r.unstable, r.motionHold, r.features.isSome, tension.isSome,
    (match tension with | some t => t.2 | none => false), r.tensionFault, r.latchedEmpty])

/-- The SEAT DETAIL body, given the derived required count and thresholds (R80). -/
def detailBytes (seat : Nat) (r : SeatRec) (required : Nat) (te tp ta : Nat) : List Byte :=
  [byteOf seat, byteOf r.lifecycle.code, byteOf r.confirmed.code,
   byteOf (match r.candidate with | some v => v.code | none => 0), byteOf r.candidateCount, byteOf required,
   byteOf te, byteOf tp, byteOf ta, byteOf r.history.length] ++
  (List.range 8).map (fun i => match r.history[i]? with | some v => byteOf v.code | none => 0) ++
  [byteOf (match r.evicted with | some v => v.code | none => 0), detailFlags r] ++
  featureBytes r.features ++
  [byteOf r.buckle.code, agreeByte r.agree, byteOf r.buckleStreak, byteOf r.anchor.code, byteOf r.tensionStreak,
   byteOf r.matStreak, byteOf r.cleanStreak]

/-! ## Probe buffer (R176) -/

/-- The PROBE READ body. -/
def ProbeBuffer.bytes (b : ProbeBuffer) : List Byte :=
  le24 (b.rail + b.contacts * 2 ^ 7 + b.conditions.bits * 2 ^ 12 + b.seat.val * 2 ^ 19 + b.fromProbePass.toNat * 2 ^ 23) ++
  [byteOf b.mass] ++
  le24 ((match b.tension with | some t => t.1.toNat | none => 0) +
    (match b.buckle with | some k => k.1.toNat | none => 0) * 2 ^ 12) ++
  b.cells.flatMap fun c => le24 (c.raw.toNat + c.p * 2 ^ 12)

/-! ## Notices and the advisory (R177) -/

/-- The cause and door bytes of a RETENTION notice. -/
def causeBytes : Option DiscardCause → List Byte
  | none => [0xFF, 0xFF]
  | some (.door d) => [0, byteOf d.val]
  | some .row => [1, 0xFF]
  | some .timer => [2, 0xFF]
  | some .map => [3, 0xFF]
  | some .restart => [4, 0xFF]
  | some .ignition => [5, 0xFF]

/-- The six bytes of a notice. -/
def Notice.bytes : Notice → List Byte
  | .verdict i old new => [1, byteOf i.val, byteOf old.code, byteOf new.code, 0, 0]
  | .stability i u => [2, byteOf i.val, byteOf u.toNat, 0, 0, 0]
  | .fault i f l => [3, byteOf i.val, byteOf f.bits, byteOf l.code, 0, 0]
  | .buckle i b => [4, byteOf i.val, byteOf b.code, 0, 0, 0]
  | .reminder i r => [5, byteOf i.val, byteOf r.code, 0, 0, 0]
  | .cabin c v u => [6, byteOf c.toNat] ++ seatSetBytes v ++ seatSetBytes u
  | .row r st => [7, byteOf r.val, byteOf st.code, 0, 0, 0]
  | .calibration i o =>
      [8, byteOf i.val, (match o with | .done => 0 | .range => 1 | .aborted => 2), 0, 0, 0]
  | .retention c x => [9, (match c with | none => 0 | some _ => 1)] ++ causeBytes c ++ seatSetBytes x
  | .store x ok => [10, byteOf x.code, (if ok then 0 else 1), 0, 0, 0]

/-- Verdict and lifecycle bytes of an advisory: 0xFF when the seat is none. -/
def AdvisoryRec.bytes (r : AdvisoryRec) : List Byte :=
  [byteOf r.position.val, byteOf r.value.code, optByte (r.seat.map Fin.val), optByte (r.confirmed.map Verdict.code),
   optByte (r.lifecycle.map Lifecycle.code)]

/-- The mailbox record in the ADVISORY READ reply. -/
def mailboxBytes : Option AdvisoryRec → List Byte
  | none => [0xFF, 0xFF, 0xFF, 0xFF, 0xFF]
  | some r => r.bytes

/-! ## Link frames and TXD (R149) -/

/-- The byte sum of a list, modulo 256. -/
def byteSum (bs : List Byte) : Byte := bs.foldl (· + ·) 0

/-- The CHECK byte that makes the byte sum of the given bytes and itself 0 modulo 256. -/
def checkOf (bs : List Byte) : Byte := 0 - byteSum bs

/-- A reply as the run of bytes that leaves TXD. -/
def Reply.frame (r : Reply) : List Byte :=
  let inner := byteOf (r.body.length + 2) :: r.code :: r.status.code :: r.body
  0x3E :: inner ++ [checkOf inner, 0x0D]

/-- TXD: the frame of the reply under way, high otherwise (R149). Dispatch holds the reply, so the level is stored once,
there. A full reset leaves dispatch idle, and nothing puts a reply on the line until the load is complete: TXD is high for
all the time that RESET is low. -/
def State.txd (s : State) : Txd :=
  match s.lnk.dispatch with
  | .idle => .high
  | .handling r _ => .sending r.frame

/-- A request as the run of bytes that a host sends. -/
def requestFrame (code : Byte) (f : ReqFrame) : List Byte :=
  let inner := byteOf (f.body.length + 1) :: code :: f.body
  0x3C :: inner ++ [checkOf inner, if f.final then 0x0D else 0x0B]

end Sys2Proof.Machine
end

