-- ==== Sys2Proof/Machine/Ops.lean ====
section
/-! DEFINITION. The operations every block shares: posting notices and driving ATTN (R159, R161), the free order of
notices of one event, starting a commit (R166), and the taking of a request by LNK (R153). -/

namespace Sys2Proof.Machine

/-! ## ATTN and the notice queue -/

/-- ATTN recalculated from the notice count, the attention level and the mailbox (R161). -/
def State.refreshAttn (s : State) : State :=
  { s with pins := { s.pins with
      attn := decide (s.lnk.level ≤ s.lnk.notices.length) || s.adv.mailbox.isSome } }

/-- LNK with a notice placed at the tail of the queue, or dropped with the overflow flag set when 32 are held (R159). -/
def Lnk.post (l : Lnk) (n : Notice) : Lnk :=
  if l.notices.length < 32 then { l with notices := l.notices ++ [n] } else { l with overflow := true }

/-- A block posts a notice (R159); ATTN follows (R161). -/
def post (n : Notice) (s : State) : State := { s with lnk := s.lnk.post n }.refreshAttn

/-- Notices posted in list order. -/
def postAll : List Notice → State → State
  | [], s => s
  | n :: ns, s => postAll ns (post n s)

/-- An interleaving of two lists that keeps the order of each; `c` selects which, and every one is selected by some
`c`. -/
def interleave {α : Type} (c : Nat) : List α → List α → List α
  | [], ys => ys
  | x :: xs, [] => x :: xs
  | x :: xs, y :: ys =>
      let k := c % (ys.length + 2)
      (y :: ys).take k ++ x :: interleave (c / (ys.length + 2)) xs ((y :: ys).drop k)

/-- The notices of several blocks at one event, each block's in its own order and the blocks' order free. `k` is the
counter of free values. -/
def mergeNotices (k : Nat) : List (List Notice) → List Notice
  | [] => []
  | g :: gs => interleave (Config.noticeOrder k) g (mergeNotices (k + 1) gs)

/-- Post the notices of several blocks whose order the spec leaves open. FREE, assumption log 10. -/
def postMerged (groups : List (List Notice)) (s : State) : State :=
  postAll (mergeNotices s.free groups) { s with free := s.free + groups.length }

/-! ## Commits -/

/-- The store is COMMITTING (R166). -/
def Store.committing (st : Store) : Bool :=
  match st.commit with
  | .idle => false
  | .one _ => true
  | .clear _ => true

/-- The store starts writing a section from its working copy (R166). -/
def startCommit (image : SectionImage) (s : State) : State :=
  { s with store := { s.store with commit := .one image } }

/-! ## Requests -/

/-- What the owner of a request answers: the state it leaves, the reply's status and body, whether a RESTART follows the
reply (R153, R163, R170), and the N_child of each profile record of the body (assumption log 22). -/
structure Answer where
  state : State
  status : Status
  body : List Byte
  restart : Bool
  nChild : List Byte

/-- Answered OK with a result. -/
def Answer.ok (s : State) (body : List Byte) : Answer := ⟨s, .ok, body, false, []⟩

/-- Answered with a body that ends in the records of these profiles: the N_child of each goes with them (R14, R15). -/
def Answer.withProfiles (a : Answer) (ps : List Profile) : Answer := { a with nChild := ps.map Profile.nChild }

/-- Refused: a status, an empty body, no effect (R154). -/
def Answer.refuse (st : Status) (s : State) : Answer := ⟨s, st, [], false, []⟩

/-- An open map transfer is closed and its staging discarded (R158). -/
def closeTransfer (s : State) : State := { s with lnk := { s.lnk with transfer := none } }

/-- The code of MAP WRITE (R172). -/
def mapWriteCode : Byte := 0x10

/-- Dispatch can take a request: the receiver is enabled (R150) and dispatch is idle (R153). -/
def State.canTake (s : State) : Bool := !s.store.loading && decide (s.lnk.dispatch = .idle)

/-- LNK takes a request: a transfer is closed unless it is a MAP WRITE, the owner answers, and dispatch is handling until
the reply has left TXD. Otherwise the frame is discarded without effect (R153). -/
def takeRequest (code : Byte) (owner : State → Answer) (s : State) : State :=
  if s.canTake then
    let a := owner (if code = mapWriteCode then s else closeTransfer s)
    { a.state with lnk := { a.state.lnk with
        dispatch := .handling { code := code, status := a.status, body := a.body, nChild := a.nChild } a.restart } }
  else s

/-- The form check of a request without arguments (R153): an empty body and a final frame. -/
def formEmpty (f : ReqFrame) (owner : State → Answer) (s : State) : Answer :=
  match f.final, f.body with
  | true, [] => owner s
  | _, _ => Answer.refuse .badArg s

/-- The form check of a request with a one-byte body (R153). -/
def formByte (f : ReqFrame) (owner : Byte → State → Answer) (s : State) : Answer :=
  match f.final, f.body with
  | true, [b] => owner b s
  | _, _ => Answer.refuse .badArg s

/-- The argument check of a request that names a seat: above 15 is refused with BAD_ARG. -/
def seatArg (b : Byte) (owner : Seat → State → Answer) (s : State) : Answer :=
  if h : b.toNat < 16 then owner ⟨b.toNat, h⟩ s else Answer.refuse .badArg s

/-- A request whose one-byte body names a seat. -/
def formSeat (f : ReqFrame) (owner : Seat → State → Answer) (s : State) : Answer :=
  formByte f (fun b => seatArg b owner) s

/-- The three common refusals of a request that starts a commit: barred by a switch, then the store committing. -/
def guardCommit (barred : Bool) (owner : State → Answer) (s : State) : Answer :=
  if barred then Answer.refuse .barred s
  else if s.store.committing then Answer.refuse .busy s
  else owner s

end Sys2Proof.Machine
end

