-- ==== Sys2Proof/Machine/Advisory.lean ====
section
/-! DEFINITION. ADV (chapter 7): the value of a position (R123), its pair (R125), the mailbox (R127, R128) and the
evaluations (R124, R131, R132). -/

namespace Sys2Proof.Machine

/-- The value of a position with the given mapped seat (R123). -/
def advisoryValue (seats : Tab 16 SeatRec) (mapped : Option Seat) : AdvisoryValue :=
  match mapped with
  | none => .fault
  | some i => match (seats.get i).lifecycle with
    | .active => if (seats.get i).confirmed = .adult then .enable else .suppress
    | _ => .fault

/-- The levels of SUPAn and SUPBn for a value (R125). -/
def AdvisoryValue.pair : AdvisoryValue → Bool × Bool
  | .enable => (true, false)
  | .suppress => (false, true)
  | .fault => (false, false)

/-- The advisory record of a position whose value has become `v` (R127). -/
def advisoryRecord (seats : Tab 16 SeatRec) (p : Pos) (a : Advisory) (v : AdvisoryValue) : AdvisoryRec :=
  { position := p, value := v, seat := a.seat
    confirmed := a.seat.map fun i => (seats.get i).confirmed
    lifecycle := a.seat.map fun i => (seats.get i).lifecycle }

/-- An advisory record posted to the mailbox: it fills an empty one, or supersedes the record held (R128). -/
def Adv.mail (a : Adv) (r : AdvisoryRec) : Adv :=
  { a with mailbox := some r, superseded := a.superseded || a.mailbox.isSome }

/-- ADV evaluates a position: on a change the value is stored, the pair driven and a record posted (R124, R133). -/
def evaluatePosition (p : Pos) (s : State) : State :=
  let a := s.adv.positions.get p
  let v := advisoryValue s.verd.seats a.seat
  if v = a.value then s
  else
    { s with
      adv := { s.adv with positions := s.adv.positions.set p { a with value := v } }.mail
        (advisoryRecord s.verd.seats p a v)
      pins := { s.pins with sup := s.pins.sup.set p v.pair } }.refreshAttn

/-- A position whose mapped seat is among those concerned is evaluated. -/
def evaluateIf (concerned : Seat → Bool) (p : Pos) (s : State) : State :=
  match (s.adv.positions.get p).seat with
  | some i => if concerned i then evaluatePosition p s else s
  | none => s

/-- ADV evaluates the positions of the seats concerned, position 0 first (R124). -/
def advSeats (concerned : Seat → Bool) (s : State) : State :=
  evaluateIf concerned 1 (evaluateIf concerned 0 s)

/-- ADV evaluates both positions, position 0 first (R124). -/
def advBoth (s : State) : State := evaluatePosition 1 (evaluatePosition 0 s)

/-- The mailbox emptied and its flag cleared (R128). -/
def emptyMailbox (s : State) : State :=
  { s with adv := { s.adv with mailbox := none, superseded := false } }.refreshAttn

/-- ADV at a map apply: the mapped seats derived from the applied map, then both positions evaluated (R122, R132). -/
def advApply (s : State) : State :=
  advBoth { s with adv := { s.adv with
    positions := Tab.ofFn fun p => { s.adv.positions.get p with seat := s.cmap.advisorySeat p } } }

/-- ADV at RESTART: the mailbox emptied, then both positions evaluated (R131). -/
def advRestart (s : State) : State := advBoth (emptyMailbox s)

end Sys2Proof.Machine
end

