-- ==== Sys2Proof/Machine/CabinMap.lean ====
section
/-! DEFINITION. CMAP (chapter 1): the validity tests of a map image (R4), fresh seat records and lifecycles (R12, R13), the
part of a map apply that is CMAP's own (R7), and the row debounces (R9). -/

namespace Sys2Proof.Machine

/-! ## Validity (R4) -/

/-- The reason of the first test that fails; each test is given with what makes it fail. -/
def firstFailing : List (Bool × MapReason) → Option MapReason
  | [] => none
  | (fails, reason) :: rest => if fails then some reason else firstFailing rest

/-- Presence line or anchor line byte for none. -/
def noLine : Byte := 0xFF

/-- An earlier row uses the presence line of row `i`. -/
def MapRecs.presenceReused (m : MapRecs) (i : Row) : Bool :=
  (List.finRange 5).any fun j => decide (j < i) && decide ((m.rows.get j).presence = (m.rows.get i).presence)

/-- The reason row `i` fails, in the order of R4's table. -/
def MapRecs.rowFailure (m : MapRecs) (i : Row) : Option MapReason :=
  let r := m.rows.get i
  firstFailing [
    (decide (i = 0) && r.removable, .row0Removable),
    (r.removable && decide (r.presence = noLine), .presenceMissing),
    (!r.removable && decide (r.presence ≠ noLine), .presenceUnexpected),
    (decide (r.presence ≠ noLine) && decide (3 < r.presence.toNat), .presenceRange),
    (decide (r.presence ≠ noLine) && m.presenceReused i, .presenceReused),
    (decide (15 < r.doors.toNat), .doorRange)]

/-- An earlier fitted seat for which `same` holds. -/
def MapRecs.earlierSeat (m : MapRecs) (i : Seat) (same : SeatMap → Bool) : Bool :=
  allSeats.any fun j => decide (j < i) && (m.seats.get j).fitted && same (m.seats.get j)

/-- The reason fitted seat `i` fails, in the order of R4's table. -/
def MapRecs.seatFailure (m : MapRecs) (i : Seat) : Option MapReason :=
  let r := m.seats.get i
  if r.fitted then
    firstFailing [
      (decide (4 < r.row.toNat), .seatRow),
      (decide (r.cellList.length < 4), .cellCount),
      (decide (3 < r.gain.toNat), .gain),
      (decide (3 < r.profile.toNat), .profileIndex),
      (decide (r.anchor ≠ noLine) && decide (7 < r.anchor.toNat), .anchorRange),
      (decide (r.anchor ≠ noLine) && m.earlierSeat i (fun o => decide (o.anchor = r.anchor)), .anchorReused),
      (decide (r.advisory ≠ 0xF) && decide (1 < r.advisory.toNat), .advisoryRange),
      (decide (r.advisory ≠ 0xF) && decide (r.row ≠ 0), .advisoryRow),
      (decide (r.advisory ≠ 0xF) && m.earlierSeat i (fun o => decide (o.advisory = r.advisory)), .advisoryReused)]
  else none

/-- The reason a profile fails. -/
def Profile.failure (p : Profile) : Option MapReason :=
  firstFailing [(!p.inRanges, .profileRange), (!p.ordered, .profileOrder)]

/-- The first record of a list of indices that fails, as R4's triple. -/
def firstRecord {n : Nat} (kind : RecordKind) (test : Fin n → Option MapReason) : List (Fin n) → Option MapFailure
  | [] => none
  | i :: rest => match test i with
    | some reason => some { kind := kind, index := i.val, reason := reason }
    | none => firstRecord kind test rest

/-- No seat of the map is fitted. -/
def MapRecs.noSeat (m : MapRecs) : Bool := allSeats.all fun i => !(m.seats.get i).fitted

/-- The failing record of a map image, or none when it is valid (R4): rows, seats, some seat fitted, profiles. -/
def mapFailure (m : MapRecs) (profiles : Tab 4 Profile) : Option MapFailure :=
  match firstRecord .row m.rowFailure (List.finRange 5) with
  | some f => some f
  | none => match firstRecord .seat m.seatFailure allSeats with
    | some f => some f
    | none =>
        if m.noSeat then some { kind := .seat, index := 0, reason := .noSeat }
        else firstRecord .profile (fun i => (profiles.get i).failure) (List.finRange 4)

/-- The image passes every test of R4. -/
def mapValid (m : MapRecs) (profiles : Tab 4 Profile) : Bool := (mapFailure m profiles).isNone

/-! ## Fresh records and lifecycles (R12, R13) -/

/-- The fresh seat record of a seat map record, with the lifecycle given (R12). -/
def freshSeat (m : SeatMap) (l : Lifecycle) : SeatRec :=
  { lifecycle := l, confirmed := .unknown, candidate := none, candidateCount := 0, history := [], evicted := none,
    unstable := false, motionHold := false, features := none
    buckle := if m.fitted && m.buckle then .unknown else .unfitted
    agree := .zero, buckleStreak := 0
    anchor := if m.fitted && m.anchorLine.isSome then .free else .unfitted
    tensionFault := false, tensionStreak := 0, matStreak := 0, cleanStreak := 0, latchedEmpty := false }

/-- Every seat record fresh, with the lifecycle of the working map and the row states (R7, R13). -/
def CMap.freshSeats (c : CMap) : Tab 16 SeatRec := Tab.ofFn fun i => freshSeat (c.seats.get i) (c.lifecycleOf i)

/-! ## The map apply at CMAP (R7) -/

/-- The level of a removable row's presence line. -/
def Pins.presenceLevel (p : Pins) (r : RowRec) : Bool := (List.finRange 4).any fun l => r.lineIs l && p.rowp.get l

/-- CMAP with the records applied, the flag set, and the row states and debounces started afresh (R7). -/
def CMap.applied (c : CMap) (p : Pins) (recs : MapRecs) (valid : Bool) : CMap :=
  { c with
    rows := recs.rows, seats := recs.seats, valid := valid
    rowState := Tab.ofFn fun i => if valid && (recs.rows.get i).removable then .removed else .fixed
    rowDebounce := Tab.ofFn fun i =>
      valid && (recs.rows.get i).removable && p.presenceLevel (recs.rows.get i) }

/-- The records that a strap value chooses at full reset, with what the store's map section gave (R5). -/
def strapRecords (strap : BitVec 2) (stored : Option MapRecs) : MapRecs :=
  if strap = 0 then stored.getD emptyMap else preset strap

/-! ## Row debounces (R9) -/

/-- Row `i` watches `line` and its debounce follows the line's new level: it runs while the level differs from the row's
state (R9). -/
def CMap.lineChanged (c : CMap) (line : Line) (level : Bool) : CMap :=
  { c with rowDebounce := Tab.ofFn fun i =>
      if c.valid && (c.rows.get i).lineIs line then decide (level ≠ decide (c.rowState.get i = .installed))
      else c.rowDebounce.get i }

/-- A row's debounce has run out: its state becomes `st` and no debounce runs (R10, R11). -/
def CMap.rowBecomes (c : CMap) (i : Row) (st : RowState) : CMap :=
  { c with rowState := c.rowState.set i st, rowDebounce := c.rowDebounce.set i false }

end Sys2Proof.Machine
end

