-- ==== Sys2Proof/Machine/Flags.lean ====
section
/-! DEFINITION. The derived marks of the part: the condition set of a frame (R49, R55), the fault set of a seat (R95),
the evidence score and the thresholds of a verdict (R67, R68), the trigger and the count condition (R103). -/

namespace Sys2Proof.Machine

/-! ## Conditions and bands -/

/-- The band of a buckle raw code (R54). -/
def bandOf (raw : BitVec 12) : BuckleBand :=
  if raw.toNat < 300 then .openCircuit
  else if raw.toNat < 1600 then .unlatched
  else if raw.toNat < 3000 then .latched
  else .short

/-- The frame carries OPEN or ALL_OPEN (R65, R85). -/
def Conditions.dirty (c : Conditions) : Bool := c.open_ || c.allOpen

/-- The fault set of a seat's record (R95). -/
def SeatRec.faultSet (r : SeatRec) : FaultSet :=
  { mat := decide (r.lifecycle = .faulted), buckle := decide (r.buckle = .fault), tension := r.tensionFault }

/-! ## Evidence and thresholds -/

/-- The evidence score of an accepted frame (R67). -/
def evidence (p : Profile) (r : SeatRec) (f : MatFrame) : Nat :=
  (if f.conditions.rail then 2 else 0) +
  (if f.conditions.cinched && !r.tensionFault then 2 else 0) +
  (if r.anchor = .engaged then 3 else 0) +
  (if f.contacts ≤ p.cSmall.toNat then 1 else 0)

/-- The mass rank of a verdict, if it has one (R68). -/
def Verdict.rank : Verdict → Option Nat
  | .empty => some 0
  | .object => some 1
  | .small => some 2
  | .adult => some 3
  | .unknown => none
  | .childSeat => none

/-- The threshold `t` at boundary `b`, moved away from the confirmed verdict by H (R68). -/
def threshold (confirmed : Verdict) (h b t : Nat) : Nat :=
  match confirmed.rank with
  | none => t
  | some r => if r < b then min 255 (t + h) else t - h

/-- thr(m_empty) (R68). -/
def thrEmpty (p : Profile) (v : Verdict) : Nat := threshold v p.h.toNat 1 p.mEmpty.toNat

/-- thr(m_person) (R68). -/
def thrPerson (p : Profile) (v : Verdict) : Nat := threshold v p.h.toNat 2 p.mPerson.toNat

/-- thr(m_adult) (R68). -/
def thrAdult (p : Profile) (v : Verdict) : Nat := threshold v p.h.toNat 3 p.mAdult.toNat

/-! ## Trigger and count condition -/

/-- The speed record holds a speed of at least `v`. -/
def speedAtLeast (speed : Option Nat) (v : Nat) : Bool :=
  match speed with
  | none => false
  | some x => v ≤ x

/-- The trigger holds (R103). -/
def State.trigger (s : State) : Bool :=
  decide (s.ret.ignition = .on) && (s.rem.startElapsed || speedAtLeast s.rem.speed s.rem.settings.vRemind)

/-- The count condition holds (R103). -/
def State.countCondition (s : State) : Bool := s.trigger && s.rem.speed.isSome

end Sys2Proof.Machine
end

