-- ==== Sys2Proof/Machine/Scan.lean ====
section
/-! DEFINITION. SCAN and the head of FEAT's intake (chapter 2; R40, R43): the sample queue, seat steps, markers, passes and
probe passes, and what SCAN does at ignition changes, row removals, map applies and RESTART. -/

namespace Sys2Proof.Machine

/-! ## The head of the queue (R40, R43) -/

/-- An IDLE FEAT looks at the head of the queue: a sample entry is removed and its operation begins with the calibration
of that moment (R40, R48); a marker is removed when the handover slot is empty, else FEAT is BLOCKED (R43). -/
def featLook (s : State) : State :=
  match s.feat.intake, s.scan.queue with
  | .idle, .sample e :: q =>
      let cal := match e.channel with
        | .cell n => (s.feat.cal.get e.seat).get n
        | _ => uncalibratedCell
      { s with scan := { s.scan with queue := q }, feat := { s.feat with intake := .entry e cal } }
  | .idle, .marker m :: q =>
      if s.verd.slot.isNone then
        { s with scan := { s.scan with queue := q }, feat := { s.feat with intake := .finishing m false false } }
      else { s with feat := { s.feat with intake := .blocked } }
  | _, _ => s

/-- The capacity of the sample queue (R26). -/
def queueCapacity : Nat := 64

/-- The queue has no room (R26). -/
def Scan.full (c : Scan) : Bool := queueCapacity ≤ c.queue.length

/-- An entry pushed at the tail of the queue; an IDLE FEAT then looks at the head (R26, R40). -/
def push (e : Entry) (s : State) : State :=
  featLook { s with scan := { s.scan with queue := s.scan.queue ++ [e] } }

/-! ## Seat steps (R22, R24) -/

/-- SCAN with the seat step in flight replaced. -/
def State.withStep (s : State) (st : SeatStep) : State := { s with scan := { s.scan with step := some st } }

/-- The seat step of `i` begins: its gain is set and a settle wait starts (R22). -/
def beginSeat (i : Seat) (s : State) : State :=
  let m := s.cmap.seats.get i
  { s with scan := { s.scan with
      gain := m.gainOf
      step := some { seat := i, todo := m.channels, phase := .settle s.scan.timing.settle, lost := false,
                     cut := false } } }

/-- SCAN enters a state in which no pass is in flight; `interval` is what its interval timer then holds. -/
def Scan.atRest (c : Scan) (st : ScanState) (interval : Option Nat) : Scan :=
  { c with state := st, closing := false, visited := [], step := none, rest := [], interval := interval }

/-- SCAN between passes: HALTED with the map invalid, STOPPED with ignition OFF, or WAITING with the interval timer
loaded (R18, R20, R30). -/
def Scan.settled (c : Scan) (valid : Bool) (ign : Ignition) : Scan :=
  if !valid then c.atRest .halted none
  else match ign with
    | .off => c.atRest .stopped none
    | .on => c.atRest .waiting (some c.timing.interval)

/-- A probe pass of seat `i` begins (R35). -/
def beginProbePass (i : Seat) (s : State) : State :=
  beginSeat i { s with scan := s.scan.atRest .probing none }

/-- A pass or probe pass has ended with no other to run: STOPPED, or WAITING with the timer started (R28, R29, R35). -/
def endInIgnition (s : State) : State := { s with scan := s.scan.settled true s.ret.ignition }

/-! ## After a marker is in (R25, R28, R29, R35) -/

/-- A closing pass ends: PROBING when a probe was accepted while it was closing, else STOPPED or WAITING (R28, R29, R34). A
probe armed before the closing began does not send SCAN to PROBING (assumption log 20). DESIGN CHOICE (assumption log 27): a
probe accepted while closing that is no longer ARMED, filled by a queued frame of its seat (R45) or cancelled (R36), leaves
nothing to serve, and the pass ends in STOPPED or WAITING. -/
def closePass (s : State) : State :=
  match s.scan.probe with
  | .armed i .closing =>
      beginProbePass i { s with scan := { s.scan with probe := .armed i .probePass } }
  | _ => endInIgnition s

/-- A timed pass goes on to the next seat of its list, or ends in WAITING, its interval timer running on (R25). -/
def nextSeat (st : SeatStep) (s : State) : State :=
  match s.scan.rest with
  | [] => { s with scan := s.scan.atRest .waiting s.scan.interval }
  | i :: more =>
      beginSeat i { s with scan := { s.scan with visited := s.scan.visited ++ [st.seat], rest := more } }

/-- SCAN looks at the probe slot after a probe pass's marker (R35). -/
def nextProbe (st : SeatStep) (s : State) : State :=
  match s.scan.probe with
  | .armed i _ =>
      if i ≠ st.seat then beginProbePass i s
      else if st.lost then beginProbePass i s
      else endInIgnition s
  | _ => endInIgnition s

/-- SCAN proceeds once the marker of the seat step `st` is in the queue. -/
def afterMarker (st : SeatStep) (s : State) : State :=
  match s.scan.state with
  | .probing => nextProbe st s
  | _ => if s.scan.closing then closePass s else nextSeat st s

/-! ## Markers (R25, R27) -/

/-- The marker of a seat step, formed now (R25). -/
def markerOf (s : State) (st : SeatStep) : Marker :=
  { seat := st.seat
    anchor := (s.cmap.seats.get st.seat).anchorLine.map s.pins.anchLevel
    torn := st.lost || st.cut
    probeOnly := decide (s.scan.state = .probing) }

/-- The marker is formed and pushed, or waits in MARK when the queue is full (R25, R27). -/
def formMarker (st : SeatStep) (s : State) : State :=
  let m := markerOf s st
  if s.scan.full then s.withStep { st with phase := .mark m }
  else afterMarker st (push (.marker m) s)

/-- A marker waiting in MARK is pushed once the queue has room, and SCAN proceeds (R27). -/
def pushWaiting (s : State) : State :=
  match s.scan.step with
  | some st => match st.phase with
    | .mark m => if s.scan.full then s else afterMarker st (push (.marker m) s)
    | _ => s
  | none => s

/-! ## Conversions (R22 to R24, R26) -/

/-- The end of a settle wait begins the next conversion (R22); with none left to make the marker is formed (R25). -/
def settleEnds (s : State) : State :=
  match s.scan.step with
  | some st => match st.phase with
    | .settle _ => match st.todo with
      | [] => formMarker st s
      | _ :: _ => s.withStep { st with phase := .convert }
    | _ => s
  | none => s

/-- A completed conversion's sample is pushed, or lost when the queue is full, which tears the frame (R23, R26). -/
def deliver (st : SeatStep) (ch : Channel) (raw : BitVec 12) (s : State) : SeatStep × State :=
  if s.scan.full then ({ st with lost := true }, s)
  else (st, push (.sample { seat := st.seat, channel := ch, raw := raw }) s)

/-- The channel is a cell. -/
def Channel.isCell : Channel → Bool
  | .cell _ => true
  | .tension => false
  | .buckle => false

/-- The next conversion of a seat step: at once, or after a fresh settle wait at ×1 before the tension or buckle channel
when the gain is not ×1 (R23, R24); with none left the marker is formed (R25). -/
def nextConversion (st : SeatStep) (s : State) : State :=
  match st.todo with
  | [] => formMarker st s
  | ch :: _ =>
      if !ch.isCell && decide (s.scan.gain ≠ .x1) then
        { s with scan := { s.scan with
            gain := .x1, step := some { st with phase := .settle s.scan.timing.settle } } }
      else s.withStep { st with phase := .convert }

/-- A conversion completes. The conversion of a frame cut short is discarded and its marker formed (R28, R31). -/
def conversionCompletes (raw : BitVec 12) (anch : BitVec 8) (s : State) : State :=
  match s.scan.step with
  | some st => match st.phase, st.todo with
    | .convert, ch :: more =>
        let s := { s with pins := { s.pins with anch := anch } }
        if st.cut then formMarker st s
        else
          let d := deliver st ch raw s
          nextConversion { d.1 with todo := more } d.2
    | _, _ => s
  | none => s

/-! ## Passes (R20, R21) -/

/-- The scan list: every ACTIVE or FAULTED seat, ascending (R21). -/
def State.scanList (s : State) : List Seat :=
  allSeats.filter fun i =>
    decide ((s.verd.seats.get i).lifecycle = .active) || decide ((s.verd.seats.get i).lifecycle = .faulted)

/-- A timed pass starts; with an empty list it ends at once (R21). -/
def startPass (s : State) : State :=
  match s.scanList with
  | [] => s
  | i :: more => beginSeat i { s with scan := { s.scan with state := .pass, visited := [], rest := more } }

/-- An expiry of the interval timer, which is loaded again: it starts a pass in WAITING and is dropped as an overrun in
PASS (R20). A stopped timer does not expire. -/
def intervalExpires (s : State) : State :=
  match s.scan.interval with
  | none => s
  | some _ =>
      let s := { s with scan := { s.scan with interval := some s.scan.timing.interval } }
      match s.scan.state with
      | .waiting => startPass s
      | .pass => { s with scan := { s.scan with overrun := true } }
      | _ => s

/-! ## Frames cut short (R28, R31) -/

/-- The current frame is torn: a settle wait is abandoned and the marker formed, a conversion in flight runs to its end,
a waiting marker takes the torn indicator (R28, R31; assumption log 15). -/
def cutShort (s : State) : State :=
  match s.scan.step with
  | some st => match st.phase with
    | .settle _ => formMarker { st with cut := true } s
    | .convert => s.withStep { st with cut := true }
    | .mark m => s.withStep { st with cut := true, phase := .mark { m with torn := true } }
  | none => s

/-- A probe is cancelled: the slot is freed with its cause (R36). -/
def cancelProbe (cause : CancelCause) (s : State) : State :=
  { s with scan := { s.scan with probe := .free (some cause) } }

/-- The seat that an ARMED or FILLED slot names. -/
def ProbeSlot.seat : ProbeSlot → Option Seat
  | .free _ => none
  | .armed i _ => some i
  | .filled b => some b.seat

/-- SCAN at ignition OFF (R28). A probe armed for timed passes is cancelled first (R36). -/
def scanIgnitionOff (s : State) : State :=
  let s := match s.scan.probe with
    | .armed _ .timed => cancelProbe .ignition s
    | _ => s
  match s.scan.state with
  | .waiting => { s with scan := s.scan.atRest .stopped none }
  | .pass => cutShort { s with scan := { s.scan with interval := none, closing := true } }
  | _ => s

/-- SCAN at ignition ON (R29): only STOPPED moves at once. -/
def scanIgnitionOn (s : State) : State :=
  match s.scan.state with
  | .stopped => { s with scan := s.scan.atRest .waiting (some s.scan.timing.interval) }
  | _ => s

/-- SCAN at the removal of row `r` (R31, R36): a probe of the row is cancelled, the row's later seats leave the pass, and
the current seat's frame is cut short when it is of the row. -/
def scanRowRemoved (r : Row) (s : State) : State :=
  let gone := s.cmap.inRow r
  let s := match s.scan.probe.seat with
    | some i => if gone i then cancelProbe .row s else s
    | none => s
  let s := { s with scan := { s.scan with rest := s.scan.rest.filter fun i => !gone i } }
  match s.scan.step with
  | some st => if gone st.seat then cutShort s else s
  | none => s

/-- SCAN with its pass abandoned and its queue flushed (R18, R30). -/
def Scan.flushed (c : Scan) : Scan := { c with queue := [] }

/-- SCAN at a map apply, from the map validity and ignition state as they then stand (R30, R36). -/
def scanApply (s : State) : State :=
  let probe := match s.scan.probe with
    | .free report => .free report
    | _ => .free (some .map)
  { s with scan := { s.scan.flushed.settled s.cmap.valid s.ret.ignition with probe := probe } }

/-- SCAN at RESTART (R18). -/
def scanRestart (s : State) : State :=
  { s with scan := { s.scan.flushed.settled s.cmap.valid s.ret.ignition with
      probe := .free none, overrun := false, tornFlag := false } }

end Sys2Proof.Machine
end

