-- ==== Sys2Proof/Machine/Features.lean ====
section
/-! DEFINITION. FEAT (chapter 3): recording entries (R41, R42), correction (R48, R49), features (R50 to R55), finishing a frame
(R44 to R46) and the zero capture (R59 to R61). -/

namespace Sys2Proof.Machine

/-! ## Correcting a cell (R48, R49) -/

/-- Z and G as the correction uses them: 300 and 256 while the mark is clear (R48). -/
def CellCal.used (c : CellCal) : Nat × Nat := if c.mark then (c.z.toNat, c.g.toNat) else (300, 256)

/-- The corrected value before the clamp: max(0, r − Z) × G ÷ 256 (R48). -/
def corrected (c : CellCal) (raw : BitVec 12) : Nat := (raw.toNat - c.used.1) * c.used.2 / 256

/-- The reading of a cell entry (R48, R49). -/
def cellReading (c : CellCal) (raw : BitVec 12) : CellReading :=
  { raw := raw, p := min 4095 (corrected c raw), isOpen := decide (raw.toNat < 32) }

/-- The entry raises SATURATED (R48, R49). -/
def cellSaturates (c : CellCal) (raw : BitVec 12) : Bool :=
  decide (4095 < corrected c raw) || decide (raw.toNat = 4095)

/-- The reading of a tension entry (R53). -/
def tensionReading (raw : BitVec 12) : TensionReading :=
  { raw := raw, t := raw.toNat / 16, valid := !(decide (raw.toNat < 32) || decide (raw.toNat = 4095)) }

/-! ## The frame accumulator (R41, R42) -/

/-- A frame just opened for a seat, COLLECTING. -/
def openFrame (i : Seat) : Accumulator :=
  { seat := i, torn := false, cells := Tab.const 16 none, tension := none, buckle := none, saturated := false,
    uncalibrated := false }

/-- The channel has a reading in the frame. -/
def Accumulator.hasReading (a : Accumulator) : Channel → Bool
  | .cell n => (a.cells.get n).isSome
  | .tension => a.tension.isSome
  | .buckle => a.buckle.isSome

/-- A reading is recorded. -/
def Accumulator.record (a : Accumulator) (ch : Channel) (raw : BitVec 12) (c : CellCal) : Accumulator :=
  match ch with
  | .cell n =>
      { a with cells := a.cells.set n (some (cellReading c raw)), saturated := a.saturated || cellSaturates c raw,
               uncalibrated := a.uncalibrated || !c.mark }
  | .tension => { a with tension := some (tensionReading raw) }
  | .buckle => { a with buckle := some (raw, bandOf raw) }

/-- An entry of the frame's own seat (R42): recorded, or the frame becomes TORN by a channel read twice or not fitted, or
dropped by a TORN frame. -/
def Accumulator.take (a : Accumulator) (m : SeatMap) (e : Sample) (c : CellCal) : Accumulator :=
  if a.torn then a
  else if a.hasReading e.channel || !m.channelFitted e.channel then { a with torn := true }
  else a.record e.channel e.raw c

/-- The accumulator after an entry (R41, R42), and whether another seat's frame was abandoned. -/
def takeEntry (acc : Option Accumulator) (m : SeatMap) (e : Sample) (c : CellCal) : Accumulator × Bool :=
  match acc with
  | none => ((openFrame e.seat).take m e c, false)
  | some a =>
      if a.seat = e.seat then (a.take m e c, false) else ((openFrame e.seat).take m e c, true)

/-- The completion of an entry operation (R42); FEAT then looks at the new head (R40). -/
def entryCompletes (s : State) : State :=
  match s.feat.intake with
  | .entry e c =>
      let r := takeEntry s.feat.acc (s.cmap.seats.get e.seat) e c
      featLook { s with
        feat := { s.feat with intake := .idle, acc := some r.1 }
        scan := { s.scan with tornFlag := s.scan.tornFlag || r.2 } }
  | _ => s

/-- A BLOCKED FEAT removes the marker once the handover slot is empty (R43). -/
def takeBlocked (s : State) : State :=
  match s.feat.intake with
  | .blocked =>
      if s.verd.slot.isNone then featLook { s with feat := { s.feat with intake := .idle } } else s
  | _ => s

/-! ## Features (R50 to R55) -/

/-- The features of a complete frame. -/
structure Features where
  contacts : Nat
  load : Nat
  mass : Nat
  rail : Nat
  conditions : Conditions
  deriving DecidableEq, Repr

/-- An outer-column cell (R50). -/
def outerCell (n : Cell) : Bool := n.val % 4 = 0 || n.val % 4 = 3

/-- The corrected value recorded for a cell. -/
def Accumulator.p (a : Accumulator) (n : Cell) : Nat :=
  match a.cells.get n with | some r => r.p | none => 0

/-- The cell was marked open. -/
def Accumulator.isOpen (a : Accumulator) (n : Cell) : Bool :=
  match a.cells.get n with | some r => r.isOpen | none => false

/-- The sum of the corrected values of a list of cells. -/
def Accumulator.sum (a : Accumulator) (cells : List Cell) : Nat := (cells.map a.p).sum

/-- L (R51). -/
def loadOf (m : SeatMap) (a : Accumulator) : Nat := a.sum m.cellList

/-- C (R51). -/
def contactsOf (m : SeatMap) (p : Profile) (a : Accumulator) : Nat :=
  (m.cellList.filter fun n => p.tc.toNat ≤ a.p n).length

/-- L × K ÷ 4096, before the clamp (R52). -/
def rawMass (m : SeatMap) (p : Profile) (a : Accumulator) : Nat := loadOf m a * p.k.toNat / 4096

/-- S (R52). -/
def railOf (m : SeatMap) (a : Accumulator) : Nat :=
  if loadOf m a = 0 then 0 else a.sum (m.cellList.filter outerCell) * 64 / loadOf m a

/-- Every fitted cell is marked open (R49). -/
def allOpenOf (m : SeatMap) (a : Accumulator) : Bool := m.cellList.all a.isOpen

/-- Some fitted cell is marked open (R49). -/
def someOpenOf (m : SeatMap) (a : Accumulator) : Bool := m.cellList.any a.isOpen

/-- The condition set (R55). -/
def conditionsOf (m : SeatMap) (p : Profile) (a : Accumulator) : Conditions :=
  { zero := decide (loadOf m a = 0)
    saturated := a.saturated || decide (255 < rawMass m p a)
    open_ := someOpenOf m a && !allOpenOf m a
    allOpen := allOpenOf m a
    uncalibrated := a.uncalibrated
    rail := decide (p.sRail.toNat ≤ railOf m a)
    cinched := match a.tension with
      | some t => m.tension && t.valid && decide (p.tCinch.toNat ≤ t.t)
      | none => false }

/-- The features of a complete frame, with the profile in force (R50). -/
def featuresOf (m : SeatMap) (p : Profile) (a : Accumulator) : Features :=
  { contacts := contactsOf m p a, load := loadOf m a, mass := min 255 (rawMass m p a), rail := railOf m a,
    conditions := conditionsOf m p a }

/-! ## Finishing a frame (R44 to R46) -/

/-- Every fitted channel of the seat has a reading (R44). -/
def Accumulator.complete (a : Accumulator) (m : SeatMap) : Bool :=
  m.channels.all a.hasReading

/-- The frame at its marker, when it is not torn (R44). -/
def completeFrame (acc : Option Accumulator) (seats : Tab 16 SeatMap) (m : Marker) : Option Accumulator :=
  match acc with
  | none => none
  | some a =>
      if m.torn || a.torn || decide (a.seat ≠ m.seat) || !a.complete (seats.get m.seat) then none else some a

/-- The probe buffer filled from a complete frame (R45). -/
def probeBufferOf (m : SeatMap) (f : Features) (a : Accumulator) (mk : Marker) : ProbeBuffer :=
  { seat := mk.seat, fromProbePass := mk.probeOnly
    cells := m.cellList.filterMap fun n => (a.cells.get n).map fun r => { cell := n, raw := r.raw, p := r.p }
    tension := a.tension.map fun t => (t.raw, t.t)
    buckle := a.buckle
    load := f.load, mass := f.mass, contacts := f.contacts, rail := f.rail, conditions := f.conditions }

/-- The probe slot is offered a complete frame: it is filled when ARMED for the frame's seat (R45). A probe armed for timed
passes is not filled by a frame whose marker was taken before it was armed, as R34 says and R45 does not: `before` says so
(DESIGN CHOICE, assumption log 24). -/
def ProbeSlot.offer (p : ProbeSlot) (before : Bool) (b : ProbeBuffer) : ProbeSlot :=
  match p with
  | .armed i .timed => if i = b.seat ∧ before = false then .filled b else p
  | .armed i _ => if i = b.seat then .filled b else p
  | _ => p

/-- A probe is armed for timed passes: a frame in finishing had its marker taken before (R34). -/
def Intake.probeArmed : Intake → Intake
  | .finishing m _ c => .finishing m true c
  | x => x

/-- A zero capture opens: a frame in finishing had its marker taken before (R60). -/
def Intake.captureOpened : Intake → Intake
  | .finishing m p _ => .finishing m p true
  | x => x

/-- The mat frame placed in the handover slot (R46). -/
def matFrameOf (f : Features) (a : Accumulator) (mk : Marker) : MatFrame :=
  { seat := mk.seat, contacts := f.contacts, load := f.load, mass := f.mass, rail := f.rail
    tension := a.tension.map fun t => (t.t, t.valid)
    band := a.buckle.map fun b => b.2
    anchor := mk.anchor
    conditions := f.conditions }

/-! ## Zero capture (R59 to R61) -/

/-- The capture with a counted frame added (R60). -/
def Capture.add (c : Capture) (m : SeatMap) (a : Accumulator) : Capture :=
  { c with
    count := c.count + 1
    sums := Tab.ofFn fun n =>
      if m.cellFitted n then
        c.sums.get n + (match a.cells.get n with | some r => r.raw.toNat | none => 0)
      else c.sums.get n }

/-- The offsets of a capture: each running sum divided by 4, truncated (R60). -/
def Capture.averages (c : Capture) : Tab 16 Nat := Tab.ofFn fun n => c.sums.get n / 4

/-- Every fitted cell's offset lies in 64..1023 (R60). -/
def offsetsInRange (m : SeatMap) (offsets : Tab 16 Nat) : Bool :=
  m.cellList.all fun n => inRange 64 1023 (offsets.get n)

/-- The fitted cells of a seat take the offsets as Z and are marked; G is kept (R60). -/
def applyOffsets (m : SeatMap) (offsets : Tab 16 Nat) (cal : Tab 16 CellCal) : Tab 16 CellCal :=
  Tab.ofFn fun n =>
    if m.cellFitted n then { cal.get n with z := BitVec.ofNat 10 (offsets.get n), mark := true } else cal.get n

/-- The capture's offsets are applied, the calibration commit starts and the capture goes to COMMITTING (R60). -/
def captureCommits (c : Capture) (offsets : Tab 16 Nat) (s : State) : State :=
  let m := s.cmap.seats.get c.seat
  let cal := s.feat.cal.set c.seat (applyOffsets m offsets (s.feat.cal.get c.seat))
  startCommit (.calibration cal)
    { s with feat := { s.feat with cal := cal, capture := some { c with state := .committing, offsets := none } } }

/-- FEAT with no capture open. -/
def closeCapture (s : State) : State := { s with feat := { s.feat with capture := none } }

/-- The capture has its fourth frame (R60). -/
def captureEnds (c : Capture) (s : State) : State :=
  let m := s.cmap.seats.get c.seat
  if !offsetsInRange m c.averages then post (.calibration c.seat .range) (closeCapture s)
  else if s.store.committing then
    { s with feat := { s.feat with
        capture := some { c with state := .waitingStore, offsets := some c.averages } } }
  else captureCommits c c.averages s

/-- A complete timed-pass frame is offered to the open capture; `before` says that its marker was taken before the capture
opened, and then it does not count (R60). -/
def captureOffer (before : Bool) (mk : Marker) (a : Accumulator) (s : State) : State :=
  match s.feat.capture with
  | some c =>
      if decide (c.state = .collecting) && decide (c.seat = mk.seat) && !mk.probeOnly && !before then
        let c := c.add (s.cmap.seats.get c.seat) a
        if c.count < 4 then { s with feat := { s.feat with capture := some c } } else captureEnds c s
      else s
  | none => s

/-- The completion of a frame's finishing (R44): a torn frame is discarded, a complete one is offered to the probe, the
capture and, without the probe-only mark, to VERD. FEAT then looks at the new head. -/
def frameFinishes (s : State) : State :=
  match s.feat.intake with
  | .finishing mk beforeProbe beforeCapture =>
      let s0 := { s with feat := { s.feat with intake := .idle, acc := none } }
      match completeFrame s.feat.acc s.cmap.seats mk with
      | none => featLook { s0 with scan := { s0.scan with tornFlag := true } }
      | some a =>
          let m := s.cmap.seats.get mk.seat
          let f := featuresOf m (s.cmap.profileOf mk.seat) a
          let s1 := { s0 with scan := { s0.scan with probe := s0.scan.probe.offer beforeProbe (probeBufferOf m f a mk) } }
          let s2 := captureOffer beforeCapture mk a s1
          featLook (if mk.probeOnly then s2
            else { s2 with verd := { s2.verd with slot := some (matFrameOf f a mk) } })
  | _ => s

/-- The abort of an open capture that is COLLECTING or WAITING_STORE: closed, with the notice to post (R61). A COMMITTING
capture is not affected. -/
def abortCapture (f : Feat) : Feat × List Notice :=
  match f.capture with
  | some c =>
      if c.state = .committing then (f, [])
      else ({ f with capture := none }, [.calibration c.seat .aborted])
  | none => (f, [])

/-- The abort when it concerns the capture's seat (R61). -/
def abortCaptureOf (concerned : Seat → Bool) (f : Feat) : Feat × List Notice :=
  match f.capture with
  | some c => if concerned c.seat then abortCapture f else (f, [])
  | none => (f, [])

/-- FEAT at a map apply or RESTART (R47, R61): the intake and accumulator are emptied and an open capture is closed, with
a notice unless it was COMMITTING. The working calibration is kept. -/
def featFlush (f : Feat) : Feat × List Notice :=
  let a := abortCapture f
  ({ a.1 with intake := .idle, acc := none, capture := none }, a.2)

end Sys2Proof.Machine
end

