-- ==== Sys2Proof/Machine/Reminders.lean ====
section
/-! DEFINITION. REM (chapter 6): the reminder case (R106), the reminder machine (R108 to R114), the cabin summary and its
notice (R119, R120), and what REM does at each event it handles. Every operation answers the state and REM's notices in
their order; the event posts them. -/

namespace Sys2Proof.Machine

/-! ## The case of a seat (R106) -/

/-- The seat is person-occupied (R106). -/
def personOccupied (m : SeatMap) (r : SeatRec) : Bool :=
  (decide (r.lifecycle = .active) && (decide (r.confirmed = .small) || decide (r.confirmed = .adult))) ||
  ((decide (r.lifecycle = .active) || decide (r.lifecycle = .faulted)) && m.presume)

/-- The reminder case: the first line of R106's table that applies. -/
def caseOf (m : SeatMap) (r : SeatRec) : ReminderCase :=
  if r.lifecycle = .unmapped ∨ r.lifecycle = .absent then .notReminded
  else if r.buckle = .unfitted then .notReminded
  else if personOccupied m r then
    match r.buckle with
    | .latched => .belted
    | .unlatched => .unbelted
    | .fault => .unbelted
    | .unknown => .buckleUnknown
    | .unfitted => .notReminded
  else if r.lifecycle = .active ∧ r.confirmed = .childSeat ∧ (r.buckle = .unlatched ∨ r.buckle = .fault) ∧
      (r.anchor = .free ∨ r.anchor = .unfitted) then .childUnsecured
  else .notReminded

/-! ## The machine (R108 to R114) -/

/-- What one evaluation reads besides the record: the trigger, whether the speed is known and at least v_remind, and the
two stage lengths in steps of 0.1 s. -/
structure ReminderContext where
  trigger : Bool
  fast : Bool
  visual : Nat
  budget : Nat
  deriving DecidableEq, Repr

/-- The context of an evaluation, from REM's state as it stands. -/
def State.reminderContext (s : State) : ReminderContext :=
  { trigger := s.trigger, fast := speedAtLeast s.rem.speed s.rem.settings.vRemind,
    visual := steps s.rem.settings.tVisual, budget := steps s.rem.settings.tChime }

/-- A state other than VISUAL, with the visual timer 0 (R104). -/
def ReminderRec.to (r : ReminderRec) (st : ReminderState) : ReminderRec := { r with state := st, visual := 0 }

/-- Entry to AUDIBLE, passing on to CAPPED when the budget is spent (R109). -/
def enterAudible (r : ReminderRec) : ReminderRec := if r.budget = 0 then r.to .capped else r.to .audible

/-- Entry to VISUAL, passing on when t_visual is 0 (R108). -/
def enterVisual (c : ReminderContext) (r : ReminderRec) : ReminderRec :=
  if c.visual = 0 then enterAudible r else { r with state := .visual, visual := c.visual }

/-- The stages: VISUAL when the trigger holds, ARMED when not (R111). -/
def enterStages (c : ReminderContext) (r : ReminderRec) : ReminderRec :=
  if c.trigger then enterVisual c r else r.to .armed

/-- The case "unbelted" (R111, R112). -/
def moveUnbelted (c : ReminderContext) (r : ReminderRec) : ReminderRec :=
  match r.state with
  | .none => enterStages c r
  | .childUnsecured => enterStages c r
  | .armed => if c.trigger then enterVisual c r else r
  | .visual => r
  | .audible => r
  | .capped => r
  | .latched => if c.fast then enterAudible r else enterStages c r

/-- The record after an evaluation with ignition ON, in its case (R110 to R114). -/
def moveReminder (c : ReminderContext) (k : ReminderCase) (r : ReminderRec) : ReminderRec :=
  match k with
  | .notReminded => r.to .none
  | .belted => if r.state = .latched then r else { r.to .latched with budget := c.budget }
  | .unbelted => moveUnbelted c r
  | .buckleUnknown => if r.state = .armed then r else r.to .armed
  | .childUnsecured => if r.state = .childUnsecured then r else r.to .childUnsecured

/-! ## Evaluations and their notices (R107) -/

/-- The REMINDER notices of the seats whose state differs between two tables, in seat order (R107). -/
def reminderNotices (before after : Tab 16 ReminderRec) : List Notice :=
  allSeats.filterMap fun i =>
    if (before.get i).state = (after.get i).state then none else some (.reminder i (after.get i).state)

/-- The table after an evaluation of the seats chosen; with ignition OFF no state changes (R107). -/
def State.evaluatedTable (s : State) (chosen : Seat → Bool) : Tab 16 ReminderRec :=
  Tab.ofFn fun i =>
    if chosen i && decide (s.ret.ignition = .on) then
      moveReminder s.reminderContext (caseOf (s.cmap.seats.get i) (s.verd.seats.get i)) (s.rem.table.get i)
    else s.rem.table.get i

/-- REM with its table replaced. -/
def State.withTable (s : State) (t : Tab 16 ReminderRec) : State := { s with rem := { s.rem with table := t } }

/-- REM evaluates the seats chosen (R107). -/
def evaluateReminders (chosen : Seat → Bool) (s : State) : State × List Notice :=
  let t := s.evaluatedTable chosen
  (s.withTable t, reminderNotices s.rem.table t)

/-! ## The cabin summary (R119, R120) -/

/-- The state counts as shown: VISUAL, AUDIBLE or CAPPED (R119). -/
def ReminderState.shown : ReminderState → Bool
  | .visual => true
  | .audible => true
  | .capped => true
  | _ => false

/-- The cabin summary of the reminder table and the Seat Table (R119). -/
def State.deriveSummary (s : State) : Summary :=
  { chime := allSeats.any fun i => decide ((s.rem.table.get i).state = .audible)
    visual := seatSet fun i => (s.rem.table.get i).state.shown
    child := seatSet fun i => decide ((s.rem.table.get i).state = .childUnsecured)
    occupied := (allSeats.filter fun i => personOccupied (s.cmap.seats.get i) (s.verd.seats.get i)).length
    latched := (allSeats.filter fun i => decide ((s.rem.table.get i).state = .latched)).length }

/-- The CABIN notice of a summary that replaces another: none unless the demand or a set differs (R120). -/
def cabinNotices (before after : Summary) : List Notice :=
  if before.chime = after.chime ∧ before.visual = after.visual ∧ before.child = after.child then []
  else [.cabin after.chime after.visual after.child]

/-- The summary re-derived (R119). -/
def State.refreshSummary (s : State) : State := { s with rem := { s.rem with summary := s.deriveSummary } }

/-- The end of an event at REM: the summary is re-derived and a CABIN notice follows the event's REMINDER notices
(R120). -/
def endRemEvent (r : State × List Notice) : State × List Notice :=
  (r.1.refreshSummary, r.2 ++ cabinNotices r.1.rem.summary r.1.deriveSummary)

/-- Post what REM's event posts. -/
def postEvent (r : State × List Notice) : State := postAll r.2 r.1

/-! ## The trigger (R103) -/

/-- After a change from `before`: every seat is evaluated when the trigger comes to hold (R103). -/
def evaluateTrigger (before : Bool) (s : State) : State × List Notice :=
  if !before && s.trigger then evaluateReminders (fun _ => true) s else (s, [])

/-! ## Timers (R105, R108, R109) -/

/-- A record counted down by 0.1 s in VISUAL or AUDIBLE; a timer that reaches 0 is taken as its expiry (R105, R108,
R109). -/
def countDown (r : ReminderRec) : ReminderRec :=
  match r.state with
  | .visual => if r.visual ≤ 1 then enterAudible r else { r with visual := r.visual - 1 }
  | .audible =>
      if r.budget ≤ 1 then { r with budget := 0 }.to .capped else { r with budget := r.budget - 1 }
  | _ => r

/-- The reminder table after a step: the stages count under the count condition only (R105). -/
def State.countedTable (s : State) : Tab 16 ReminderRec :=
  Tab.ofFn fun i => if s.countCondition then countDown (s.rem.table.get i) else s.rem.table.get i

/-- The start interval has reached 0: the flag is set, the timer stops and the trigger is evaluated (R102). -/
def startElapses (s : State) : State × List Notice :=
  evaluateTrigger s.trigger { s with rem := { s.rem with startTimer := none, startElapsed := true } }

/-- The start interval counted down by 0.1 s, its expiry taken when it reaches 0 (R102, R105). -/
def countStart (s : State) : State × List Notice :=
  match s.rem.startTimer with
  | none => (s, [])
  | some n => if n ≤ 1 then startElapses s else ({ s with rem := { s.rem with startTimer := some (n - 1) } }, [])

/-- A step of 0.1 s, with ignition ON: the stages and the start interval count down and every timer that reaches 0 is taken
as an expiry, seats in ascending order (R105). A start interval that expires moves a seat only when the trigger did not
hold, and then no stage counts. -/
def timerStep (s : State) : State × List Notice :=
  if s.ret.ignition = .on then
    let r := countStart (s.withTable s.countedTable)
    endRemEvent (r.1, reminderNotices s.rem.table r.1.rem.table)
  else (s, [])

/-- The expiry of the start interval (R102): of a timer at 0, or the step at which it reaches 0 (R105; assumption
log 9). -/
def startIntervalExpires (s : State) : State × List Notice :=
  if s.rem.startTimer = some 0 then endRemEvent (startElapses s)
  else if s.rem.startTimer = some 1 then timerStep s
  else (s, [])

/-- One seat's record replaced, with its REMINDER notice if the state changed. -/
def moveSeat (i : Seat) (r : ReminderRec) (s : State) : State × List Notice :=
  let t := s.rem.table.set i r
  (s.withTable t, reminderNotices s.rem.table t)

/-- The expiry of the visual timer of seat `i` (R108): of a timer at 0, or the step at which it reaches 0 (R105;
assumption log 9). -/
def visualExpires (i : Seat) (s : State) : State × List Notice :=
  let r := s.rem.table.get i
  if r.state = .visual ∧ r.visual = 0 then endRemEvent (moveSeat i (enterAudible r) s)
  else if r.state = .visual ∧ r.visual = 1 ∧ s.countCondition then timerStep s
  else (s, [])

/-- The expiry of the chime budget of seat `i` in AUDIBLE (R109): of a budget at 0, or the step at which it reaches 0
(R105; assumption log 9). -/
def budgetExpires (i : Seat) (s : State) : State × List Notice :=
  let r := s.rem.table.get i
  if r.state = .audible ∧ r.budget = 0 then endRemEvent (moveSeat i (r.to .capped) s)
  else if r.state = .audible ∧ r.budget = 1 ∧ s.countCondition then timerStep s
  else (s, [])

/-! ## Settings (R99) -/

/-- A running timer lowered to a new setting; a VISUAL timer or AUDIBLE budget so lowered to 0 goes on as at its expiry
(R99). -/
def lowerTimers (c : ReminderContext) (r : ReminderRec) : ReminderRec :=
  let low : ReminderRec := { r with visual := min r.visual c.visual, budget := min r.budget c.budget }
  if low.state = .visual ∧ low.visual = 0 ∧ r.visual ≠ 0 then enterAudible low
  else if low.state = .audible ∧ low.budget = 0 ∧ r.budget ≠ 0 then low.to .capped
  else low

/-- New reminder settings take effect (R99): timers and budgets are lowered, and the trigger is evaluated against the new
v_remind. The REMINDER notices stand in seat order, each seat's once. -/
def applySettings (new : ReminderSettings) (s : State) : State × List Notice :=
  let before := s.rem.table
  let s1 := { s with rem := { s.rem with settings := new } }
  let s2 := s1.withTable (Tab.ofFn fun i => lowerTimers s1.reminderContext (s.rem.table.get i))
  let s3 := (evaluateTrigger s.trigger s2).1
  endRemEvent (s3, reminderNotices before s3.rem.table)

/-! ## Ignition (R115, R116) -/

/-- Ignition OFF at REM: every state NONE, budgets kept, the start interval stopped (R115). -/
def remIgnitionOff (s : State) : State × List Notice :=
  let t := Tab.ofFn fun i => (s.rem.table.get i).to .none
  let s1 := { s with rem := { s.rem with startTimer := none, startElapsed := false, table := t } }
  endRemEvent (s1, reminderNotices s.rem.table t)

/-- Ignition ON at REM, with the snapshot budget of each resumed seat: the start interval is loaded, every budget is set
and every seat is evaluated (R116). -/
def remIgnitionOn (budgets : Seat → Option Nat) (s : State) : State × List Notice :=
  let full := steps s.rem.settings.tChime
  let t := Tab.ofFn fun i =>
    { s.rem.table.get i with budget := match budgets i with | some b => min b full | none => full }
  let s1 := { s with rem := { s.rem with
    startTimer := some (steps s.rem.settings.tStart), startElapsed := false, table := t } }
  endRemEvent (evaluateReminders (fun _ => true) s1)

/-! ## Map, rows and RESTART (R117, R118) -/

/-- Every seat chosen holds NONE, a visual timer of 0 and a full budget. -/
def State.restedTable (s : State) (chosen : Seat → Bool) : Tab 16 ReminderRec :=
  Tab.ofFn fun i => if chosen i then restingReminder s.rem.settings.tChime else s.rem.table.get i

/-- REM at a map apply: every reminder to NONE with its notice, then every seat evaluated from its fresh record when
ignition is ON (R117). -/
def remApply (s : State) : State × List Notice :=
  let t := s.restedTable fun _ => true
  let e := evaluateReminders (fun _ => true) (s.withTable t)
  endRemEvent (e.1, reminderNotices s.rem.table t ++ e.2)

/-- REM at the removal of a row (R11, R117). -/
def remRowRemoved (r : Row) (s : State) : State × List Notice :=
  let t := s.restedTable (s.cmap.inRow r)
  endRemEvent (s.withTable t, reminderNotices s.rem.table t)

/-- REM at the installation of a row: full budgets, then an evaluation of the row's seats (R117). -/
def remRowInstalled (r : Row) (s : State) : State × List Notice :=
  let t := Tab.ofFn fun i =>
    if s.cmap.inRow r i then { s.rem.table.get i with visual := 0, budget := steps s.rem.settings.tChime }
    else s.rem.table.get i
  endRemEvent (evaluateReminders (s.cmap.inRow r) (s.withTable t))

/-- REM at RESTART: every record rested without notice, the start interval reloaded with ignition ON, then every seat
evaluated; the summary is re-derived without a CABIN notice (R118). -/
def remRestart (s : State) : State × List Notice :=
  let s1 := { s with rem := { s.rem with
    startTimer := if s.ret.ignition = .on then some (steps s.rem.settings.tStart) else none
    startElapsed := false, table := s.restedTable fun _ => true } }
  let e := evaluateReminders (fun _ => true) s1
  (e.1.refreshSummary, e.2)

/-- REM at a change VERD reports: that seat is evaluated (R66, R107). -/
def remSeatChanged (i : Seat) (s : State) : State × List Notice :=
  endRemEvent (evaluateReminders (fun j => decide (j = i)) s)

end Sys2Proof.Machine
end

