-- ==== Sys2Proof/Machine/Retention.lean ====
section
/-! DEFINITION. RET (chapter 8): line debounces (R134, R135), snapshots and their discarding (R138 to R144) and the resume at
ignition ON (R145). -/

namespace Sys2Proof.Machine

/-! ## Debounces -/

/-- IGN takes a new level: RET, once it watches, runs the debounce while the level differs from the state (R134, R165). -/
def ignLine (level : Bool) (s : State) : State :=
  let s1 := { s with pins := { s.pins with ign := level } }
  if s.store.loading then s1
  else { s1 with ret := { s1.ret with ignDebounce := decide (level ≠ decide (s.ret.ignition = .on)) } }

/-- DOORn takes a new level (R135). -/
def doorLine (d : Door) (level : Bool) (s : State) : State :=
  let s1 := { s with pins := { s.pins with door := s.pins.door.set d level } }
  if s.store.loading then s1
  else { s1 with ret := { s1.ret with
      doorDebounce := s1.ret.doorDebounce.set d (decide (level ≠ s.ret.doorOpen.get d)) } }

/-- RET begins to watch its lines: a line that already differs from its state starts a debounce (R134, R135). -/
def Ret.watch (r : Ret) (p : Pins) : Ret :=
  { r with
    ignDebounce := decide (p.ign ≠ decide (r.ignition = .on))
    doorDebounce := Tab.ofFn fun d => decide (p.door.get d ≠ r.doorOpen.get d) }

/-- A door's debounce has run out: its state is the level its line settled to (R135). -/
def Ret.doorSettles (r : Ret) (d : Door) (isOpen : Bool) : Ret :=
  { r with doorOpen := r.doorOpen.set d isOpen, doorDebounce := r.doorDebounce.set d false }

/-! ## Snapshots (R138 to R140) -/

/-- Some seat holds a snapshot. -/
def anySnapshot (t : Tab 16 (Option Snapshot)) : Bool := allSeats.any fun i => (t.get i).isSome

/-- The snapshots taken at the OFF event: every ACTIVE seat with a confirmed verdict (R139). -/
def takenSnapshots (s : State) : Tab 16 (Option Snapshot) :=
  Tab.ofFn fun i =>
    let r := s.verd.seats.get i
    if r.lifecycle = .active ∧ r.confirmed ≠ .unknown then
      some { confirmed := r.confirmed, buckle := r.buckle, budget := (s.rem.table.get i).budget }
    else none

/-- RET at the OFF event: the state OFF, the snapshots taken and the retention timer started when there are any; with
t_retain 0 neither (R136, R139, R140). -/
def retOff (s : State) : State :=
  let r := { s.ret with ignition := .off, ignDebounce := false }
  if s.ret.tRetain = 0 then { s with ret := r }
  else
    let t := takenSnapshots s
    { s with ret := { r with
        snapshots := t, timer := if anySnapshot t then some (steps s.ret.tRetain) else none } }

/-! ## Discarding (R140 to R144) -/

/-- The seats of a class that hold a snapshot. -/
def heldSnapshots (r : Ret) (which : Seat → Bool) : SeatSet := seatSet fun i => which i && (r.snapshots.get i).isSome

/-- A RETENTION notice, posted only when its seat set is not empty (R144). -/
def retentionNotices (cause : Option DiscardCause) (x : SeatSet) : List Notice :=
  if noSeats x then [] else [.retention cause x]

/-- RET with the snapshots of a class of seats gone; the timer stops with the last snapshot (R140). -/
def Ret.drop (r : Ret) (which : Seat → Bool) : Ret :=
  let t := Tab.ofFn fun i => if which i then none else r.snapshots.get i
  { r with snapshots := t, timer := if anySnapshot t then r.timer else none }

/-- Snapshots of a class of seats discarded under a cause, with the notice to post (R141 to R144). -/
def discardSnapshots (cause : DiscardCause) (which : Seat → Bool) (s : State) : State × List Notice :=
  ({ s with ret := s.ret.drop which }, retentionNotices (some cause) (heldSnapshots s.ret which))

/-! ## Resume (R145) -/

/-- The seats resumed at the ON event: those that hold a snapshot and are ACTIVE (R145). -/
def State.resumes (s : State) (i : Seat) : Bool :=
  (s.ret.snapshots.get i).isSome && decide ((s.verd.seats.get i).lifecycle = .active)

/-- The budget that RET hands REM for a resumed seat (R145). -/
def State.resumeBudget (s : State) (i : Seat) : Option Nat :=
  if s.resumes i then (s.ret.snapshots.get i).map Snapshot.budget else none

/-- The retention timer has reached 0: every snapshot is discarded under TIMER and the timer stops (R140). -/
def retentionExpires (s : State) : State :=
  let d := discardSnapshots .timer (fun _ => true) s
  postAll d.2 d.1

/-- RET's 0.1 s count: while ignition is OFF a running retention timer is lowered, and its expiry taken when it reaches 0
(R140). -/
def retentionTick (s : State) : State :=
  match s.ret.timer with
  | none => s
  | some n =>
      if s.ret.ignition ≠ .off then s
      else if n ≤ 1 then retentionExpires s
      else { s with ret := { s.ret with timer := some (n - 1) } }

end Sys2Proof.Machine
end

