-- ==== Sys2Proof/Machine/Verdicts.lean ====
section
/-! DEFINITION. VERD (chapters 4 and 5): the handling of a mat frame step by step (R64), on one seat record, and motion hold
(R76). Each step answers the record it leaves and the notices it posts. -/

namespace Sys2Proof.Machine

/-! ## Step 2: mat streaks and lifecycle (R85 to R87) -/

/-- The two mat streaks after a frame (R85). -/
def matStreaks (f : MatFrame) (r : SeatRec) : SeatRec :=
  if f.conditions.dirty then { r with matStreak := min 3 (r.matStreak + 1), cleanStreak := 0 }
  else { r with matStreak := 0, cleanStreak := min 5 (r.cleanStreak + 1) }

/-- The record of a seat entering FAULTED (R86). -/
def SeatRec.faulted (r : SeatRec) : SeatRec :=
  { r with lifecycle := .faulted, confirmed := .unknown, candidate := none, candidateCount := 0, history := [],
           evicted := none, unstable := false }

/-- A FAULT notice of a seat's record as it stands (R95, R96). -/
def faultNotice (i : Seat) (r : SeatRec) : Notice := .fault i r.faultSet r.lifecycle

/-- Step 2 of R64 for an ACTIVE or FAULTED seat: the streaks, then the move they make (R85 to R87). -/
def matStep (f : MatFrame) (r0 : SeatRec) : SeatRec × List Notice :=
  let r := matStreaks f r0
  match r.lifecycle with
  | .active =>
      if r.matStreak = 3 then (r.faulted, [faultNotice f.seat r.faulted]) else (r, [])
  | .faulted =>
      if r.cleanStreak = 5 then
        ({ r with lifecycle := .active }, [faultNotice f.seat { r with lifecycle := .active }])
      else (r, [])
  | _ => (r, [])

/-! ## Step 3: buckle, anchor, tension (R90 to R93) -/

/-- The agree count after a good band (R90). -/
def Agree.next (a : Agree) (latched : Bool) : Agree :=
  match a with
  | .run b n => if b = latched then .run b (min 2 (n + 1)) else .run latched 1
  | .zero => .run latched 1

/-- The buckle state of a good band. -/
def goodState (latched : Bool) : BuckleState := if latched then .latched else .unlatched

/-- A good buckle band (R90). -/
def goodBand (i : Seat) (latched : Bool) (r0 : SeatRec) : SeatRec × List Notice :=
  let r := { r0 with buckleStreak := 0, agree := r0.agree.next latched }
  if r.agree = .run latched 2 ∧ r.buckle ≠ goodState latched then
    ({ r with buckle := goodState latched }, [.buckle i (goodState latched)])
  else (r, [])

/-- A bad buckle band (R91). -/
def badBand (i : Seat) (r0 : SeatRec) : SeatRec × List Notice :=
  let r := { r0 with agree := .zero, buckleStreak := min 3 (r0.buckleStreak + 1) }
  if r.buckleStreak = 3 ∧ r.buckle ≠ .fault then ({ r with buckle := .fault }, [.buckle i .fault]) else (r, [])

/-- The buckle of step 3; a frame without a band leaves it (R89). -/
def buckleStep (f : MatFrame) (r : SeatRec) : SeatRec × List Notice :=
  match f.band with
  | none => (r, [])
  | some .unlatched => goodBand f.seat false r
  | some .latched => goodBand f.seat true r
  | some .openCircuit => badBand f.seat r
  | some .short => badBand f.seat r

/-- The anchor of step 3: the state follows the marker's level (R92). -/
def anchorStep (m : SeatMap) (f : MatFrame) (r : SeatRec) : SeatRec :=
  match m.anchorLine, f.anchor with
  | some _, some level => { r with anchor := if level then .engaged else .free }
  | _, _ => r

/-- The tension of step 3 (R93). -/
def tensionStep (f : MatFrame) (r : SeatRec) : SeatRec × List Notice :=
  match f.tension with
  | none => (r, [])
  | some (_, valid) =>
      if r.tensionFault = valid then
        -- the reading disagrees with the flag
        if (if valid then 2 else 3) ≤ r.tensionStreak + 1 then
          let r := { r with tensionFault := !r.tensionFault, tensionStreak := 0 }
          (r, [faultNotice f.seat r])
        else ({ r with tensionStreak := r.tensionStreak + 1 }, [])
      else ({ r with tensionStreak := 0 }, [])

/-! ## Steps 4 and 5: acceptance and the instantaneous verdict (R65, R69) -/

/-- The frame is accepted (R65). -/
def accepted (f : MatFrame) (r : SeatRec) : Bool := decide (r.lifecycle = .active) && !f.conditions.dirty

/-- The instantaneous verdict of an accepted frame (R69). -/
def instantaneous (p : Profile) (r : SeatRec) (f : MatFrame) : Verdict :=
  let e := evidence p r f
  if f.mass < thrEmpty p r.confirmed ∨ f.contacts = 0 then .empty
  else if 3 ≤ e ∨ (2 ≤ e ∧ r.confirmed = .childSeat) then .childSeat
  else if f.mass < thrPerson p r.confirmed then .object
  else if f.mass < thrAdult p r.confirmed then .small
  else .adult

/-- The last features an accepted frame leaves (R65). -/
def lastFeatures (p : Profile) (r : SeatRec) (f : MatFrame) : LastFeatures :=
  { load := f.load, mass := f.mass, contacts := f.contacts, rail := f.rail, tension := f.tension,
    evidence := evidence p r f, conditions := f.conditions }

/-! ## Step 6: history and instability (R70, R71) -/

/-- The history after a push, and the evicted code (R70). -/
def pushHistory (v : Verdict) (r : SeatRec) : SeatRec :=
  { r with
    history := (v :: r.history).take 8
    evicted := if r.history.length < 8 then r.evicted else r.history.getLast? }

/-- The number of adjacent pairs whose two codes differ (R71). -/
def differingPairs : List Verdict → Nat
  | a :: b :: rest => (if a = b then 0 else 1) + differingPairs (b :: rest)
  | _ => 0

/-- The unstable flag after a push (R71). -/
def nextUnstable (r : SeatRec) : Bool :=
  if r.history.length = 8 ∧ 4 ≤ differingPairs r.history then true
  else if differingPairs r.history ≤ 2 then false
  else r.unstable

/-- Instability, with a STABILITY notice on a change (R71). -/
def instabilityStep (i : Seat) (r : SeatRec) : SeatRec × List Notice :=
  let u := nextUnstable r
  ({ r with unstable := u }, if u = r.unstable then [] else [.stability i u])

/-! ## Step 7: confirmation (R72 to R74) -/

/-- The candidate and its count after a verdict (R72). -/
def nextCandidate (v : Verdict) (r : SeatRec) : SeatRec :=
  if v = r.confirmed then { r with candidate := none, candidateCount := 0 }
  else if r.candidate = some v then { r with candidateCount := min 255 (r.candidateCount + 1) }
  else { r with candidate := some v, candidateCount := 1 }

/-- The required count of a record, the first line of R73 that applies. -/
def requiredCount (p : Profile) (r : SeatRec) : Nat :=
  if r.confirmed = .unknown then p.nUp.toNat
  else if r.confirmed = .childSeat ∨ r.candidate = some .childSeat then p.nChild.toNat
  else if r.candidate = some .empty then
    if r.motionHold then min 255 (4 * p.nDown.toNat) else p.nDown.toNat
  else p.nUp.toNat

/-- The confirmation step of a seat that is not unstable (R72 to R74). -/
def confirmStep (p : Profile) (i : Seat) (v : Verdict) (r0 : SeatRec) : SeatRec × List Notice :=
  if r0.unstable then (r0, [])
  else
    let r := nextCandidate v r0
    match r.candidate with
    | none => (r, [])
    | some c =>
        if requiredCount p r ≤ r.candidateCount then
          ({ r with confirmed := c, candidate := none, candidateCount := 0 }, [.verdict i r.confirmed c])
        else (r, [])

/-! ## Step 8 and the whole handling (R64, R78) -/

/-- Latched-while-empty (R78). -/
def latchedEmptyStep (r : SeatRec) : SeatRec :=
  { r with latchedEmpty := decide (r.confirmed = .empty) && decide (r.buckle = .latched) }

/-- Steps 5 to 7 of an accepted frame (R64). -/
def judge (p : Profile) (f : MatFrame) (r : SeatRec) : SeatRec × List Notice :=
  let v := instantaneous p r f
  let r6 := pushHistory v { r with features := some (lastFeatures p r f) }
  let u := instabilityStep f.seat r6
  let c := confirmStep p f.seat v u.1
  (c.1, u.2 ++ c.2)

/-- The handling of a frame on its seat's record: the record it leaves and its notices, in order (R64). A frame of an
UNMAPPED or ABSENT seat changes nothing. -/
def handleFrame (m : SeatMap) (p : Profile) (f : MatFrame) (r : SeatRec) : SeatRec × List Notice :=
  match r.lifecycle with
  | .unmapped => (r, [])
  | .absent => (r, [])
  | _ =>
      let r2 := matStep f r
      let rb := buckleStep f r2.1
      let rt := tensionStep f (anchorStep m f rb.1)
      let rj := if accepted f rt.1 then judge p f rt.1 else (rt.1, [])
      (latchedEmptyStep rj.1, r2.2 ++ rb.2 ++ rt.2 ++ rj.2)

/-- The frame changed a field that REM reads (R66). -/
def changedForRem (a b : SeatRec) : Bool :=
  decide (a.lifecycle ≠ b.lifecycle) || decide (a.confirmed ≠ b.confirmed) || decide (a.buckle ≠ b.buckle) ||
  decide (a.anchor ≠ b.anchor)

/-- The frame changed a field that the advisory value is derived from (R124). -/
def changedForAdv (a b : SeatRec) : Bool :=
  decide (a.lifecycle ≠ b.lifecycle) || decide (a.confirmed ≠ b.confirmed)

/-! ## Motion hold (R76) -/

/-- A door of the seat's door set is OPEN. -/
def State.doorOpenAt (s : State) (i : Seat) : Bool :=
  (List.finRange 4).any fun d => s.cmap.behindDoor d i && s.ret.doorOpen.get d

/-- The motion hold flag of a seat after an evaluation (R76). -/
def nextHold (s : State) (i : Seat) : Bool :=
  let r := s.verd.seats.get i
  if r.lifecycle ≠ .active then false
  else if s.doorOpenAt i then false
  else match s.rem.speed with
    | some x => decide (s.rem.settings.vHold ≤ x)
    | none => r.motionHold

/-- VERD evaluates motion hold for every seat (R76, R77). -/
def evaluateHold (s : State) : State :=
  { s with verd := { s.verd with
      seats := Tab.ofFn fun i => { s.verd.seats.get i with motionHold := nextHold s i } } }

/-- The record of a seat resumed from a snapshot (R84). -/
def SeatRec.resumed (r : SeatRec) (m : SeatMap) (v : Verdict) : SeatRec :=
  { r with confirmed := v, candidate := none, candidateCount := 0, history := [], evicted := none, unstable := false
           buckle := if m.fitted && m.buckle then .unknown else r.buckle
           agree := .zero, buckleStreak := 0, latchedEmpty := false }

end Sys2Proof.Machine
end

