-- ==== Sys2Proof/Machine/Apply.lean ====
section
/-! DEFINITION. The events that reach every block: the map apply (R7, R8), RESTART (R163), the ignition events (R136, R137),
the row events (R10, R11) and the completion of a frame's handling (R63, R66). -/

namespace Sys2Proof.Machine

/-- VERD with every record fresh and the handover slot empty (R12, R63). -/
def verdFresh (s : State) : State := { s with verd := { seats := s.cmap.freshSeats, slot := none } }

/-- FEAT's part of a map apply or RESTART (R47, R61). -/
def withFeat (f : Feat) (s : State) : State := { s with feat := f }

/-- Every seat. -/
def everySeat : Seat → Bool := fun _ => true

/-- A map apply (R7, R8): the records, flag, row states and fresh records; then SCAN, FEAT, REM, RET and ADV each act on
their own state. The notices of REM, FEAT and RET stand in a free order (assumption log 10). -/
def mapApply (recs : MapRecs) (valid : Bool) (s : State) : State :=
  let s1 := scanApply (verdFresh { s with cmap := s.cmap.applied s.pins recs valid })
  let f := featFlush s1.feat
  let r := remApply (withFeat f.1 s1)
  let d := discardSnapshots .map everySeat r.1
  postMerged [r.2, f.2, d.2] (advApply d.1)

/-- The notices of a RESTART that are posted after the emptying of the queue; `c` selects where it stands among them. -/
def afterCut {α : Type} (c : Nat) : List α → List α
  | [] => []
  | x :: xs => (x :: xs).drop (c % (xs.length + 2))

/-- LNK with the notice queue emptied and the overflow flag clear (R163). -/
def Lnk.emptied (l : Lnk) : Lnk := { l with notices := [], overflow := false }

/-- RESTART handed to every block (R18, R47, R82, R118, R131, R143, R163). The order of its notices and of the emptying of
the notice queue is free (assumption log 10, 11). -/
def restartBlocks (s : State) : State :=
  let s1 := scanRestart (verdFresh s)
  let f := featFlush s1.feat
  let r := remRestart (withFeat f.1 s1)
  let d := discardSnapshots .restart everySeat r.1
  let a := advRestart d.1
  let left := afterCut (Config.restartCut a.free) (mergeNotices a.free [r.2, f.2, d.2])
  postAll left { a with lnk := a.lnk.emptied, free := a.free + 3 }.refreshAttn

/-- The ignition OFF event (R136): RET's snapshots first, then SCAN, REM and FEAT. -/
def ignitionOff (s : State) : State :=
  let s1 := scanIgnitionOff (retOff s)
  let f := abortCapture s1.feat
  let r := remIgnitionOff (withFeat f.1 s1)
  postMerged [r.2, f.2] r.1

/-- The Seat Table with the resumed seats written (R84, R145). -/
def resumedSeats (s : State) : Tab 16 SeatRec :=
  Tab.ofFn fun i => match s.ret.snapshots.get i with
    | some snap => if s.resumes i then (s.verd.seats.get i).resumed (s.cmap.seats.get i) snap.confirmed
        else s.verd.seats.get i
    | none => s.verd.seats.get i

/-- The ignition ON event (R137, R145): the resume with its advisory evaluations, the RETENTION notices, then REM and
SCAN. -/
def ignitionOn (s : State) : State :=
  let s1 := { s with
    verd := { s.verd with seats := resumedSeats s }
    ret := { s.ret with ignition := .on, ignDebounce := false, snapshots := Tab.const 16 none, timer := none } }
  let s2 := postAll
    (retentionNotices none (heldSnapshots s.ret s.resumes) ++
      retentionNotices (some .ignition) (heldSnapshots s.ret fun i => !s.resumes i))
    (advSeats s.resumes s1)
  scanIgnitionOn (postEvent (remIgnitionOn s.resumeBudget s2))

/-- The Seat Table with the fitted seats of row `r` of the map `c` made fresh in a lifecycle (R10, R11, R12). -/
def State.freshRow (s : State) (c : CMap) (r : Row) (l : Lifecycle) : Tab 16 SeatRec :=
  Tab.ofFn fun i => if c.inRow r i then freshSeat (c.seats.get i) l else s.verd.seats.get i

/-- Row `r` becomes INSTALLED (R10). -/
def installRow (r : Row) (s : State) : State :=
  let c := s.cmap.rowBecomes r .installed
  let s1 := post (.row r .installed) { s with
    cmap := c
    verd := { s.verd with seats := s.freshRow c r .active } }
  postEvent (remRowInstalled r s1)

/-- Row `r` becomes REMOVED (R11): ROW first, then the notices of REM, FEAT and RET in a free order. -/
def removeRow (r : Row) (s : State) : State :=
  let c := s.cmap.rowBecomes r .removed
  let s1 := post (.row r .removed) { s with
    cmap := c
    verd := { s.verd with seats := s.freshRow c r .absent } }
  let s2 := scanRowRemoved r s1
  let f := abortCaptureOf (c.inRow r) s2.feat
  let m := remRowRemoved r (withFeat f.1 s2)
  let d := discardSnapshots .row (c.inRow r) m.1
  postMerged [m.2, f.2, d.2] d.1

/-- The completion of a frame's handling (R63, R64, R66): the record and its notices, then REM, ADV and, on a fault, FEAT;
the slot empties. -/
def frameHandled (s : State) : State :=
  match s.verd.slot with
  | none => s
  | some f =>
      let before := s.verd.seats.get f.seat
      let h := handleFrame (s.cmap.seats.get f.seat) (s.cmap.profileOf f.seat) f before
      let s1 := postAll h.2 { s with verd := { seats := s.verd.seats.set f.seat h.1, slot := none } }
      let s2 := if changedForAdv before h.1 then advSeats (fun i => decide (i = f.seat)) s1 else s1
      let faultedNow := decide (before.lifecycle = .active) && decide (h.1.lifecycle = .faulted)
      let a := if faultedNow then abortCaptureOf (fun i => decide (i = f.seat)) s2.feat else (s2.feat, [])
      let s3 := withFeat a.1 s2
      let r := if changedForRem before h.1 then remSeatChanged f.seat s3 else (s3, [])
      postMerged [r.2, a.2] r.1

end Sys2Proof.Machine
end

