-- ==== Sys2Proof/Machine/Settings.lean ====
section
/-! DEFINITION. STORE (chapter 10): the validity flags, the full-reset load (R165), commits and their completion (R166,
R167, R170), and the working copies that PROTECTION CLEAR returns to their defaults (R170). -/

namespace Sys2Proof.Machine

/-! ## Sections -/

/-- A section's validity flag set (R164). -/
def SectionFlags.put (v : SectionFlags) (x : Section) (b : Bool) : SectionFlags :=
  match x with
  | .map => { v with map := b }
  | .profiles => { v with profiles := b }
  | .reminder => { v with reminder := b }
  | .timing => { v with timing := b }
  | .calibration => { v with calibration := b }
  | .protection => { v with protection := b }

/-- The image of the reminder settings section from the working copies (R98, R147). -/
def State.reminderImage (s : State) : SectionImage := .reminder s.rem.settings s.ret.tRetain

/-! ## The load (R165) -/

/-- The profiles section as loaded: treated as failing when any profile is out of range or order (R165). -/
def Stored.goodProfiles (d : Stored) : Option (Tab 4 Profile) :=
  match d.profiles with
  | some ps => if (List.finRange 4).all fun i => (ps.get i).ok then some ps else none
  | none => none

/-- The working calibration of a stored one (R56, R165). -/
def loadedCal (c : Calibration) : Calibration := Tab.ofFn fun i => Tab.ofFn fun n => ((c.get i).get n).loaded

/-- The working copies and validity flags after the load; the load is over and the store idle (R164, R165). -/
def loadSections (s : State) : State :=
  let d := s.store.stored
  let reminder := d.reminder.getD (defaultSettings, defaultRetain)
  { s with
    cmap := { s.cmap with profiles := d.goodProfiles.getD defaultProfiles }
    scan := { s.scan with timing := (d.timing.getD defaultTiming).clamped }
    feat := { s.feat with cal := match d.calibration with | some c => loadedCal c | none => uncalibrated }
    rem := { s.rem with settings := reminder.1.clamped }
    ret := { s.ret with tRetain := clampRetain reminder.2 }
    store := { s.store with
      loading := false, commit := .idle, switches := d.protection.getD permitted
      valid := { map := d.map.isSome, profiles := d.goodProfiles.isSome, reminder := d.reminder.isSome,
                 timing := d.timing.isSome, calibration := d.calibration.isSome,
                 protection := d.protection.isSome } } }

/-- The load completes: the working copies, the straps sampled, the map applied, RET watching (R5, R134, R135, R165). -/
def loadCompletes (straps : BitVec 2) (s : State) : State :=
  if s.store.loading then
    let s1 := loadSections s
    let s2 := { s1 with cmap := { s1.cmap with strap := straps } }
    let recs := strapRecords straps s.store.stored.map
    let s3 := mapApply recs (if straps = 0 then mapValid recs s2.cmap.profiles else true) s2
    { s3 with ret := s3.ret.watch s3.pins }
  else s

/-- A full reset starts (R165): every block at its reset state, a commit in flight cut off (R166), the pairs low (R126).
The stored sections and the levels on the input lines are outside it. -/
def fullReset (s : State) : State :=
  { State.reset with
    store := Store.reset (s.store.stored.cutOff s.store.commit)
    pins := { s.pins with sup := Tab.const 2 (false, false), attn := false }
    free := s.free
    pending := s.pending }

/-! ## Commits complete (R166, R167, R170) -/

/-- A waiting capture's offsets are applied and its commit starts (R60, R167). -/
def releaseCapture (s : State) : State :=
  match s.feat.capture with
  | some c =>
      if c.state = .waitingStore then captureCommits c (c.offsets.getD c.averages) s else s
  | none => s

/-- The capture whose commit has completed is closed, with DONE on success (R60). -/
def finishCapture (passes : Bool) (s : State) : State :=
  match s.feat.capture with
  | some c =>
      if c.state = .committing then
        if passes then post (.calibration c.seat .done) (closeCapture s) else closeCapture s
      else s
  | none => s

/-- A section's commit completes with its read-back (R166); the completion is handed to a capture that waits (R167). -/
def commitCompletes (passes : Bool) (s : State) : State :=
  match s.store.commit with
  | .one image =>
      let s1 := post (.store image.sec passes) { s with store := { s.store with
        stored := s.store.stored.write image passes, valid := s.store.valid.put image.sec passes, commit := .idle } }
      releaseCapture (if image.sec = .calibration then finishCapture passes s1 else s1)
  | _ => s

/-- The map section after an erasure that did not take: the content it still holds, free when it failed its test before
(R170; assumption log 13). -/
def heldMap (k : Nat) (m : Option MapRecs) : MapRecs :=
  m.getD { rows := Tab.ofFn (Config.heldRow k), seats := Tab.ofFn (Config.heldSeat k) }

/-- The six-section commit of PROTECTION CLEAR completes; bit n of `passes` is section n's read-back (R170). -/
def clearCompletes (passes : BitVec 6) (s : State) : State :=
  let p := passes.getLsbD
  match s.store.commit with
  | .clear c =>
      let stored := clearedStore (heldMap s.free s.store.stored.map) c passes
      let valid : SectionFlags :=
        { map := p 0, profiles := p 1, reminder := p 2, timing := p 3, calibration := p 4, protection := p 5 }
      releaseCapture (postAll
        [.store .map (!p 0), .store .profiles (p 1), .store .reminder (p 2), .store .timing (p 3),
         .store .calibration (p 4), .store .protection (p 5)]
        { s with store := { s.store with stored := stored, valid := valid, commit := .idle }, free := s.free + 1 })
  | _ => s

/-! ## PROTECTION CLEAR (R170) -/

/-- Step 1: the working copies at their defaults, each taking effect in its block; MAP, CALIBRATION and PROFILE permitted
(R170). -/
def clearSettings (s : State) : State :=
  let s1 := { s with
    cmap := { s.cmap with profiles := defaultProfiles }
    scan := { s.scan with timing := defaultTiming }
    feat := { s.feat with cal := uncalibrated }
    ret := { s.ret with tRetain := defaultRetain }
    store := { s.store with switches := { permitted with clear := s.store.switches.clear } } }
  postEvent (applySettings defaultSettings s1)

/-- Step 2: the map of the sampled strap applied, the empty map for strap 00 (R170). -/
def clearMap (s : State) : State :=
  mapApply (strapRecords s.cmap.strap none) (decide (s.cmap.strap ≠ 0)) s

/-- Step 3: the commit of all six sections starts and the map section's flag is invalid at once (R170). -/
def clearCommit (s : State) : State :=
  { s with store := { s.store with
      valid := { s.store.valid with map := false }
      commit := .clear { profiles := s.cmap.profiles, settings := s.rem.settings, tRetain := s.ret.tRetain,
                         timing := s.scan.timing, cal := s.feat.cal, switches := s.store.switches } } }

end Sys2Proof.Machine
end

