-- ==== Sys2Proof/Machine/Requests.lean ====
section
/-! DEFINITION. What the owner of each request answers (R153, chapters 1 to 10), with the reply bodies of chapter 11. Each
answer starts with the form check of R153 and the checks of its own rule, in their order. -/

namespace Sys2Proof.Machine

/-! ## General requests (R160 to R163) -/

/-- IDENTIFY (R162, R172): vendor 0x6A1C, part 0x0316, firmware 1.4, 16 seats, 5 rows. -/
def answerIdentify (f : ReqFrame) : State → Answer :=
  formEmpty f fun s => Answer.ok s (le16 0x6A1C ++ le16 0x0316 ++ [1, 4, 16, 5])

/-- The STATUS body (R162, R178). -/
def statusBody (s : State) : List Byte :=
  [byteOf s.cmap.valid.toNat, BitVec.setWidth 8 s.cmap.strap, byteOf s.scan.state.code, byteOf s.ret.ignition.code,
   byteOf s.store.valid.bits, byteOf s.store.committing.toNat, byteOf s.store.switches.bits,
   byteOf s.adv.mailbox.isSome.toNat, byteOf s.lnk.notices.length, byteOf s.lnk.overflow.toNat, byteOf s.lnk.level]

/-- STATUS (R162). -/
def answerStatus (f : ReqFrame) : State → Answer := formEmpty f fun s => Answer.ok s (statusBody s)

/-- RESTART: answered OK; its effects follow the reply (R163). -/
def answerRestart (f : ReqFrame) : State → Answer := formEmpty f fun s => ⟨s, .ok, [], true, []⟩

/-- NOTICE FETCH (R160). -/
def fetchNotices (count : Byte) (s : State) : Answer :=
  let n := clamp 1 8 count.toNat
  let taken := s.lnk.notices.take n
  let left := s.lnk.notices.drop n
  Answer.ok { s with lnk := { s.lnk with notices := left, overflow := false } }.refreshAttn
    ([byteOf taken.length, byteOf left.length, byteOf s.lnk.overflow.toNat] ++ taken.flatMap Notice.bytes)

def answerNoticeFetch (f : ReqFrame) : State → Answer := formByte f fetchNotices

/-- NOTICE LEVEL SET (R161). -/
def setLevel (level : Byte) (s : State) : Answer :=
  let n := clamp 1 32 level.toNat
  Answer.ok { s with lnk := { s.lnk with level := n } }.refreshAttn [byteOf n]

def answerNoticeLevelSet (f : ReqFrame) : State → Answer := formByte f setLevel

/-! ## The map transfer (R155 to R157) -/

/-- A MAP WRITE refused with BAD_ARG or PROTECTED closes an open transfer (R158). -/
def refuseTransfer (st : Status) (s : State) : Answer := Answer.refuse st (closeTransfer s)

/-- The body length of a part, its index included (R173). -/
def partLength (part : Nat) : Nat := if part = 0 then 16 else 49

/-- A part staged: the transfer record replaced, its inactivity timer loaded, and ACCEPTED (R155, R156). -/
def stage (t : Transfer) (s : State) : Answer :=
  ⟨{ s with lnk := { s.lnk with transfer := some t } }, .accepted, [], false, []⟩

/-- A MAP WRITE of part 0 (R155). -/
def openTransfer (records : List Byte) (final : Bool) (s : State) : Answer :=
  if records.length + 1 ≠ partLength 0 then refuseTransfer .badArg s
  else if s.store.switches.map then refuseTransfer .barred s
  else if final then refuseTransfer .badArg s
  else stage { expected := 1, part0 := some records, part1 := none, part2 := none } s

/-- The final frame of an open transfer at expected index 3 (R157). The transfer is closed unless the store is
committing; the image is tested by R4, and a valid one is applied and committed. -/
def finishTransfer (t : Transfer) (part3 : List Byte) (nChild : Option (Tab 4 Byte)) (s : State) : Answer :=
  if s.store.committing then Answer.refuse .busy s
  else
    let recs := MapRecs.ofParts (t.part0.getD []) (t.part1.getD []) (t.part2.getD [])
    let profiles := profilesOfPart s.cmap.profiles s.free nChild part3
    let s1 := closeTransfer { s with free := s.free + 4 }
    match mapFailure recs profiles with
    | some failure => ⟨s1, .mapInvalid, failure.bytes, false, []⟩
    | none =>
        Answer.ok (startCommit (.map recs)
          (mapApply recs true { s1 with cmap := { s1.cmap with profiles := profiles } })) []

/-- The transfer with part 1 or 2 staged and the next index expected (R156). -/
def Transfer.staged (t : Transfer) (part : Nat) (records : List Byte) : Transfer :=
  if part = 1 then { t with expected := t.expected + 1, part1 := some records }
  else { t with expected := t.expected + 1, part2 := some records }

/-- A MAP WRITE of another part (R156). -/
def continueTransfer (part : Nat) (records : List Byte) (final : Bool) (nChild : Option (Tab 4 Byte)) (s : State) : Answer :=
  if 3 < part ∨ records.length + 1 ≠ partLength part then refuseTransfer .badArg s
  else match s.lnk.transfer with
    | none => Answer.refuse .noTransfer s
    | some t =>
        if part ≠ t.expected then refuseTransfer .badArg s
        else if final then
          if part = 3 then finishTransfer t records nChild s else refuseTransfer .badArg s
        else if part = 3 then refuseTransfer .badArg s
        else stage (t.staged part records) s

/-- A MAP WRITE frame (R155, R156): its part index chooses the rule. -/
def mapWrite (part : Byte) (records : List Byte) (final : Bool) (nChild : Option (Tab 4 Byte)) : State → Answer :=
  if part = 0 then openTransfer records final else continueTransfer part.toNat records final nChild

/-- MAP WRITE with its form check, a body of 1..56 bytes (R172; assumption log 16). -/
def answerMapWrite (f : ReqFrame) (nChild : Option (Tab 4 Byte)) : State → Answer :=
  match f.body with
  | [] => refuseTransfer .badArg
  | part :: records => if 55 < records.length then refuseTransfer .badArg else mapWrite part records f.final nChild

/-! ## Map and profiles (R14, R15) -/

/-- A row's state as MAP READ reports it (R7, R14). -/
def CMap.shownRow (c : CMap) (i : Row) : RowState := if c.valid then c.rowState.get i else .fixed

/-- The profiles whose records a part of the map holds (R14). -/
def CMap.profilesIn (c : CMap) (part : Nat) : List Profile := if part = 3 then c.profiles.cells else []

/-- MAP READ (R14). -/
def readMap (part : Byte) (s : State) : Answer :=
  if 3 < part.toNat then Answer.refuse .badArg s
  else (Answer.ok s
    ([byteOf s.cmap.valid.toNat, BitVec.setWidth 8 s.cmap.strap, part] ++ s.cmap.partBytes part.toNat ++
      (if part = 0 then (List.finRange 5).map fun i => byteOf (s.cmap.shownRow i).code else []))).withProfiles
    (s.cmap.profilesIn part.toNat)

def answerMapRead (f : ReqFrame) : State → Answer := formByte f readMap

/-- PROFILE WRITE after its form check (R15). -/
def writeProfile (ix : Byte) (record : List Byte) (nChild : Option Byte) (s : State) : Answer :=
  if h : ix.toNat < 4 then
    guardCommit s.store.switches.profile (fun s =>
      let sent := Profile.ofBytes (sentNChild s.free nChild) record
      if sent.ordered then
        let p := sent.clamped
        let ps := s.cmap.profiles.set ⟨ix.toNat, h⟩ p
        (Answer.ok (startCommit (.profiles ps)
          { s with cmap := { s.cmap with profiles := ps }, free := s.free + 1 }) (ix :: p.bytes)).withProfiles [p]
      else Answer.refuse .badArg s) s
  else Answer.refuse .badArg s

def answerProfileWrite (f : ProfileFrame) (s : State) : Answer :=
  match f.body with
  | ix :: record =>
      if f.final && record.length = 12 then writeProfile ix record f.nChild s else Answer.refuse .badArg s
  | [] => Answer.refuse .badArg s

/-! ## Scanning (R33, R34, R37 to R39) -/

/-- P, D and the settle time in their layout. -/
def Timing.bytes (t : Timing) : List Byte := le16 t.p ++ le16 t.d ++ le16 t.settle

/-- SCAN TIMING SET after its form check (R38). -/
def setTiming (sent : Timing) (s : State) : Answer :=
  guardCommit s.store.switches.profile (fun s =>
    let t := sent.clamped
    Answer.ok (startCommit (.timing t) { s with scan := { s.scan with timing := t } })
      (t.bytes ++ le24 t.interval)) s

def answerScanTimingSet (f : ReqFrame) (s : State) : Answer :=
  match f.final, f.body with
  | true, [p0, p1, d0, d1, t0, t1] =>
      setTiming { p := ofLe16 p0 p1, d := ofLe16 d0 d1, settle := ofLe16 t0 t1 } s
  | _, _ => Answer.refuse .badArg s

/-- A marker is waiting in MARK (R27). -/
def Scan.marking (c : Scan) : Bool :=
  match c.step with
  | some st => match st.phase with
    | .mark _ => true
    | _ => false
  | none => false

/-- The probe slot's state code and probed seat (R171, R178). -/
def probeSlotBytes (p : ProbeSlot) : List Byte :=
  match p with
  | .free _ => [0, 0xFF]
  | .armed i _ => [1, byteOf i.val]
  | .filled b => [2, byteOf b.seat.val]

/-- The SCAN STATUS body (R39, R178). -/
def scanStatusBody (c : Scan) : List Byte :=
  [byteOf c.state.code, byteOf (bitsOf [c.marking, c.closing, c.overrun, c.tornFlag]),
   optByte (c.step.map fun st => st.seat.val), byteOf c.queue.length] ++
  probeSlotBytes c.probe ++ c.timing.bytes ++ le24 c.timing.interval

/-- SCAN STATUS (R39). -/
def answerScanStatus (f : ReqFrame) : State → Answer :=
  formEmpty f fun s =>
    Answer.ok { s with scan := { s.scan with overrun := false, tornFlag := false } } (scanStatusBody s.scan)

/-- What a probe accepted now is accepted for: timed passes, the end of a closing pass, or a probe pass (R34). -/
def Scan.serviceOf (c : Scan) : ProbeService :=
  match c.state with
  | .waiting => .timed
  | .pass => if c.closing then .closing else .timed
  | _ => .probePass

/-- SCAN takes an accepted SEAT PROBE (R34). -/
def armProbe (i : Seat) (s : State) : State :=
  let how := s.scan.serviceOf
  let s1 := { s with
    scan := { s.scan with probe := .armed i how }
    feat := { s.feat with intake := if how = .timed then s.feat.intake.probeArmed else s.feat.intake } }
  if s.scan.state = .stopped then beginProbePass i s1 else s1

/-- SEAT PROBE after its seat check (R33). -/
def probeSeat (i : Seat) (s : State) : Answer :=
  match s.scan.probe with
  | .free _ =>
      let l := (s.verd.seats.get i).lifecycle
      if s.scan.state = .halted ∨ l = .unmapped ∨ l = .absent then Answer.refuse .state s
      else Answer.ok (armProbe i s) []
  | _ => Answer.refuse .busy s

def answerSeatProbe (f : ReqFrame) : State → Answer := formSeat f probeSeat

/-- PROBE READ (R37). -/
def answerProbeRead (f : ReqFrame) : State → Answer :=
  formEmpty f fun s => match s.scan.probe with
    | .armed _ _ => Answer.refuse .notReady s
    | .filled b => Answer.ok { s with scan := { s.scan with probe := .free none } } b.bytes
    | .free report =>
        ⟨{ s with scan := { s.scan with probe := .free none } }, .state, [byteOf (cancelCode report)], false, []⟩

/-! ## Calibration (R57 to R59) -/

/-- A zero capture is open on the seat. -/
def Feat.capturing (f : Feat) (i : Seat) : Bool :=
  match f.capture with
  | some c => decide (c.seat = i)
  | none => false

/-- No two entries name the same cell. -/
def distinctCells : List CalEntry → Bool
  | [] => true
  | e :: rest => rest.all (fun o => decide (o.cell ≠ e.cell)) && distinctCells rest

/-- Every entry names a fitted cell and gives Z and G in range, and no cell twice (R57). -/
def entriesOk (c : CMap) (i : Seat) (es : List CalEntry) : Bool :=
  distinctCells es && es.all fun e => c.cellFitted i e.cell && decide (64 ≤ e.z.toNat) && decide (64 ≤ e.g.toNat)

/-- A seat's calibration with the entries applied (R57). -/
def writeCells : List CalEntry → Tab 16 CellCal → Tab 16 CellCal
  | [], t => t
  | e :: rest, t => writeCells rest (t.set e.cell { z := e.z, g := e.g, mark := true })

/-- CAL WRITE after its form and count checks (R57). -/
def writeCal (es : List CalEntry) (i : Seat) (s : State) : Answer :=
  if s.store.switches.calibration then Answer.refuse .barred s
  else if s.store.committing || s.feat.capturing i then Answer.refuse .busy s
  else if entriesOk s.cmap i es then
    let cal := s.feat.cal.set i (writeCells es (s.feat.cal.get i))
    Answer.ok (startCommit (.calibration cal) { s with feat := { s.feat with cal := cal } }) []
  else Answer.refuse .badArg s

/-- CAL WRITE (R57, R172): a body of 2 + 3k bytes, k in 1..16. -/
def answerCalWrite (f : ReqFrame) (s : State) : Answer :=
  match f.final, f.body with
  | true, seat :: k :: rest =>
      if rest.length % 3 = 0 ∧ 1 ≤ rest.length / 3 ∧ rest.length / 3 ≤ 16 ∧ k.toNat = rest.length / 3 then
        seatArg seat (writeCal (calEntries rest)) s
      else Answer.refuse .badArg s
  | _, _ => Answer.refuse .badArg s

/-- The capture state and frame count bytes of CAL READ (R58, R174). The count is given with COLLECTING only
(assumption log 23). -/
def captureBytes (f : Feat) (i : Seat) : List Byte :=
  match f.capture with
  | some c =>
      if c.seat = i then match c.state with
        | .collecting => [1, byteOf c.count]
        | .waitingStore => [2, 0]
        | .committing => [3, 0]
      else [0, 0]
  | none => [0, 0]

/-- CAL READ (R58). -/
def readCal (i : Seat) (s : State) : Answer :=
  Answer.ok s ([byteOf i.val] ++ captureBytes s.feat i ++
    (List.finRange 16).flatMap fun n => calGroup ((s.feat.cal.get i).get n) (s.cmap.cellFitted i n))

def answerCalRead (f : ReqFrame) : State → Answer := formSeat f readCal

/-- A capture record at its opening (R59). -/
def newCapture (i : Seat) : Capture :=
  { seat := i, state := .collecting, count := 0, sums := Tab.const 16 0, offsets := none }

/-- ZERO CAPTURE after its seat check (R59). -/
def openCapture (i : Seat) (s : State) : Answer :=
  if s.store.switches.calibration then Answer.refuse .barred s
  else if s.feat.capture.isSome || s.store.committing then Answer.refuse .busy s
  else if (s.verd.seats.get i).lifecycle ≠ .active ∨ s.ret.ignition = .off then Answer.refuse .state s
  else
    Answer.ok { s with feat := { s.feat with
      capture := some (newCapture i), intake := s.feat.intake.captureOpened } } []

def answerZeroCapture (f : ReqFrame) : State → Answer := formSeat f openCapture

/-! ## Seats (R79, R80) -/

/-- SEAT SUMMARY (R79). -/
def answerSeatSummary (f : ReqFrame) : State → Answer :=
  formEmpty f fun s =>
    Answer.ok s (allSeats.flatMap fun i => summaryBytes (s.verd.seats.get i) (s.rem.table.get i).state)

/-- The required count that SEAT DETAIL shows: absent, 0, without a candidate (R80). -/
def shownRequired (p : Profile) (r : SeatRec) : Nat := if r.candidate.isSome then requiredCount p r else 0

/-- The profile by which SEAT DETAIL shows the thresholds of a seat (R80): the one its record names. DESIGN CHOICE
(assumption log 25): for an unfitted seat, whose profile field no block reads (R1), and for a code that names no profile,
it is a free one. -/
def CMap.shownProfileOf (c : CMap) (i : Seat) : Profile :=
  let m := c.seats.get i
  if m.fitted ∧ m.profile.toNat < 4 then c.profileOf i else c.profiles.get (Config.unfittedProfile i)

/-- SEAT DETAIL (R80). The profile of an unfitted seat is assumption log 25. -/
def readSeat (i : Seat) (s : State) : Answer :=
  let r := s.verd.seats.get i
  let p := s.cmap.shownProfileOf i
  Answer.ok s (detailBytes i.val r (shownRequired p r) (thrEmpty p r.confirmed) (thrPerson p r.confirmed)
    (thrAdult p r.confirmed))

def answerSeatDetail (f : ReqFrame) : State → Answer := formSeat f readSeat

/-! ## Reminders (R99, R100, R121) -/

/-- The sets and counts of the cabin summary. -/
def Summary.setBytes (x : Summary) : List Byte :=
  seatSetBytes x.visual ++ seatSetBytes x.child ++ [byteOf x.occupied, byteOf x.latched]

/-- The speed record that a VEHICLE STATE argument sets (R100). -/
def speedOf (b : Byte) : Option Nat := if b.toNat ≤ 250 then some b.toNat else none

/-- The speed record takes a value: motion hold and the trigger are evaluated (R77, R100, R101, R103). -/
def speedChanges (speed : Option Nat) (freshness : Bool) (s : State) : State :=
  let s1 := evaluateHold { s with rem := { s.rem with speed := speed, freshness := freshness } }
  postEvent (endRemEvent (evaluateTrigger s.trigger s1))

/-- VEHICLE STATE (R100). -/
def reportSpeed (b : Byte) (s : State) : Answer :=
  let t := speedChanges (speedOf b) true s
  Answer.ok t ([speedByte t.rem.speed, byteOf t.rem.summary.chime.toNat] ++ t.rem.summary.setBytes)

def answerVehicleState (f : ReqFrame) : State → Answer := formByte f reportSpeed

/-- The five settings in their layout (R172). -/
def ReminderSettings.bytes (r : ReminderSettings) : List Byte :=
  [byteOf r.vRemind, byteOf r.vHold] ++ le16 r.tStart ++ [byteOf r.tVisual, byteOf r.tChime]

/-- REMINDER SET after its form check (R99). -/
def setReminders (sent : ReminderSettings) (s : State) : Answer :=
  guardCommit s.store.switches.profile (fun s =>
    let t := postEvent (applySettings sent.clamped s)
    Answer.ok (startCommit t.reminderImage t) sent.clamped.bytes) s

def answerReminderSet (f : ReqFrame) (s : State) : Answer :=
  match f.final, f.body with
  | true, [vr, vh, s0, s1, tv, tc] =>
      setReminders { vRemind := vr.toNat, vHold := vh.toNat, tStart := ofLe16 s0 s1, tVisual := tv.toNat,
                     tChime := tc.toNat } s
  | _, _ => Answer.refuse .badArg s

/-- A seat's four bytes in CABIN REMINDER (R178). -/
def reminderBytes (r : ReminderRec) : List Byte := byteOf r.state.code :: le24 (r.budget + r.visual * 2 ^ 12)

/-- The CABIN REMINDER body (R121, R178). -/
def cabinBody (half : Byte) (s : State) : List Byte :=
  [half, byteOf (bitsOf [s.rem.summary.chime, decide (s.ret.ignition = .on), s.rem.startElapsed, s.rem.freshness,
    s.trigger, s.countCondition])] ++
  s.rem.summary.setBytes ++ le16 (s.rem.startTimer.getD 0) ++ [speedByte s.rem.speed] ++
  (if half = 0 then s.rem.table.cells.take 8 else s.rem.table.cells.drop 8).flatMap reminderBytes

/-- CABIN REMINDER (R121). -/
def readCabin (half : Byte) (s : State) : Answer :=
  if 1 < half.toNat then Answer.refuse .badArg s else Answer.ok s (cabinBody half s)

def answerCabinReminder (f : ReqFrame) : State → Answer := formByte f readCabin

/-! ## Advisory (R129) -/

/-- A position's four bytes among the current advisories (R177). -/
def currentBytes (s : State) (p : Pos) : List Byte :=
  let a := s.adv.positions.get p
  ((advisoryRecord s.verd.seats p a a.value).bytes).drop 1

/-- The ADVISORY READ body (R129, R177). -/
def advisoryBody (s : State) : List Byte :=
  byteOf (bitsOf [s.adv.mailbox.isSome, s.adv.superseded]) :: mailboxBytes s.adv.mailbox ++
  currentBytes s 0 ++ currentBytes s 1

/-- ADVISORY READ (R129). -/
def answerAdvisoryRead (f : ReqFrame) : State → Answer :=
  formEmpty f fun s => Answer.ok (emptyMailbox s) (advisoryBody s)

/-! ## Retention (R147, R148) -/

/-- A seat's three bytes in the retention report. -/
def snapshotBytes (x : Option Snapshot) : List Byte :=
  match x with
  | none => [0, 0, 0]
  | some n => le24 (n.confirmed.code + n.buckle.code * 8 + n.budget * 64)

/-- The retention report (R148, R178). -/
def retentionReport (r : Ret) : List Byte :=
  le16 r.tRetain ++
  [byteOf (bitsOf [decide (r.ignition = .on), r.timer.isSome, false, false] + 16 * bitsOf r.doorOpen.cells)] ++
  le16 (r.timer.getD 0) ++ r.snapshots.cells.flatMap snapshotBytes

/-- RETENTION SET, write form (R147). -/
def setRetain (sent : Nat) (s : State) : Answer :=
  guardCommit s.store.switches.profile (fun s =>
    let t := { s with ret := { s.ret with tRetain := clampRetain sent } }
    Answer.ok (startCommit t.reminderImage t) (retentionReport t.ret)) s

/-- RETENTION SET, read or write form by its body (R147, R148). -/
def answerRetention (f : ReqFrame) (s : State) : Answer :=
  match f.final, f.body with
  | true, [] => Answer.ok s (retentionReport s.ret)
  | true, [lo, hi] => setRetain (ofLe16 lo hi) s
  | _, _ => Answer.refuse .badArg s

/-! ## Protection (R169, R170) -/

/-- Some setting asks a barred switch to become permitted (R169). -/
def Switches.loosens (held asked : Switches) : Bool :=
  (held.map && !asked.map) || (held.calibration && !asked.calibration) || (held.profile && !asked.profile) ||
  (held.clear && !asked.clear)

/-- The switches with every setting that is barred made barred (R169). -/
def Switches.tighten (held asked : Switches) : Switches :=
  { map := held.map || asked.map, calibration := held.calibration || asked.calibration,
    profile := held.profile || asked.profile, clear := held.clear || asked.clear }

/-- PROTECT SET (R169). -/
def protect (b : Byte) (s : State) : Answer :=
  let asked := Switches.ofByte b
  let held := s.store.switches
  if held.loosens asked then Answer.refuse .barred s
  else if asked = held then Answer.ok s [byteOf held.bits]
  else if s.store.committing then Answer.refuse .busy s
  else
    let w := held.tighten asked
    Answer.ok (startCommit (.protection w) { s with store := { s.store with switches := w } }) [byteOf w.bits]

def answerProtectSet (f : ReqFrame) : State → Answer := formByte f protect

/-- PROTECTION CLEAR (R170): answered OK, a RESTART following the reply. -/
def answerProtectionClear (f : ReqFrame) : State → Answer :=
  formEmpty f fun s =>
    guardCommit s.store.switches.clear (fun s => ⟨clearCommit (clearMap (clearSettings s)), .ok, [], true, []⟩) s

end Sys2Proof.Machine
end

