-- ==== Sys2Proof/Machine/Link.lean ====
section
/-! DEFINITION. LNK (chapter 9): the receiver (R150 to R152), the request that a frame's CODE names (R153, R172), and the end of
a reply (R153, R163). -/

namespace Sys2Proof.Machine

/-- The answer to a request by its CODE (R153, R172): UNKNOWN_REQUEST when none has it. A profile record of such a frame is
told by its bytes alone (assumption log 22). -/
def requestAnswer (code : Byte) (f : ReqFrame) (s : State) : Answer :=
  if code = 0x01 then answerIdentify f s
  else if code = 0x02 then answerStatus f s
  else if code = 0x03 then answerRestart f s
  else if code = 0x08 then answerNoticeFetch f s
  else if code = 0x09 then answerNoticeLevelSet f s
  else if code = mapWriteCode then answerMapWrite f none s
  else if code = 0x11 then answerMapRead f s
  else if code = 0x12 then answerProfileWrite { f with nChild := none } s
  else if code = 0x20 then answerScanTimingSet f s
  else if code = 0x21 then answerScanStatus f s
  else if code = 0x22 then answerSeatProbe f s
  else if code = 0x23 then answerProbeRead f s
  else if code = 0x30 then answerCalWrite f s
  else if code = 0x31 then answerCalRead f s
  else if code = 0x32 then answerZeroCapture f s
  else if code = 0x38 then answerSeatSummary f s
  else if code = 0x39 then answerSeatDetail f s
  else if code = 0x41 then answerVehicleState f s
  else if code = 0x42 then answerReminderSet f s
  else if code = 0x43 then answerCabinReminder f s
  else if code = 0x48 then answerAdvisoryRead f s
  else if code = 0x50 then answerRetention f s
  else if code = 0x60 then answerProtectSet f s
  else if code = 0x61 then answerProtectionClear f s
  else Answer.refuse .unknownRequest s

/-! ## The receiver (R150 to R152) -/

/-- The receiver in HUNT, its inter-byte timer stopped. -/
def Lnk.hunting (l : Lnk) : Lnk := { l with rxState := .hunt, interByte := false }

/-- A frame ends with a link error: answered while dispatch is idle, dropped otherwise (R151). -/
def linkError (st : Status) (code : Byte) (s : State) : State :=
  let s1 := { s with lnk := s.lnk.hunting }
  if s.lnk.dispatch = .idle then
    { s1 with lnk := { s1.lnk with dispatch := .handling { code := code, status := st, body := [] } false } }
  else s1

/-- The CODE byte of the receive buffer. -/
def Lnk.rxCode (l : Lnk) : Byte := l.rxBuf.headD 0

/-- The frame in the receive buffer, its end byte taken. -/
def Lnk.rxFrame (l : Lnk) (endByte : Byte) : ReqFrame :=
  { body := l.rxBuf.drop 1, final := decide (endByte = 0x0D) }

/-- The end byte is taken and the frame tested (R151): a link error, or a request that dispatch takes or discards
(R153). -/
def frameEnds (b : Byte) (s : State) : State :=
  if b ≠ 0x0D ∧ b ≠ 0x0B then linkError .badFrame s.lnk.rxCode s
  else if byteSum (s.lnk.rxLen :: s.lnk.rxCheck :: s.lnk.rxBuf) ≠ 0 then linkError .badCheck s.lnk.rxCode s
  else takeRequest s.lnk.rxCode (requestAnswer s.lnk.rxCode (s.lnk.rxFrame b)) { s with lnk := s.lnk.hunting }

/-- A byte on RXD (R150): each byte of a frame loads the inter-byte timer (R152). While the load is in flight the
receiver is disabled and the byte is lost. -/
def receive (b : Byte) (s : State) : State :=
  if s.store.loading then s
  else match s.lnk.rxState with
    | .hunt =>
        if b = 0x3C then
          { s with lnk := { s.lnk with rxState := .length, rxLen := 0, rxBuf := [], rxCheck := 0, interByte := true } }
        else s
    | .length =>
        if 1 ≤ b.toNat ∧ b.toNat ≤ 57 then
          { s with lnk := { s.lnk with rxState := .body, rxLen := b, interByte := true } }
        else linkError .badLength 0 s
    | .body =>
        let buf := s.lnk.rxBuf ++ [b]
        { s with lnk := { s.lnk with
            rxBuf := buf, interByte := true
            rxState := if s.lnk.rxLen.toNat ≤ buf.length then .check else .body } }
    | .check => { s with lnk := { s.lnk with rxCheck := b, rxState := .end_, interByte := true } }
    | .end_ => frameEnds b s

/-- The inter-byte timer expires: the partial frame is discarded (R152). -/
def interByteExpires (s : State) : State :=
  if s.lnk.interByte then { s with lnk := { s.lnk.hunting with rxLen := 0, rxBuf := [], rxCheck := 0 } } else s

/-- The last byte of a reply has left TXD: dispatch is idle, after RESTART has been handed to every block where one
follows the reply (R153, R163, R170). -/
def replyLeaves (s : State) : State :=
  match s.lnk.dispatch with
  | .idle => s
  | .handling _ restart =>
      let s1 := if restart then restartBlocks s else s
      { s1 with lnk := { s1.lnk with dispatch := .idle } }

end Sys2Proof.Machine
end

