-- ==== Sys2Proof/Machine/Events.lean ====
section
/-! DEFINITION. The meanings of the commands that are events of the part: reset and store, lines, rows, scanning, frames,
reminders, retention and link timers. A command whose timer or operation is not in flight has no effect (assumption
log 6). -/

namespace Sys2Proof.Machine

/-- The outcome of a step of the JM16. -/
abbrev Result := Host.Outcome State Fault Refusal

/-! ## Reset and store -/

/-- FULL_RESET (R165): the load of all six sections begins. -/
def execFullReset (s : State) : Result := .next (fullReset s)

/-- STORE_LOAD_COMPLETE (R165): the working copies, the straps, the map apply, the receiver, RET's lines. -/
def execStoreLoadComplete (straps : BitVec 2) (s : State) : Result := .next (loadCompletes straps s)

/-- COMMIT_COMPLETE (R166, R167). -/
def execCommitComplete (passes : Bool) (s : State) : Result := .next (commitCompletes passes s)

/-- CLEAR_COMMIT_COMPLETE (R170). -/
def execClearCommitComplete (passes : BitVec 6) (s : State) : Result := .next (clearCompletes passes s)

/-! ## Ignition and doors -/

/-- IGN_LINE_CHANGE (R134). -/
def execIgnLineChange (level : Bool) (s : State) : Result := .next (ignLine level s)

/-- IGNITION_OFF (R136): the ignition debounce expires toward OFF. -/
def execIgnitionOff (s : State) : Result :=
  .next (if s.ret.ignDebounce ∧ s.ret.ignition = .on then ignitionOff s else s)

/-- IGNITION_ON (R137): the ignition debounce expires toward ON. -/
def execIgnitionOn (s : State) : Result :=
  .next (if s.ret.ignDebounce ∧ s.ret.ignition = .off then ignitionOn s else s)

/-- DOOR_LINE_CHANGE (R135). -/
def execDoorLineChange (d : Door) (level : Bool) (s : State) : Result := .next (doorLine d level s)

/-- A door's state changes and VERD evaluates motion hold (R77, R135). -/
def doorChanges (d : Door) (isOpen : Bool) (s : State) : State :=
  evaluateHold { s with ret := s.ret.doorSettles d isOpen }

/-- DOOR_OPEN (R135, R141): while ignition is OFF the snapshots behind the door are discarded. -/
def execDoorOpen (d : Door) (s : State) : Result :=
  .next (
    if s.ret.doorDebounce.get d ∧ s.ret.doorOpen.get d = false then
      let s1 := doorChanges d true s
      if s.ret.ignition = .off then postEvent (discardSnapshots (.door d) (s.cmap.behindDoor d) s1) else s1
    else s)

/-- DOOR_CLOSED (R135). -/
def execDoorClosed (d : Door) (s : State) : Result :=
  .next (if s.ret.doorDebounce.get d ∧ s.ret.doorOpen.get d = true then doorChanges d false s else s)

/-- RETENTION_TIMER_EXPIRY (R140): the 0.1 s at which the retention timer reaches 0; a timer with more to count is not
expiring (assumption log 5). -/
def execRetentionTimerExpiry (s : State) : Result :=
  .next (match s.ret.timer with
    | some n => if n ≤ 1 then retentionExpires s else s
    | none => s)

/-! ## Rows -/

/-- ROWP_LINE_CHANGE (R9). -/
def execRowpLineChange (line : Line) (level : Bool) (s : State) : Result :=
  .next { s with
    pins := { s.pins with rowp := s.pins.rowp.set line level }
    cmap := s.cmap.lineChanged line level }

/-- ROW_INSTALLED (R10): the installation debounce expires. -/
def execRowInstalled (r : Row) (s : State) : Result :=
  .next (if s.cmap.valid ∧ s.cmap.rowDebounce.get r ∧ s.cmap.rowState.get r = .removed then installRow r s else s)

/-- ROW_REMOVED (R11): the removal debounce expires. -/
def execRowRemoved (r : Row) (s : State) : Result :=
  .next (if s.cmap.valid ∧ s.cmap.rowDebounce.get r ∧ s.cmap.rowState.get r = .installed then removeRow r s else s)

/-! ## Scanning -/

/-- INTERVAL_EXPIRY (R20, R21). -/
def execIntervalExpiry (s : State) : Result := .next (intervalExpires s)

/-- SETTLE_END (R22). -/
def execSettleEnd (s : State) : Result := .next (settleEnds s)

/-- CONVERSION_COMPLETE (R23 to R26). -/
def execConversionComplete (raw : BitVec 12) (anch : BitVec 8) (s : State) : Result :=
  .next (conversionCompletes raw anch s)

/-- MARKER_PUSHED (R27). -/
def execMarkerPushed (s : State) : Result := .next (pushWaiting s)

/-! ## Frames -/

/-- ENTRY_COMPLETE (R42). -/
def execEntryComplete (s : State) : Result := .next (entryCompletes s)

/-- BLOCKED_MARKER_TAKE (R43). -/
def execBlockedMarkerTake (s : State) : Result := .next (takeBlocked s)

/-- FRAME_FINISH (R44 to R46, R60). -/
def execFrameFinish (s : State) : Result := .next (frameFinishes s)

/-- FRAME_HANDLING_COMPLETE (R63 to R78, R85 to R96). -/
def execFrameHandlingComplete (s : State) : Result := .next (frameHandled s)

/-! ## Reminder timers -/

/-- REM_TIMER_STEP (R105). -/
def execRemTimerStep (s : State) : Result := .next (postEvent (timerStep s))

/-- START_INTERVAL_EXPIRY (R102). -/
def execStartIntervalExpiry (s : State) : Result := .next (postEvent (startIntervalExpires s))

/-- VISUAL_TIMER_EXPIRY (R108). -/
def execVisualTimerExpiry (i : Seat) (s : State) : Result := .next (postEvent (visualExpires i s))

/-- CHIME_BUDGET_EXPIRY (R109). -/
def execChimeBudgetExpiry (i : Seat) (s : State) : Result := .next (postEvent (budgetExpires i s))

/-- FRESHNESS_EXPIRY (R101): the speed record becomes UNKNOWN and the timer stops. -/
def execFreshnessExpiry (s : State) : Result :=
  .next (if s.rem.freshness then speedChanges none false s else s)

/-! ## Link -/

/-- RECEIVE_BYTE (R150, R151, R153). -/
def execReceiveByte (b : Byte) (s : State) : Result := .next (receive b s)

/-- INTER_BYTE_TIMEOUT (R152). -/
def execInterByteTimeout (s : State) : Result := .next (interByteExpires s)

/-- REPLY_COMPLETE (R153, R163). -/
def execReplyComplete (s : State) : Result := .next (replyLeaves s)

/-- TRANSFER_INACTIVITY_EXPIRY (R158): an open transfer closes silently. -/
def execTransferInactivityExpiry (s : State) : Result := .next (closeTransfer s)

end Sys2Proof.Machine
end

