-- ==== Sys2Proof/Machine/RequestMeanings.lean ====
section
/-! DEFINITION. The meanings of the requests: LNK takes the request (R153) and its owner answers. A request command is a frame
that has passed the tests of R151. -/

namespace Sys2Proof.Machine

/-- UNKNOWN_REQUEST (R153): a CODE that names no request; a CODE that names one is answered as that request. -/
def execUnknownRequest (code : Byte) (f : ReqFrame) (s : State) : Result :=
  .next (takeRequest code (requestAnswer code f) s)

/-- MAP_WRITE_OPEN (R155): a MAP WRITE of part 0. -/
def execMapWriteOpen (records : List Byte) (final : Bool) (s : State) : Result :=
  .next (takeRequest mapWriteCode (answerMapWrite { body := 0 :: records, final := final } none) s)

/-- MAP_WRITE_CONTINUE (R156). -/
def execMapWriteContinue (part : Byte) (records : List Byte) (final : Bool) (s : State) : Result :=
  .next (takeRequest mapWriteCode (answerMapWrite { body := part :: records, final := final } none) s)

/-- MAP_WRITE_FINAL (R156, R157): the final MAP WRITE, of part 3. -/
def execMapWriteFinal (part : ProfilePart) (s : State) : Result :=
  .next (takeRequest mapWriteCode (answerMapWrite { body := 3 :: part.records, final := true } part.nChild) s)

/-- RETENTION_READ (R148): RETENTION SET with an empty body. -/
def execRetentionRead (final : Bool) (s : State) : Result :=
  .next (takeRequest 0x50 (answerRetention { body := [], final := final }) s)

/-- IDENTIFY (R162). -/
def execIdentify (f : ReqFrame) (s : State) : Result := .next (takeRequest 0x01 (answerIdentify f) s)

/-- STATUS (R162). -/
def execStatus (f : ReqFrame) (s : State) : Result := .next (takeRequest 0x02 (answerStatus f) s)

/-- RESTART (R163). -/
def execRestart (f : ReqFrame) (s : State) : Result := .next (takeRequest 0x03 (answerRestart f) s)

/-- NOTICE_FETCH (R160). -/
def execNoticeFetch (f : ReqFrame) (s : State) : Result := .next (takeRequest 0x08 (answerNoticeFetch f) s)

/-- NOTICE_LEVEL_SET (R161). -/
def execNoticeLevelSet (f : ReqFrame) (s : State) : Result := .next (takeRequest 0x09 (answerNoticeLevelSet f) s)

/-- MAP_READ (R14). -/
def execMapRead (f : ReqFrame) (s : State) : Result := .next (takeRequest 0x11 (answerMapRead f) s)

/-- PROFILE_WRITE (R15). -/
def execProfileWrite (f : ProfileFrame) (s : State) : Result := .next (takeRequest 0x12 (answerProfileWrite f) s)

/-- SCAN_TIMING_SET (R38). -/
def execScanTimingSet (f : ReqFrame) (s : State) : Result := .next (takeRequest 0x20 (answerScanTimingSet f) s)

/-- SCAN_STATUS (R39). -/
def execScanStatus (f : ReqFrame) (s : State) : Result := .next (takeRequest 0x21 (answerScanStatus f) s)

/-- SEAT_PROBE (R33, R34). -/
def execSeatProbe (f : ReqFrame) (s : State) : Result := .next (takeRequest 0x22 (answerSeatProbe f) s)

/-- PROBE_READ (R37). -/
def execProbeRead (f : ReqFrame) (s : State) : Result := .next (takeRequest 0x23 (answerProbeRead f) s)

/-- CAL_WRITE (R57). -/
def execCalWrite (f : ReqFrame) (s : State) : Result := .next (takeRequest 0x30 (answerCalWrite f) s)

/-- CAL_READ (R58). -/
def execCalRead (f : ReqFrame) (s : State) : Result := .next (takeRequest 0x31 (answerCalRead f) s)

/-- ZERO_CAPTURE (R59). -/
def execZeroCapture (f : ReqFrame) (s : State) : Result := .next (takeRequest 0x32 (answerZeroCapture f) s)

/-- SEAT_SUMMARY (R79). -/
def execSeatSummary (f : ReqFrame) (s : State) : Result := .next (takeRequest 0x38 (answerSeatSummary f) s)

/-- SEAT_DETAIL (R80). -/
def execSeatDetail (f : ReqFrame) (s : State) : Result := .next (takeRequest 0x39 (answerSeatDetail f) s)

/-- VEHICLE_STATE (R100). -/
def execVehicleState (f : ReqFrame) (s : State) : Result := .next (takeRequest 0x41 (answerVehicleState f) s)

/-- REMINDER_SET (R99). -/
def execReminderSet (f : ReqFrame) (s : State) : Result := .next (takeRequest 0x42 (answerReminderSet f) s)

/-- CABIN_REMINDER (R121). -/
def execCabinReminder (f : ReqFrame) (s : State) : Result := .next (takeRequest 0x43 (answerCabinReminder f) s)

/-- ADVISORY_READ (R129). -/
def execAdvisoryRead (f : ReqFrame) (s : State) : Result := .next (takeRequest 0x48 (answerAdvisoryRead f) s)

/-- RETENTION_SET (R147). -/
def execRetentionSet (f : ReqFrame) (s : State) : Result := .next (takeRequest 0x50 (answerRetention f) s)

/-- PROTECT_SET (R169). -/
def execProtectSet (f : ReqFrame) (s : State) : Result := .next (takeRequest 0x60 (answerProtectSet f) s)

/-- PROTECTION_CLEAR (R170). -/
def execProtectionClear (f : ReqFrame) (s : State) : Result := .next (takeRequest 0x61 (answerProtectionClear f) s)

end Sys2Proof.Machine
end

