-- ==== Sys2Proof/Machine/Dispatch.lean ====
section
/-! DEFINITION. The meaning of each command, one arm per row of spec/opcode_table.json. -/

namespace Sys2Proof.Machine

def exec (i : Instr) (s : State) : Host.Outcome State Fault Refusal :=
  match i with
  | .fullReset => Sys2Proof.Machine.execFullReset s
  | .storeLoadComplete straps => Sys2Proof.Machine.execStoreLoadComplete straps s
  | .ignLineChange level => Sys2Proof.Machine.execIgnLineChange level s
  | .ignitionOff => Sys2Proof.Machine.execIgnitionOff s
  | .ignitionOn => Sys2Proof.Machine.execIgnitionOn s
  | .doorLineChange door level => Sys2Proof.Machine.execDoorLineChange door level s
  | .doorOpen door => Sys2Proof.Machine.execDoorOpen door s
  | .doorClosed door => Sys2Proof.Machine.execDoorClosed door s
  | .rowpLineChange line level => Sys2Proof.Machine.execRowpLineChange line level s
  | .rowInstalled row => Sys2Proof.Machine.execRowInstalled row s
  | .rowRemoved row => Sys2Proof.Machine.execRowRemoved row s
  | .intervalExpiry => Sys2Proof.Machine.execIntervalExpiry s
  | .settleEnd => Sys2Proof.Machine.execSettleEnd s
  | .conversionComplete raw anch => Sys2Proof.Machine.execConversionComplete raw anch s
  | .markerPushed => Sys2Proof.Machine.execMarkerPushed s
  | .entryComplete => Sys2Proof.Machine.execEntryComplete s
  | .blockedMarkerTake => Sys2Proof.Machine.execBlockedMarkerTake s
  | .frameFinish => Sys2Proof.Machine.execFrameFinish s
  | .frameHandlingComplete => Sys2Proof.Machine.execFrameHandlingComplete s
  | .remTimerStep => Sys2Proof.Machine.execRemTimerStep s
  | .startIntervalExpiry => Sys2Proof.Machine.execStartIntervalExpiry s
  | .visualTimerExpiry seat => Sys2Proof.Machine.execVisualTimerExpiry seat s
  | .chimeBudgetExpiry seat => Sys2Proof.Machine.execChimeBudgetExpiry seat s
  | .freshnessExpiry => Sys2Proof.Machine.execFreshnessExpiry s
  | .retentionTimerExpiry => Sys2Proof.Machine.execRetentionTimerExpiry s
  | .commitComplete passes => Sys2Proof.Machine.execCommitComplete passes s
  | .clearCommitComplete passes => Sys2Proof.Machine.execClearCommitComplete passes s
  | .receiveByte b => Sys2Proof.Machine.execReceiveByte b s
  | .interByteTimeout => Sys2Proof.Machine.execInterByteTimeout s
  | .replyComplete => Sys2Proof.Machine.execReplyComplete s
  | .transferInactivityExpiry => Sys2Proof.Machine.execTransferInactivityExpiry s
  | .unknownRequest code frame => Sys2Proof.Machine.execUnknownRequest code frame s
  | .identify frame => Sys2Proof.Machine.execIdentify frame s
  | .status frame => Sys2Proof.Machine.execStatus frame s
  | .restart frame => Sys2Proof.Machine.execRestart frame s
  | .noticeFetch frame => Sys2Proof.Machine.execNoticeFetch frame s
  | .noticeLevelSet frame => Sys2Proof.Machine.execNoticeLevelSet frame s
  | .mapWriteOpen records final => Sys2Proof.Machine.execMapWriteOpen records final s
  | .mapWriteContinue part records final => Sys2Proof.Machine.execMapWriteContinue part records final s
  | .mapWriteFinal records => Sys2Proof.Machine.execMapWriteFinal records s
  | .mapRead frame => Sys2Proof.Machine.execMapRead frame s
  | .profileWrite frame => Sys2Proof.Machine.execProfileWrite frame s
  | .scanTimingSet frame => Sys2Proof.Machine.execScanTimingSet frame s
  | .scanStatus frame => Sys2Proof.Machine.execScanStatus frame s
  | .seatProbe frame => Sys2Proof.Machine.execSeatProbe frame s
  | .probeRead frame => Sys2Proof.Machine.execProbeRead frame s
  | .calWrite frame => Sys2Proof.Machine.execCalWrite frame s
  | .calRead frame => Sys2Proof.Machine.execCalRead frame s
  | .zeroCapture frame => Sys2Proof.Machine.execZeroCapture frame s
  | .seatSummary frame => Sys2Proof.Machine.execSeatSummary frame s
  | .seatDetail frame => Sys2Proof.Machine.execSeatDetail frame s
  | .vehicleState frame => Sys2Proof.Machine.execVehicleState frame s
  | .reminderSet frame => Sys2Proof.Machine.execReminderSet frame s
  | .cabinReminder frame => Sys2Proof.Machine.execCabinReminder frame s
  | .advisoryRead frame => Sys2Proof.Machine.execAdvisoryRead frame s
  | .retentionSet frame => Sys2Proof.Machine.execRetentionSet frame s
  | .retentionRead final => Sys2Proof.Machine.execRetentionRead final s
  | .protectSet frame => Sys2Proof.Machine.execProtectSet frame s
  | .protectionClear frame => Sys2Proof.Machine.execProtectionClear frame s

end Sys2Proof.Machine
end

