-- ==== Sys2Proof/Safety.lean ====
section
/-! DEFINITION. The laws of the part, in the terms the statements use: each is a property of one state that the manual
gives as holding at all times. Each is an abbreviation, and the words of the statements stand after them. -/

namespace Sys2Proof.Safety

open Sys2Proof.Machine

/-! ## CMAP and the seat lifecycle (chapter 1) -/

/-- R4, R7, R9: while the map is valid row 0 is not removable and every advisory seat stands in row 0; a row is FIXED
exactly when it is not removable or the map is invalid, and only a removable row of a valid map runs a debounce. -/
abbrev MapLaw (s : State) : Prop :=
  (s.cmap.valid = true → (s.cmap.rows.get 0).removable = false) ∧
  (s.cmap.valid = true → ∀ i : Seat, (s.cmap.seats.get i).fitted = true →
    (s.cmap.seats.get i).advisoryPos ≠ none → (s.cmap.seats.get i).rowIx = 0) ∧
  ∀ r : Row,
    (s.cmap.rowState.get r = .fixed ↔ ¬ (s.cmap.valid = true ∧ (s.cmap.rows.get r).removable = true)) ∧
    (s.cmap.rowDebounce.get r = true → s.cmap.rowState.get r ≠ .fixed)

/-- R7, R10, R11, R13: a seat is UNMAPPED exactly when it is unfitted or the map is invalid, and ABSENT exactly when it
is fitted in a valid map and its row is REMOVED. -/
abbrev LifecycleLaw (s : State) : Prop :=
  ∀ i : Seat,
    ((s.verd.seats.get i).lifecycle = .unmapped ↔ ¬ (s.cmap.valid = true ∧ (s.cmap.seats.get i).fitted = true)) ∧
    ((s.verd.seats.get i).lifecycle = .absent ↔
      s.cmap.valid = true ∧ (s.cmap.seats.get i).fitted = true ∧
        s.cmap.rowState.get (s.cmap.seats.get i).rowIx = .removed)

/-- R13: a seat whose lifecycle is not ACTIVE has confirmed verdict UNKNOWN. -/
abbrev VerdictLaw (s : State) : Prop :=
  ∀ i : Seat, (s.verd.seats.get i).lifecycle ≠ .active → (s.verd.seats.get i).confirmed = .unknown

/-! ## SCAN and FEAT (chapters 2 and 3) -/

/-- R17, R20, R28: what holds in each state of SCAN. -/
abbrev ScanLaw (s : State) : Prop :=
  (s.scan.state = .halted ↔ s.cmap.valid = false) ∧
  (s.scan.state = .stopped → s.ret.ignition = .off) ∧
  (s.scan.state = .waiting → s.ret.ignition = .on) ∧
  (s.scan.state = .pass → s.scan.closing = false → s.ret.ignition = .on) ∧
  (s.scan.closing = true → s.scan.state = .pass) ∧
  (s.scan.interval.isSome = true ↔ s.scan.state = .waiting ∨ (s.scan.state = .pass ∧ s.scan.closing = false)) ∧
  (s.scan.step.isSome = true ↔ s.scan.state = .pass ∨ s.scan.state = .probing) ∧
  (s.scan.state ≠ .pass → s.scan.visited = [] ∧ s.scan.rest = [])

/-- R26, R40: the queue holds at most 64 entries; an IDLE FEAT has found it empty, and a BLOCKED FEAT stands at a
marker. -/
abbrev QueueLaw (s : State) : Prop :=
  s.scan.queue.length ≤ 64 ∧
  (s.feat.intake = .idle → s.scan.queue = []) ∧
  (s.feat.intake = .blocked → ∃ m rest, s.scan.queue = .marker m :: rest)

/-- R56: a calibration cell whose mark is clear holds Z = 300 and G = 256, and Z and G lie in 64..1023. -/
abbrev CalibrationLaw (s : State) : Prop :=
  ∀ (i : Seat) (n : Cell),
    64 ≤ ((s.feat.cal.get i).get n).z.toNat ∧ 64 ≤ ((s.feat.cal.get i).get n).g.toNat ∧
    (((s.feat.cal.get i).get n).mark = false →
      ((s.feat.cal.get i).get n).z = 300 ∧ ((s.feat.cal.get i).get n).g = 256)

/-! ## Seat records (chapters 4 and 5) -/

/-- R62, R72, R85, R89, R93: the ranges of one seat record; R97: the latched-while-empty flag stands only with EMPTY
confirmed and the buckle LATCHED. -/
abbrev RecordLaw (r : SeatRec) : Prop :=
  (r.candidate = none ↔ r.candidateCount = 0) ∧ r.candidateCount ≤ 255 ∧ r.candidate ≠ some .unknown ∧
  r.history.length ≤ 8 ∧ Verdict.unknown ∉ r.history ∧ r.evicted ≠ some .unknown ∧
  r.buckleStreak ≤ 3 ∧ r.tensionStreak ≤ 2 ∧ r.matStreak ≤ 3 ∧ r.cleanStreak ≤ 5 ∧
  (r.latchedEmpty = true → r.confirmed = .empty ∧ r.buckle = .latched)

/-- Every seat record lies in its ranges. -/
abbrev RecordsLaw (s : State) : Prop := ∀ i : Seat, RecordLaw (s.verd.seats.get i)

/-! ## REM (chapter 6) -/

/-- The reminder states in which a seat of a reminder case may stand (R110 to R114). -/
def fitsCase : ReminderCase → ReminderState → Bool
  | .notReminded, st => st = .none
  | .belted, st => st = .latched
  | .unbelted, st => st = .armed || st = .visual || st = .audible || st = .capped
  | .buckleUnknown, st => st = .armed
  | .childUnsecured, st => st = .childUnsecured

/-- R107, R110 to R115: with ignition OFF every reminder is NONE; with ignition ON every reminder is in a state of its
seat's case. -/
abbrev ReminderLaw (s : State) : Prop :=
  (s.ret.ignition = .off → ∀ i : Seat, (s.rem.table.get i).state = .none) ∧
  (s.ret.ignition = .on → ∀ i : Seat,
    fitsCase (caseOf (s.cmap.seats.get i) (s.verd.seats.get i)) (s.rem.table.get i).state = true)

/-- R104, R105, R108, R109: the visual timer is 0 outside VISUAL and at most t_visual, and the budget is at most t_chime; a
seat in VISUAL has some of its timer left, and a seat in AUDIBLE some of its budget. -/
abbrev TimerLaw (s : State) : Prop :=
  ∀ i : Seat,
    ((s.rem.table.get i).state ≠ .visual → (s.rem.table.get i).visual = 0) ∧
    ((s.rem.table.get i).state = .visual → 0 < (s.rem.table.get i).visual) ∧
    ((s.rem.table.get i).state = .audible → 0 < (s.rem.table.get i).budget) ∧
    (s.rem.table.get i).visual ≤ 10 * s.rem.settings.tVisual ∧
    (s.rem.table.get i).budget ≤ 10 * s.rem.settings.tChime

/-- R102, R105: with ignition OFF the start interval is stopped and the flag clear; with ignition ON either the timer runs
or the flag is set; a running timer has not reached 0. -/
abbrev StartLaw (s : State) : Prop :=
  s.rem.startTimer ≠ some 0 ∧
  (s.ret.ignition = .off → s.rem.startTimer = none ∧ s.rem.startElapsed = false) ∧
  (s.ret.ignition = .on → (s.rem.startTimer.isSome = true ↔ s.rem.startElapsed = false))

/-- R119: what the cabin summary holds, from the reminder table and the Seat Table. -/
abbrev SummaryLaw (s : State) : Prop :=
  (s.rem.summary.chime = true ↔ ∃ i : Seat, (s.rem.table.get i).state = .audible) ∧
  (∀ i : Seat, s.rem.summary.visual.get i = true ↔
    (s.rem.table.get i).state = .visual ∨ (s.rem.table.get i).state = .audible ∨
      (s.rem.table.get i).state = .capped) ∧
  (∀ i : Seat, s.rem.summary.child.get i = true ↔ (s.rem.table.get i).state = .childUnsecured) ∧
  s.rem.summary.occupied =
    ((List.finRange 16).filter fun i => personOccupied (s.cmap.seats.get i) (s.verd.seats.get i)).length ∧
  s.rem.summary.latched =
    ((List.finRange 16).filter fun i => decide ((s.rem.table.get i).state = .latched)).length

/-! ## ADV (chapter 7) -/

/-- R122: the mapped seat of each position is the fitted seat of the working map that names it, none while the map is
invalid. -/
abbrev MappedLaw (s : State) : Prop := ∀ p : Pos, (s.adv.positions.get p).seat = s.cmap.advisorySeat p

/-- R123, R125: a position's value follows from its mapped seat's record, and its pair shows the value. -/
abbrev AdvisoryLaw (s : State) : Prop :=
  ∀ p : Pos,
    (s.adv.positions.get p).value =
      (match (s.adv.positions.get p).seat with
        | none => .fault
        | some i =>
            if (s.verd.seats.get i).lifecycle = .active then
              if (s.verd.seats.get i).confirmed = .adult then .enable else .suppress
            else .fault) ∧
    s.pins.sup.get p =
      (match (s.adv.positions.get p).value with
        | .enable => (true, false)
        | .suppress => (false, true)
        | .fault => (false, false))

/-- R128: the superseded flag stands only with a full mailbox. -/
abbrev MailboxLaw (s : State) : Prop := s.adv.superseded = true → s.adv.mailbox.isSome = true

/-! ## RET (chapter 8) -/

/-- R138, R140, R145: no snapshot is held and the retention timer is stopped while ignition is ON; the timer runs exactly
while a snapshot is held, and has not reached 0; no snapshot holds UNKNOWN; a seat that holds one is ACTIVE or FAULTED. -/
abbrev RetentionLaw (s : State) : Prop :=
  s.ret.timer ≠ some 0 ∧
  (s.ret.ignition = .on → ∀ i : Seat, s.ret.snapshots.get i = none) ∧
  (s.ret.timer.isSome = true ↔ ∃ i : Seat, (s.ret.snapshots.get i).isSome = true) ∧
  ∀ i : Seat, (s.ret.snapshots.get i).isSome = true →
    (s.ret.snapshots.get i).map Snapshot.confirmed ≠ some .unknown ∧
    ((s.verd.seats.get i).lifecycle = .active ∨ (s.verd.seats.get i).lifecycle = .faulted)

/-! ## LNK and STORE (chapters 9 and 10) -/

/-- R159, R161: at most 32 notices, a level of 1..32, and ATTN high exactly when the count reaches the level or the
mailbox is full. -/
abbrev NoticeLaw (s : State) : Prop :=
  s.lnk.notices.length ≤ 32 ∧ 1 ≤ s.lnk.level ∧ s.lnk.level ≤ 32 ∧
  (s.pins.attn = true ↔ s.lnk.level ≤ s.lnk.notices.length ∨ s.adv.mailbox.isSome = true)

/-- R150, R152, R165: what holds in each state of the receiver. -/
abbrev ReceiverLaw (s : State) : Prop :=
  (s.lnk.interByte = true ↔ s.lnk.rxState ≠ .hunt) ∧
  (s.store.loading = true → s.lnk.rxState = .hunt) ∧
  (s.lnk.rxState = .length → s.lnk.rxBuf = []) ∧
  (s.lnk.rxState = .body → s.lnk.rxBuf.length < s.lnk.rxLen.toNat ∧ s.lnk.rxLen.toNat ≤ 57) ∧
  (s.lnk.rxState = .check ∨ s.lnk.rxState = .end_ →
    s.lnk.rxBuf.length = s.lnk.rxLen.toNat ∧ 1 ≤ s.lnk.rxLen.toNat ∧ s.lnk.rxLen.toNat ≤ 57)

/-- R155, R156: an open transfer expects 1, 2 or 3, and exactly the parts below the expected index are staged, each of
its part's length. -/
abbrev TransferLaw (s : State) : Prop :=
  ∀ t : Transfer, s.lnk.transfer = some t →
    1 ≤ t.expected ∧ t.expected ≤ 3 ∧
    t.part0.map List.length = some 15 ∧
    t.part1.map List.length = (if 2 ≤ t.expected then some 48 else none) ∧
    t.part2.map List.length = (if 3 ≤ t.expected then some 48 else none)

/-- R149: a reply's body has at most 55 bytes; R32: a filled probe buffer lists at most 16 cells. -/
abbrev ReplyLaw (s : State) : Prop :=
  (∀ r b, s.lnk.dispatch = .handling r b → r.body.length ≤ 55) ∧
  (∀ b, s.scan.probe = .filled b → b.cells.length ≤ 16)

/-- R59 to R61, R166, R167: an open capture that is COLLECTING or WAITING_STORE has its seat ACTIVE and ignition ON;
COLLECTING has counted at most 3 frames; WAITING_STORE holds offsets in 64..1023 while the store commits; a COMMITTING one
has the calibration commit in flight. -/
abbrev CaptureLaw (s : State) : Prop :=
  ∀ c : Capture, s.feat.capture = some c →
    (c.state ≠ .committing → (s.verd.seats.get c.seat).lifecycle = .active ∧ s.ret.ignition = .on) ∧
    (c.state = .collecting → c.count ≤ 3) ∧
    (c.offsets.isSome = true ↔ c.state = .waitingStore) ∧
    (∀ offsets, c.offsets = some offsets → ∀ n : Cell, (s.cmap.seats.get c.seat).cellFitted n = true →
      64 ≤ offsets.get n ∧ offsets.get n ≤ 1023) ∧
    (c.state = .waitingStore → s.store.committing = true) ∧
    (c.state = .committing → ∃ cal, s.store.commit = .one (.calibration cal))

/-- R3, R19, R98, R147: the working settings lie in their ranges, and every working profile is in range and ordered. -/
abbrev SettingsLaw (s : State) : Prop :=
  2 ≤ s.scan.timing.p ∧ s.scan.timing.p ≤ 1000 ∧ 2 ≤ s.scan.timing.d ∧ s.scan.timing.d ≤ 65535 ∧
  20 ≤ s.scan.timing.settle ∧ s.scan.timing.settle ≤ 500 ∧
  5 ≤ s.rem.settings.vRemind ∧ s.rem.settings.vRemind ≤ 60 ∧ 3 ≤ s.rem.settings.vHold ∧ s.rem.settings.vHold ≤ 60 ∧
  10 ≤ s.rem.settings.tStart ∧ s.rem.settings.tStart ≤ 300 ∧ s.rem.settings.tVisual ≤ 60 ∧
  10 ≤ s.rem.settings.tChime ∧ s.rem.settings.tChime ≤ 240 ∧ s.ret.tRetain ≤ 3600 ∧
  ∀ i : ProfileIx, (s.cmap.profiles.get i).ok = true

/-- R165: while the full-reset load is in flight the part stands as the full reset left it: the map invalid, ignition OFF,
no debounce of RET running, dispatch idle and TXD high (R149), the store idle. -/
abbrev LoadingLaw (s : State) : Prop :=
  s.store.loading = true →
    s.cmap.valid = false ∧ s.ret.ignition = .off ∧ s.ret.ignDebounce = false ∧
    (∀ d : Door, s.ret.doorDebounce.get d = false) ∧ s.lnk.dispatch = .idle ∧ s.txd = .high ∧ s.store.commit = .idle

/-- Every law at once. -/
structure Laws (s : State) : Prop where
  map : MapLaw s
  lifecycle : LifecycleLaw s
  verdict : VerdictLaw s
  scan : ScanLaw s
  queue : QueueLaw s
  calibration : CalibrationLaw s
  records : RecordsLaw s
  reminder : ReminderLaw s
  timer : TimerLaw s
  start : StartLaw s
  summary : SummaryLaw s
  mapped : MappedLaw s
  advisory : AdvisoryLaw s
  mailbox : MailboxLaw s
  retention : RetentionLaw s
  notices : NoticeLaw s
  receiver : ReceiverLaw s
  transfer : TransferLaw s
  reply : ReplyLaw s
  capture : CaptureLaw s
  settings : SettingsLaw s
  loading : LoadingLaw s

/-! ## Words of the statements -/

/-- A request can be taken: the receiver is enabled and dispatch is idle (R150, R153). -/
abbrev Ready (s : State) : Prop := s.store.loading = false ∧ s.lnk.dispatch = .idle

/-- `s` with its map transfer closed (R158). -/
def closed (s : State) : State := { s with lnk := { s.lnk with transfer := none } }

/-- `s` with a reply under way on TXD, no RESTART following it (R153); `nChild`: the N_child of the profile records in its
body (assumption log 22). -/
def answering (code : Byte) (st : Status) (body : List Byte) (s : State) (nChild : List Byte := []) : State :=
  { s with lnk := { s.lnk with
      dispatch := .handling { code := code, status := st, body := body, nChild := nChild } false } }

/-- A request other than MAP WRITE refused: its transfer closed, a status and an empty body, nothing else (R153, R154). -/
def refusing (code : Byte) (st : Status) (s : State) : State := answering code st [] (closed s)

/-- The body of the reply under way. -/
def bodyOf (t : State) : List Byte :=
  match t.lnk.dispatch with
  | .idle => []
  | .handling r _ => r.body

/-- Byte `k` of the reply under way. -/
def byteAt (t : State) (k : Nat) : Nat := ((bodyOf t).getD k 0).toNat

/-- The two-byte field at `k`, low byte first (R171). -/
def halfAt (t : State) (k : Nat) : Nat := byteAt t k + 256 * byteAt t (k + 1)

/-- The packed group at `k`, low byte first (R171). -/
def groupAt (t : State) (k : Nat) : Nat := byteAt t k + 256 * byteAt t (k + 1) + 65536 * byteAt t (k + 2)

/-- The number of a set of seats: bit n for seat n (R171). -/
def setNumber (x : SeatSet) : Nat := ((List.finRange 16).map fun i : Seat => if x.get i then 2 ^ i.val else 0).sum

/-- A flag as 0 or 1. -/
def bit (b : Bool) : Nat := if b then 1 else 0

/-- LNK with notices posted in order: those that find 32 held are dropped and set the overflow flag (R159). -/
def enqueue (ns : List Notice) (l : Lnk) : Lnk :=
  { l with
    notices := l.notices ++ ns.take (32 - l.notices.length)
    overflow := l.overflow || (decide (ns ≠ []) && decide (32 < l.notices.length + ns.length)) }

/-- The values of R12 in a record of the seat with map record `m`. -/
abbrev IsFresh (m : SeatMap) (r : SeatRec) : Prop :=
  r.confirmed = .unknown ∧ r.candidate = none ∧ r.candidateCount = 0 ∧ r.history = [] ∧ r.evicted = none ∧
  r.unstable = false ∧ r.motionHold = false ∧ r.features = none ∧
  r.buckle = (if m.fitted = true ∧ m.buckle = true then .unknown else .unfitted) ∧
  r.agree = .zero ∧ r.buckleStreak = 0 ∧
  r.anchor = (if m.fitted = true ∧ m.anchor.toNat < 8 then .free else .unfitted) ∧
  r.tensionFault = false ∧ r.tensionStreak = 0 ∧ r.matStreak = 0 ∧ r.cleanStreak = 0 ∧ r.latchedEmpty = false

/-- What R7 and R8 leave right after a map apply, from the working map, the lines and the ignition state of the state
itself: row states, fresh records, SCAN, FEAT, REM, RET and ADV. -/
abbrev JustApplied (t : State) : Prop :=
  (∀ r : Row,
    t.cmap.rowState.get r =
      (if t.cmap.valid = true ∧ (t.cmap.rows.get r).removable = true then .removed else .fixed) ∧
    (t.cmap.rowDebounce.get r = true ↔
      t.cmap.valid = true ∧ (t.cmap.rows.get r).removable = true ∧
        ∃ l : Line, (t.cmap.rows.get r).presence.toNat = l.val ∧ t.pins.rowp.get l = true)) ∧
  (∀ i : Seat,
    (t.verd.seats.get i).lifecycle =
      (if t.cmap.valid = true ∧ (t.cmap.seats.get i).fitted = true then
        if (t.cmap.rows.get (t.cmap.seats.get i).rowIx).removable = true then .absent else .active
      else .unmapped) ∧
    IsFresh (t.cmap.seats.get i) (t.verd.seats.get i) ∧
    (t.rem.table.get i).visual = 0 ∧ (t.rem.table.get i).budget = 10 * t.rem.settings.tChime ∧
    (t.rem.table.get i).state =
      (if t.ret.ignition = .on ∧ (t.verd.seats.get i).lifecycle = .active ∧
          (t.cmap.seats.get i).presume = true ∧ (t.cmap.seats.get i).buckle = true then .armed
      else .none) ∧
    t.ret.snapshots.get i = none) ∧
  t.verd.slot = none ∧ t.scan.queue = [] ∧ t.scan.step = none ∧ t.scan.probe.seat = none ∧
  t.scan.state =
    (if t.cmap.valid = false then .halted else if t.ret.ignition = .on then .waiting else .stopped) ∧
  t.scan.interval =
    (if t.cmap.valid = true ∧ t.ret.ignition = .on then
      some (max 10000 (min 1000000 (t.scan.timing.p * t.scan.timing.d))) else none) ∧
  t.scan.closing = false ∧ t.scan.visited = [] ∧ t.scan.rest = [] ∧
  t.feat.intake = .idle ∧ t.feat.acc = none ∧ t.feat.capture = none ∧ t.ret.timer = none ∧ SummaryLaw t ∧
  ∀ p : Pos,
    (t.adv.positions.get p).seat = t.cmap.advisorySeat p ∧
    ((t.adv.positions.get p).seat = none → (t.adv.positions.get p).value = .fault) ∧
    ∀ i : Seat, (t.adv.positions.get p).seat = some i →
      (t.adv.positions.get p).value =
        (if (t.verd.seats.get i).lifecycle = .active then .suppress else .fault)

/-- The levels of SUPAn and SUPBn that show a value (R125). -/
def pairOf : AdvisoryValue → Bool × Bool
  | .enable => (true, false)
  | .suppress => (false, true)
  | .fault => (false, false)

/-- The advisory record of position `p` as `t` shows it (R127). -/
def recordAtPosition (t : State) (p : Pos) : AdvisoryRec :=
  { position := p, value := (t.adv.positions.get p).value, seat := (t.adv.positions.get p).seat
    confirmed := (t.adv.positions.get p).seat.map fun i => (t.verd.seats.get i).confirmed
    lifecycle := (t.adv.positions.get p).seat.map fun i => (t.verd.seats.get i).lifecycle }

/-- ADV has evaluated its positions between `s` and `t`, position 0 first: a changed value has driven its pair and filled the
mailbox or superseded the record held, and an unchanged one has kept its pair (R124, R125, R128). -/
abbrev PositionsReported (s t : State) : Prop :=
  (∀ p : Pos, t.pins.sup.get p =
    (if (t.adv.positions.get p).value = (s.adv.positions.get p).value then s.pins.sup.get p
    else pairOf (t.adv.positions.get p).value)) ∧
  t.adv.mailbox =
    (if (t.adv.positions.get 1).value ≠ (s.adv.positions.get 1).value then some (recordAtPosition t 1)
    else if (t.adv.positions.get 0).value ≠ (s.adv.positions.get 0).value then some (recordAtPosition t 0)
    else s.adv.mailbox) ∧
  t.adv.superseded = (s.adv.superseded ||
    (decide ((t.adv.positions.get 0).value ≠ (s.adv.positions.get 0).value) && s.adv.mailbox.isSome) ||
    (decide ((t.adv.positions.get 1).value ≠ (s.adv.positions.get 1).value) &&
      (s.adv.mailbox.isSome || decide ((t.adv.positions.get 0).value ≠ (s.adv.positions.get 0).value))))

/-- What a map apply between `s` and `t` leaves that depends on `s`: the probe's cancel report (R36), the flags of SCAN, and
the pairs and mailbox. -/
abbrev ApplyReached (s t : State) : Prop :=
  t.scan.probe =
    (match s.scan.probe with
      | .free report => .free report
      | .armed _ _ => .free (some .map)
      | .filled _ => .free (some .map)) ∧
  t.scan.overrun = s.scan.overrun ∧ t.scan.tornFlag = s.scan.tornFlag ∧ PositionsReported s t

/-- VERD has evaluated motion hold for every seat from the doors and the speed record of `t` (R76), and the Seat Table of
`t` is otherwise that of `s`. -/
abbrev HoldEvaluated (s t : State) : Prop :=
  ∀ i : Seat, t.verd.seats.get i =
    { s.verd.seats.get i with
      motionHold :=
        if (s.verd.seats.get i).lifecycle ≠ .active then false
        else if ∃ d : Door, (t.cmap.rows.get (t.cmap.seats.get i).rowIx).doors.getLsbD d.val = true ∧
            t.ret.doorOpen.get d = true then false
        else if t.rem.speed = none then (s.verd.seats.get i).motionHold
        else decide (t.rem.settings.vHold ≤ t.rem.speed.getD 0) }

/-! ## Words of the statements: sections and presets -/

/-- The six sections in the order of R164. -/
def allSections : List Section := [.map, .profiles, .reminder, .timing, .calibration, .protection]

/-- The section passes its integrity test. -/
def holds (d : Stored) : Section → Bool
  | .map => d.map.isSome
  | .profiles => d.profiles.isSome
  | .reminder => d.reminder.isSome
  | .timing => d.timing.isSome
  | .calibration => d.calibration.isSome
  | .protection => d.protection.isSome

/-- A section as it stands in the store: its contents and its integrity byte (R164). -/
def sectOf (d : Stored) : Section → SectionImage × Byte
  | .map => (.map d.mapSect.content, d.mapSect.integrity)
  | .profiles => (.profiles d.profilesSect.content, d.profilesSect.integrity)
  | .reminder => (.reminder d.reminderSect.content.1 d.reminderSect.content.2, d.reminderSect.integrity)
  | .timing => (.timing d.timingSect.content, d.timingSect.integrity)
  | .calibration => (.calibration d.calibrationSect.content, d.calibrationSect.integrity)
  | .protection => (.protection d.protectionSect.content, d.protectionSect.integrity)

/-- The byte sum of a section, its integrity byte included (R164); the sum of the contents is free (assumption log 14). -/
def sumAt (d : Stored) (x : Section) : Nat :=
  ((Config.contentSum (sectOf d x).1).toNat + (sectOf d x).2.toNat) % 256

/-- What a section gives when it is read: its contents when its byte sum is 0, nothing otherwise (R164). -/
def contentOf (d : Stored) (x : Section) : Option SectionImage := if sumAt d x = 0 then some (sectOf d x).1 else none

/-- The commit in flight writes the section. -/
def writes : Commit → Section → Bool
  | .idle, _ => false
  | .one image, x => decide (image.sec = x)
  | .clear _, _ => true

/-- The commit in flight is of one section. -/
def isOne : Commit → Bool
  | .one _ => true
  | .idle => false
  | .clear _ => false

/-- The commit in flight is PROTECTION CLEAR's, of six sections. -/
def isClear : Commit → Bool
  | .clear _ => true
  | .idle => false
  | .one _ => false

/-- The section that a one-section commit writes. -/
def target : Commit → Section
  | .one image => image.sec
  | .idle => .map
  | .clear _ => .map

/-- The validity flag of a section. -/
def flagOf (v : SectionFlags) : Section → Bool
  | .map => v.map
  | .profiles => v.profiles
  | .reminder => v.reminder
  | .timing => v.timing
  | .calibration => v.calibration
  | .protection => v.protection

/-- The image that a one-section commit writes. -/
def imageOf : Commit → Option SectionImage
  | .one image => some image
  | .idle => none
  | .clear _ => none

/-- The sections after a one-section commit that reads back as `passes` says: the section written holds the image with a
byte sum of 0, or fails, and every other is as before, integrity byte included (R164, R166). -/
abbrev StoredAfter (d : Stored) (c : Commit) (passes : Bool) (e : Stored) : Prop :=
  ∀ x ∈ allSections,
    (writes c x = false → sectOf e x = sectOf d x) ∧
    (writes c x = true → contentOf e x = if passes = true then imageOf c else none)

/-- The row records of R6 for rows that hold seats: removable, presence line, door set. -/
def presetRowTable (straps : BitVec 2) : List RowRec :=
  if straps = 1 then
    [⟨false, 0xFF, 0b0011⟩, ⟨true, 0, 0b0100⟩, ⟨true, 1, 0b0100⟩, ⟨true, 2, 0b1100⟩]
  else if straps = 2 then
    [⟨false, 0xFF, 0b0011⟩, ⟨true, 0, 0b0100⟩, ⟨true, 1, 0b0100⟩, ⟨true, 2, 0b0100⟩, ⟨true, 3, 0b1100⟩]
  else [⟨false, 0xFF, 0b1011⟩]

/-- The seat table of R6: row, anchor line (0xFF none), advisory position (0xF none), tension fitted. -/
def presetSeatTable (straps : BitVec 2) : List (BitVec 4 × Byte × BitVec 4 × Bool) :=
  if straps = 3 then [(0, 0xFF, 0xF, false), (0, 0xFF, 1, false), (0, 0xFF, 0, true)]
  else
    [(0, 0xFF, 0xF, false), (0, 0xFF, 0, true), (1, 0, 0xF, false), (1, 0xFF, 0xF, false), (1, 1, 0xF, false),
     (2, 2, 0xF, false), (2, 0xFF, 0xF, false), (2, 3, 0xF, false), (3, 0xFF, 0xF, false), (3, 0xFF, 0xF, false),
     (3, 0xFF, 0xF, false)] ++
    (if straps = 1 then [(3, 0xFF, 0xF, false)]
     else [(4, 0xFF, 0xF, false), (4, 0xFF, 0xF, false), (4, 0xFF, 0xF, false), (4, 0xFF, 0xF, false)])

/-- The whole record of fitted preset seat `i` with a line of the seat table: the shared properties of R6. -/
def presetRecord (i : Seat) (x : BitVec 4 × Byte × BitVec 4 × Bool) : SeatMap :=
  { cells := 0xFFFF, fitted := true, tension := x.2.2.2, buckle := true, presume := decide (i = 0), row := x.1,
    gain := 0, profile := if x.1 = 0 then 0 else 1, advisory := x.2.2.1, anchor := x.2.1 }

/-! ## Words of the statements: retention -/

/-- A RETENTION notice of the seats for which `p` holds, or none when there is no such seat (R144). -/
def retentionOf (cause : Option DiscardCause) (p : Seat → Bool) : List Notice :=
  if ∃ i : Seat, p i = true then [.retention cause (Tab.ofFn p)] else []

/-- The RETENTION notices of an ON event at `s` (R145): RESUMED, then DISCARDED with cause IGNITION. -/
def retainedNotices (s : State) : List Notice :=
  retentionOf none (fun i => (s.ret.snapshots.get i).isSome && decide ((s.verd.seats.get i).lifecycle = .active)) ++
  retentionOf (some .ignition)
    (fun i => (s.ret.snapshots.get i).isSome && !decide ((s.verd.seats.get i).lifecycle = .active))

/-- The RETENTION DISCARDED notice of the snapshots held in `s` and no longer in `t`. -/
def discardNotice (cause : DiscardCause) (s t : State) : List Notice :=
  retentionOf (some cause) fun i => (s.ret.snapshots.get i).isSome && (t.ret.snapshots.get i).isNone

/-! ## Words of the statements: scanning and frames -/

/-- The channels of a seat's step: its cells in ascending index, then tension, then buckle (R23, R24). -/
def channelsOf (m : SeatMap) : List Channel :=
  ((List.finRange 16).filter fun n : Cell => m.fitted && m.cells.getLsbD n.val).map .cell ++
  (if m.tension then [.tension] else []) ++ (if m.buckle then [.buckle] else [])

/-- The calibration read when an entry is taken (R48); a tension or buckle entry has none to read. -/
def calibrationAt (s : State) (e : Sample) : CellCal :=
  match e.channel with
  | .cell n => (s.feat.cal.get e.seat).get n
  | .tension => uncalibratedCell
  | .buckle => uncalibratedCell

/-- What an IDLE FEAT does with the queue `q`: its intake, and the queue it leaves (R40, R43). -/
def looked (s : State) (q : List Entry) : Intake × List Entry :=
  match q with
  | [] => (.idle, [])
  | .sample e :: rest => (.entry e (calibrationAt s e), rest)
  | .marker m :: rest => if s.verd.slot = none then (.finishing m false false, rest) else (.blocked, .marker m :: rest)

/-- The intake and the queue after an entry is pushed (R26, R40). -/
def pushed (e : Entry) (s : State) : Intake × List Entry :=
  if s.feat.intake = .idle then looked s (s.scan.queue ++ [e]) else (s.feat.intake, s.scan.queue ++ [e])

/-- A seat step at its settle wait (R22). -/
def stepAt (s : State) (i : Seat) : SeatStep :=
  { seat := i, todo := channelsOf (s.cmap.seats.get i), phase := .settle s.scan.timing.settle, lost := false, cut := false }

/-- SCAN in STOPPED with ignition OFF, or in WAITING with the timer loaded, no pass in flight (R20, R28, R35). -/
def settledScan (s : State) : Scan :=
  { s.scan with
    state := if s.ret.ignition = .on then .waiting else .stopped
    interval := if s.ret.ignition = .on then some (max 10000 (min 1000000 (s.scan.timing.p * s.scan.timing.d))) else none
    closing := false, visited := [], step := none, rest := [] }

/-- SCAN at the start of a probe pass (R35). -/
def probePassOf (s : State) (i : Seat) : Scan :=
  { s.scan with
    state := .probing, interval := none, closing := false, visited := [], rest := []
    gain := (s.cmap.seats.get i).gainOf, step := some (stepAt s i) }

/-- SCAN once the marker of the seat step is in the queue: the next seat of the list, the end of the pass, the end of a
closing pass, or what follows a probe pass (R25, R28, R29, R34, R35). -/
def proceeds (st : SeatStep) (s : State) : Scan :=
  if s.scan.state = .probing then
    match s.scan.probe with
    | .armed i _ => if i ≠ st.seat ∨ st.lost = true then probePassOf s i else settledScan s
    | .free _ => settledScan s
    | .filled _ => settledScan s
  else if s.scan.closing then
    match s.scan.probe with
    | .armed i .closing => { probePassOf s i with probe := .armed i .probePass }
    | .armed _ .timed => settledScan s
    | .armed _ .probePass => settledScan s
    | .free _ => settledScan s
    | .filled _ => settledScan s
  else match s.scan.rest with
    | [] => { s.scan with state := .waiting, closing := false, visited := [], step := none, rest := [] }
    | i :: more =>
        { s.scan with visited := s.scan.visited ++ [st.seat], rest := more,
                      gain := (s.cmap.seats.get i).gainOf, step := some (stepAt s i) }

/-- The marker pushed into a queue with room, and SCAN going on (R25, R27). -/
def markerIn (st : SeatStep) (m : Marker) (s : State) : State :=
  { s with
    feat := { s.feat with intake := (pushed (.marker m) s).1 }
    scan := { proceeds st s with queue := (pushed (.marker m) s).2 } }

/-- The marker of a seat step formed now: pushed when the queue has room, else waiting in MARK (R25, R27). -/
def marked (st : SeatStep) (s : State) : State :=
  let m : Marker :=
    { seat := st.seat
      anchor := if (s.cmap.seats.get st.seat).anchor.toNat < 8 then
          some (s.pins.anch.getLsbD (s.cmap.seats.get st.seat).anchor.toNat) else none
      torn := st.lost || st.cut
      probeOnly := decide (s.scan.state = .probing) }
  if s.scan.queue.length < 64 then markerIn st m s
  else { s with scan := { s.scan with step := some { st with phase := .mark m } } }

/-- The completed conversion's sample pushed when the queue has room, else lost (R23, R26). -/
def sampled (st : SeatStep) (ch : Channel) (raw : BitVec 12) (s : State) : State :=
  if s.scan.queue.length < 64 then
    let p := pushed (.sample { seat := st.seat, channel := ch, raw := raw }) s
    { s with feat := { s.feat with intake := p.1 }, scan := { s.scan with queue := p.2 } }
  else s

/-- SCAN with the current frame cut short: a settle wait is abandoned and the torn marker formed, a conversion in flight
runs to its end, a waiting marker takes the torn indicator (R28, R31). -/
def cutNow (s : State) : State :=
  match s.scan.step with
  | none => s
  | some st =>
      match st.phase with
      | .settle _ => marked { st with cut := true } s
      | .convert => { s with scan := { s.scan with step := some { st with cut := true } } }
      | .mark m => { s with scan := { s.scan with step := some { st with cut := true, phase := .mark { m with torn := true } } } }

/-- The frame that an entry of seat `i` meets: the one in the accumulator, or one just opened (R41, R42). -/
def frameFor (acc : Option Accumulator) (i : Seat) : Accumulator :=
  let fresh : Accumulator :=
    { seat := i, torn := false, cells := Tab.const 16 none, tension := none, buckle := none, saturated := false,
      uncalibrated := false }
  match acc with
  | none => fresh
  | some a => if a.seat = i then a else fresh

/-- The accumulator holds a frame of a seat other than `i`. -/
def holdsOther (acc : Option Accumulator) (i : Seat) : Bool :=
  match acc with
  | none => false
  | some a => decide (a.seat ≠ i)

/-- The frame has a reading of the channel. -/
def readingOf (a : Accumulator) : Channel → Bool
  | .cell n => (a.cells.get n).isSome
  | .tension => a.tension.isSome
  | .buckle => a.buckle.isSome

/-- The channel is fitted on the seat. -/
def fits (m : SeatMap) : Channel → Bool
  | .cell n => m.fitted && m.cells.getLsbD n.val
  | .tension => m.fitted && m.tension
  | .buckle => m.fitted && m.buckle

/-- The frame closed by a marker is torn (R44). -/
def tornAt (s : State) (mk : Marker) : Bool :=
  match s.feat.acc with
  | none => true
  | some a =>
      mk.torn || a.torn || decide (a.seat ≠ mk.seat) ||
        (channelsOf (s.cmap.seats.get mk.seat)).any fun ch => !readingOf a ch

/-- The fitted cells of a seat. -/
def cellsOf (m : SeatMap) : List Cell := (List.finRange 16).filter fun n : Cell => m.fitted && m.cells.getLsbD n.val

/-- The corrected value of a cell in a frame. -/
def valueOf (a : Accumulator) (n : Cell) : Nat := ((a.cells.get n).map CellReading.p).getD 0

/-- The cell is marked open. -/
def openAt (a : Accumulator) (n : Cell) : Bool := (a.cells.get n).any CellReading.isOpen

/-- L of R51. -/
def loadAt (m : SeatMap) (a : Accumulator) : Nat := ((cellsOf m).map (valueOf a)).sum

/-- C of R51. -/
def contactsAt (m : SeatMap) (p : Profile) (a : Accumulator) : Nat :=
  ((cellsOf m).filter fun n => decide (p.tc.toNat ≤ valueOf a n)).length

/-- S of R52. -/
def railAt (m : SeatMap) (a : Accumulator) : Nat :=
  if loadAt m a = 0 then 0
  else (((cellsOf m).filter fun n => decide (n ∈ ([0, 3, 4, 7, 8, 11, 12, 15] : List Cell))).map (valueOf a)).sum * 64 /
    loadAt m a

/-- The condition set of R55. -/
def conditionsAt (m : SeatMap) (p : Profile) (a : Accumulator) : Conditions :=
  { zero := decide (loadAt m a = 0)
    saturated := a.saturated || decide (255 < loadAt m a * p.k.toNat / 4096)
    open_ := (cellsOf m).any (openAt a) && !(cellsOf m).all (openAt a)
    allOpen := (cellsOf m).all (openAt a)
    uncalibrated := a.uncalibrated
    rail := decide (p.sRail.toNat ≤ railAt m a)
    cinched := m.tension && a.tension.any fun t => t.valid && decide (p.tCinch.toNat ≤ t.t) }

/-- The profile that a seat's record names. -/
def profileAt (s : State) (i : Seat) : Profile := s.cmap.profiles.get (s.cmap.seats.get i).profileIx

/-- The capture counts a complete frame closed by this marker, taken before or after the capture opened (R60). -/
def counts (s : State) (mk : Marker) (before : Bool) : Bool :=
  !mk.probeOnly && !before && s.feat.capture.any fun c => decide (c.state = .collecting) && decide (c.seat = mk.seat)

/-! ## Words of the statements: verdicts -/

/-- E of R67. -/
def evidenceAt (p : Profile) (f : MatFrame) (tensionFault : Bool) (anchor : AnchorState) : Nat :=
  (if f.conditions.rail then 2 else 0) + (if f.conditions.cinched = true ∧ tensionFault = false then 2 else 0) +
  (if anchor = .engaged then 3 else 0) + (if f.contacts ≤ p.cSmall.toNat then 1 else 0)

/-- thr of R68, for a threshold whose boundary has the verdicts of `above` at or above it and those of `below` below. -/
def thrAt (confirmed : Verdict) (below above : List Verdict) (h t : Nat) : Nat :=
  if confirmed ∈ below then min 255 (t + h) else if confirmed ∈ above then t - h else t

/-- The instantaneous verdict of R69. -/
def verdictAt (p : Profile) (f : MatFrame) (confirmed : Verdict) (e : Nat) : Verdict :=
  if f.mass < thrAt confirmed [.empty] [.object, .small, .adult] p.h.toNat p.mEmpty.toNat ∨ f.contacts = 0 then .empty
  else if 3 ≤ e ∨ (2 ≤ e ∧ confirmed = .childSeat) then .childSeat
  else if f.mass < thrAt confirmed [.empty, .object] [.small, .adult] p.h.toNat p.mPerson.toNat then .object
  else if f.mass < thrAt confirmed [.empty, .object, .small] [.adult] p.h.toNat p.mAdult.toNat then .small
  else .adult

/-- The adjacent pairs of a history that differ (R71). -/
def pairsOf (h : List Verdict) : Nat := ((h.zip h.tail).filter fun x => decide (x.1 ≠ x.2)).length

/-- The unstable flag after a push that leaves the history `h` (R71). -/
def unstableAfter (h : List Verdict) (u : Bool) : Bool :=
  if h.length = 8 ∧ 4 ≤ pairsOf h then true else if pairsOf h ≤ 2 then false else u

/-- The required count of R73. -/
def requiredAt (p : Profile) (confirmed candidate : Verdict) (hold : Bool) : Nat :=
  if confirmed = .unknown then p.nUp.toNat
  else if confirmed = .childSeat ∨ candidate = .childSeat then p.nChild.toNat
  else if candidate = .empty then (if hold then min 255 (4 * p.nDown.toNat) else p.nDown.toNat)
  else p.nUp.toNat

/-! ## Words of the statements: notices -/

/-- The notices that an event between `s` and `t` has added. -/
def addedNotices (s t : State) : List Notice := t.lnk.notices.drop s.lnk.notices.length

/-- A FAULT notice. -/
def isFault : Notice → Bool
  | .fault _ _ _ => true
  | _ => false

/-- A FAULT notice whose tension bit differs from `flag`. -/
def turnsTension (flag : Bool) : Notice → Bool
  | .fault _ x _ => decide (x.tension ≠ flag)
  | _ => false

/-- A STABILITY notice. -/
def isStability : Notice → Bool
  | .stability _ _ => true
  | _ => false

/-- A REMINDER notice. -/
def isReminder : Notice → Bool
  | .reminder _ _ => true
  | _ => false

/-! ## Words of the statements: reminders -/

/-- The trigger of R103. -/
def triggerHolds (s : State) : Bool :=
  decide (s.ret.ignition = .on) && (s.rem.startElapsed || s.rem.speed.any fun v => decide (s.rem.settings.vRemind ≤ v))

/-- The REMINDER notices of an event: a state that differs, in seat order (R107). -/
def remindersOf (s t : State) : List Notice :=
  ((List.finRange 16).filter fun i : Seat => decide ((s.rem.table.get i).state ≠ (t.rem.table.get i).state)).map
    fun i => .reminder i (t.rem.table.get i).state

/-- The CABIN notice of an event (R120). -/
def cabinOf (s t : State) : List Notice :=
  if s.rem.summary.chime = t.rem.summary.chime ∧ s.rem.summary.visual = t.rem.summary.visual ∧
      s.rem.summary.child = t.rem.summary.child then []
  else [.cabin t.rem.summary.chime t.rem.summary.visual t.rem.summary.child]

/-- A record entering AUDIBLE, or CAPPED when its budget is spent (R109). -/
def audibleFrom (r : ReminderRec) : ReminderRec :=
  { r with state := if r.budget = 0 then .capped else .audible, visual := 0 }

/-- A record entering VISUAL with its timer loaded, or passing on when t_visual is 0 (R108). -/
def visualFrom (s : State) (r : ReminderRec) : ReminderRec :=
  if s.rem.settings.tVisual = 0 then audibleFrom r
  else { r with state := .visual, visual := 10 * s.rem.settings.tVisual }

/-- A record entering the stages: VISUAL when the trigger holds, ARMED when not (R111). -/
def stagesFrom (s : State) (r : ReminderRec) : ReminderRec :=
  if triggerHolds s then visualFrom s r else { r with state := .armed, visual := 0 }

/-- The record after an evaluation in its case, state by state (R110 to R114): the budget is restored on entry to LATCHED,
the visual timer loaded on entry to VISUAL and 0 in any other state entered. -/
def movedTo (s : State) (k : ReminderCase) (r : ReminderRec) : ReminderRec :=
  match k, r.state with
  | .belted, .latched => r
  | .unbelted, .none => stagesFrom s r
  | .unbelted, .childUnsecured => stagesFrom s r
  | .unbelted, .armed => if triggerHolds s then visualFrom s r else r
  | .unbelted, .latched =>
      if s.rem.speed.any fun v => decide (s.rem.settings.vRemind ≤ v) then audibleFrom r else stagesFrom s r
  | .unbelted, _ => r
  | .buckleUnknown, .armed => r
  | .childUnsecured, .childUnsecured => r
  | .notReminded, _ => { r with state := .none, visual := 0 }
  | .belted, _ => { state := .latched, visual := 0, budget := 10 * s.rem.settings.tChime }
  | .buckleUnknown, _ => { r with state := .armed, visual := 0 }
  | .childUnsecured, _ => { r with state := .childUnsecured, visual := 0 }

/-- A record at a step of 0.1 s under the count condition: the stage counts, and at 0 goes on as at its expiry (R105, R108,
R109). -/
def countedFrom (r : ReminderRec) : ReminderRec :=
  match r.state with
  | .visual => if r.visual ≤ 1 then audibleFrom r else { r with visual := r.visual - 1 }
  | .audible =>
      if r.budget ≤ 1 then { state := .capped, visual := 0, budget := 0 } else { r with budget := r.budget - 1 }
  | _ => r

/-- REM has evaluated the trigger at an event that changed no case: when it comes to hold every unbelted seat in ARMED
enters VISUAL, or AUDIBLE when t_visual is 0 (R103, R108, R111); the summary follows and the notices are posted. -/
abbrev Triggered (s t : State) : Prop :=
  (∀ i : Seat, t.rem.table.get i =
    (if triggerHolds s = false ∧ triggerHolds t = true ∧ (s.rem.table.get i).state = .armed ∧
        caseOf (s.cmap.seats.get i) (s.verd.seats.get i) = .unbelted then
      (if s.rem.settings.tVisual = 0 then audibleFrom (s.rem.table.get i)
       else { s.rem.table.get i with state := .visual, visual := 10 * s.rem.settings.tVisual })
    else s.rem.table.get i)) ∧
  SummaryLaw t ∧ t.lnk.notices = (enqueue (remindersOf s t ++ cabinOf s t) s.lnk).notices ∧
  t.lnk.overflow = (enqueue (remindersOf s t ++ cabinOf s t) s.lnk).overflow

/-- The chime budget with which REM evaluates a seat at the ON event: its snapshot's when it is resumed, lowered to t_chime,
and t_chime otherwise (R116, R145). -/
def budgetAtOn (s : State) (i : Seat) : Nat :=
  if (s.ret.snapshots.get i).isSome = true ∧ (s.verd.seats.get i).lifecycle = .active then
    min (((s.ret.snapshots.get i).map Snapshot.budget).getD 0) (10 * s.rem.settings.tChime)
  else 10 * s.rem.settings.tChime

/-! ## Words of the statements: requests -/

/-- The requests without arguments, with their codes (R172). -/
def noArgument : Fin 8 → Byte × (ReqFrame → Instr)
  | 0 => (0x01, .identify)
  | 1 => (0x02, .status)
  | 2 => (0x03, .restart)
  | 3 => (0x21, .scanStatus)
  | 4 => (0x23, .probeRead)
  | 5 => (0x38, .seatSummary)
  | 6 => (0x48, .advisoryRead)
  | 7 => (0x61, .protectionClear)

/-- The requests whose body is one byte (R172). -/
def oneByte : Fin 10 → Byte × (ReqFrame → Instr)
  | 0 => (0x08, .noticeFetch)
  | 1 => (0x09, .noticeLevelSet)
  | 2 => (0x11, .mapRead)
  | 3 => (0x22, .seatProbe)
  | 4 => (0x31, .calRead)
  | 5 => (0x32, .zeroCapture)
  | 6 => (0x39, .seatDetail)
  | 7 => (0x41, .vehicleState)
  | 8 => (0x43, .cabinReminder)
  | 9 => (0x60, .protectSet)

/-- The requests whose byte names a seat. -/
def seatByte : Fin 4 → Byte × (ReqFrame → Instr)
  | 0 => (0x22, .seatProbe)
  | 1 => (0x31, .calRead)
  | 2 => (0x32, .zeroCapture)
  | 3 => (0x39, .seatDetail)

/-- The command is a request of the host. -/
def isRequest : Instr → Bool
  | .unknownRequest _ _ | .identify _ | .status _ | .restart _ | .noticeFetch _ | .noticeLevelSet _
  | .mapWriteOpen _ _ | .mapWriteContinue _ _ _ | .mapWriteFinal _ | .mapRead _ | .profileWrite _ | .scanTimingSet _
  | .scanStatus _ | .seatProbe _ | .probeRead _ | .calWrite _ | .calRead _ | .zeroCapture _ | .seatSummary _
  | .seatDetail _ | .vehicleState _ | .reminderSet _ | .cabinReminder _ | .advisoryRead _ | .retentionSet _
  | .retentionRead _ | .protectSet _ | .protectionClear _ => true
  | .fullReset | .storeLoadComplete _ | .ignLineChange _ | .ignitionOff | .ignitionOn
  | .doorLineChange _ _ | .doorOpen _ | .doorClosed _ | .rowpLineChange _ _ | .rowInstalled _ | .rowRemoved _
  | .intervalExpiry | .settleEnd | .conversionComplete _ _ | .markerPushed | .entryComplete | .blockedMarkerTake
  | .frameFinish | .frameHandlingComplete | .remTimerStep | .startIntervalExpiry | .visualTimerExpiry _
  | .chimeBudgetExpiry _ | .freshnessExpiry | .retentionTimerExpiry | .commitComplete _ | .clearCommitComplete _
  | .receiveByte _ | .interByteTimeout | .replyComplete | .transferInactivityExpiry => false

/-- The request that a complete frame's CODE and body name (R172), told by its bytes alone (assumption log 22). -/
def requestOf (code : Byte) (f : ReqFrame) : Instr :=
  if code = 0x01 then .identify f else if code = 0x02 then .status f else if code = 0x03 then .restart f
  else if code = 0x08 then .noticeFetch f else if code = 0x09 then .noticeLevelSet f
  else if code = 0x10 then
    (match f.body with
      | [] => .unknownRequest code f
      | part :: records =>
          if part = 0 then .mapWriteOpen records f.final
          else if part = 3 ∧ f.final = true then .mapWriteFinal ⟨records, none⟩ else .mapWriteContinue part records f.final)
  else if code = 0x11 then .mapRead f else if code = 0x12 then .profileWrite ⟨f, none⟩
  else if code = 0x20 then .scanTimingSet f else if code = 0x21 then .scanStatus f
  else if code = 0x22 then .seatProbe f else if code = 0x23 then .probeRead f
  else if code = 0x30 then .calWrite f else if code = 0x31 then .calRead f else if code = 0x32 then .zeroCapture f
  else if code = 0x38 then .seatSummary f else if code = 0x39 then .seatDetail f
  else if code = 0x41 then .vehicleState f else if code = 0x42 then .reminderSet f
  else if code = 0x43 then .cabinReminder f else if code = 0x48 then .advisoryRead f
  else if code = 0x50 then (if f.body = [] then .retentionRead f.final else .retentionSet f)
  else if code = 0x60 then .protectSet f else if code = 0x61 then .protectionClear f
  else .unknownRequest code f

/-- A number as `n` bytes, low byte first (R171). -/
def bytesOf : Nat → Nat → List Byte
  | 0, _ => []
  | n + 1, x => BitVec.ofNat 8 x :: bytesOf n (x / 256)

/-- LNK with the receiver in HUNT and its timer stopped (R150, R152). -/
def hunting (s : State) : State := { s with lnk := { s.lnk with rxState := .hunt, interByte := false } }

/-- A frame ended by a link error: answered when dispatch is idle, else dropped (R151). -/
def linkErrorReply (st : Status) (code : Byte) (s : State) : State :=
  if s.lnk.dispatch = .idle then answering code st [] (hunting s) else hunting s

/-- The sum of bytes modulo 256. -/
def sumOf (bs : List Byte) : Nat := (bs.map BitVec.toNat).sum % 256

/-- A clamp written with min and max. -/
def within (lo hi x : Nat) : Nat := max lo (min hi x)

/-- The profile with every field clamped to its range of R3. -/
def profileWithin (p : Profile) : Profile :=
  { tc := BitVec.ofNat 12 (within 1 4095 p.tc.toNat), k := BitVec.ofNat 10 (within 1 1023 p.k.toNat)
    mEmpty := BitVec.ofNat 8 (within 1 253 p.mEmpty.toNat), mPerson := BitVec.ofNat 8 (within 2 254 p.mPerson.toNat)
    mAdult := BitVec.ofNat 8 (within 3 255 p.mAdult.toNat), h := BitVec.ofNat 8 (within 0 20 p.h.toNat)
    sRail := BitVec.ofNat 8 (within 1 64 p.sRail.toNat), tCinch := BitVec.ofNat 8 (within 1 255 p.tCinch.toNat)
    cSmall := BitVec.ofNat 8 (within 1 16 p.cSmall.toNat), nUp := BitVec.ofNat 8 (within 1 20 p.nUp.toNat)
    nDown := BitVec.ofNat 8 (within 1 60 p.nDown.toNat), nChild := BitVec.ofNat 8 (within 1 30 p.nChild.toNat) }

/-- The bytes of a profile record that stand on the link (R173): bits 0 to 11 of the group carry Tc and 12 to 21 carry K;
N_child has no byte (assumption log 22). -/
def profileBytes (p : Profile) : List Byte :=
  bytesOf 3 (p.tc.toNat + 4096 * p.k.toNat) ++
  [p.mEmpty, p.mPerson, p.mAdult, p.h, p.sRail, p.tCinch, p.cSmall, p.nUp, p.nDown]

/-- A profile whose wired fields are those of a twelve-byte record (R173). -/
abbrev IsProfileOf (b : List Byte) (p : Profile) : Prop :=
  p.tc.toNat + 4096 * p.k.toNat =
    ((b.getD 0 0).toNat + 256 * (b.getD 1 0).toNat + 65536 * (b.getD 2 0).toNat) % 4194304 ∧
  p.mEmpty = b.getD 3 0 ∧ p.mPerson = b.getD 4 0 ∧ p.mAdult = b.getD 5 0 ∧ p.h = b.getD 6 0 ∧ p.sRail = b.getD 7 0 ∧
  p.tCinch = b.getD 8 0 ∧ p.cSmall = b.getD 9 0 ∧ p.nUp = b.getD 10 0 ∧ p.nDown = b.getD 11 0

/-- The part 3 record of every profile carries what the working profile holds in the fields that stand on the link (R14,
R173). -/
abbrev sameProfiles (s : State) (part3 : List Byte) : Prop :=
  ∀ k : ProfileIx, IsProfileOf ((part3.drop (12 * k.val)).take 12) (s.cmap.profiles.get k)

/-- A map image taken (R7, R8, R157): the working map is the image, valid, the profiles those given, every block stands as a
map apply leaves it, the map section commit is in flight, the transfer closed and the reply OK; nothing else changes. -/
abbrev MapWritten (s : State) (img : MapRecs) (ps : Tab 4 Profile) (t : State) : Prop :=
  JustApplied t ∧ ApplyReached s t ∧
  t.cmap.rows = img.rows ∧ t.cmap.seats = img.seats ∧ t.cmap.valid = true ∧ t.cmap.profiles = ps ∧
  t = { s with
    cmap := { t.cmap with strap := s.cmap.strap }
    scan := { t.scan with timing := s.scan.timing, overrun := s.scan.overrun, tornFlag := s.scan.tornFlag, gain := s.scan.gain }
    feat := { t.feat with cal := s.feat.cal }, verd := t.verd
    rem := { s.rem with table := t.rem.table, summary := t.rem.summary }, adv := t.adv
    ret := { s.ret with snapshots := t.ret.snapshots, timer := t.ret.timer }
    lnk := { s.lnk with
      dispatch := .handling { code := 0x10, status := .ok, body := [] } false, transfer := none
      notices := t.lnk.notices, overflow := t.lnk.overflow }
    store := { s.store with commit := .one (.map img) }
    pins := { s.pins with sup := t.pins.sup, attn := t.pins.attn }, free := t.free }

/-- The row record of three bytes (R173). -/
abbrev IsRowOf (b : List Byte) (r : RowRec) : Prop :=
  r.removable = (b.getD 0 0).getLsbD 0 ∧ r.presence = b.getD 1 0 ∧ r.doors = b.getD 2 0

/-- The seat record of six bytes (R173). -/
abbrev IsSeatOf (b : List Byte) (m : SeatMap) : Prop :=
  m.cells.toNat = (b.getD 0 0).toNat + 256 * (b.getD 1 0).toNat ∧
  m.fitted = (b.getD 2 0).getLsbD 0 ∧ m.tension = (b.getD 2 0).getLsbD 1 ∧ m.buckle = (b.getD 2 0).getLsbD 2 ∧
  m.presume = (b.getD 2 0).getLsbD 3 ∧ m.row.toNat = (b.getD 3 0).toNat % 16 ∧ m.gain.toNat = (b.getD 3 0).toNat / 16 ∧
  m.profile.toNat = (b.getD 4 0).toNat % 16 ∧ m.advisory.toNat = (b.getD 4 0).toNat / 16 ∧ m.anchor = b.getD 5 0

/-- Record `i` of a run of records of `n` bytes. -/
def recordOf (n : Nat) (bytes : List Byte) (i : Nat) : List Byte := (bytes.drop (n * i)).take n

/-- A status or mailbox flag byte of four flags. -/
def flags4 (a b c d : Bool) : Nat := bit a + 2 * bit b + 4 * bit c + 8 * bit d

/-- The entry `k` of a CAL WRITE body (R174): the number of its packed group. -/
def calGroupOf (body : List Byte) (k : Nat) : Nat :=
  (body.getD (2 + 3 * k) 0).toNat + 256 * (body.getD (3 + 3 * k) 0).toNat + 65536 * (body.getD (4 + 3 * k) 0).toNat

/-- The cell that entry `k` names. -/
def calCell (body : List Byte) (k : Nat) : Nat := calGroupOf body k / 1048576

/-- Z of entry `k`. -/
def calZ (body : List Byte) (k : Nat) : Nat := calGroupOf body k % 1024

/-- G of entry `k`. -/
def calG (body : List Byte) (k : Nat) : Nat := calGroupOf body k / 1024 % 1024

/-- The checks that R57 makes on the entries of a CAL WRITE on seat `i`: fitted cells, none twice, Z and G in range. -/
def calEntriesPass (s : State) (i : Seat) (body : List Byte) (count : Nat) : Bool :=
  (List.range count).all fun k =>
    s.cmap.valid && (s.cmap.seats.get i).fitted && (s.cmap.seats.get i).cells.getLsbD (calCell body k) &&
    decide (64 ≤ calZ body k) && decide (64 ≤ calG body k) &&
    (List.range k).all fun j => decide (calCell body j ≠ calCell body k)

/-! ## Words of the statements: reply bodies (chapter 11) -/

/-- The STATUS body (R178). -/
def statusBytes (s : State) : List Byte :=
  [(bit s.cmap.valid : Byte), s.cmap.strap.setWidth 8, s.scan.state.code, s.ret.ignition.code,
   (bit s.store.valid.map + 2 * bit s.store.valid.profiles + 4 * bit s.store.valid.reminder + 8 * bit s.store.valid.timing +
     16 * bit s.store.valid.calibration + 32 * bit s.store.valid.protection),
   if s.store.commit = .idle then 0 else 1,
   flags4 s.store.switches.map s.store.switches.calibration s.store.switches.profile s.store.switches.clear,
   bit s.adv.mailbox.isSome, s.lnk.notices.length, bit s.lnk.overflow, s.lnk.level]

/-- A seat's optional byte: 0xFF when absent (R171). -/
def seatOr (x : Option Seat) : Byte := match x with | some i => BitVec.ofNat 8 i.val | none => 0xFF

/-- The SCAN STATUS body (R39, R178). -/
def scanBytes (s : State) : List Byte :=
  [(s.scan.state.code : Byte),
   flags4 (s.scan.step.any fun st => match st.phase with | .mark _ => true | _ => false) s.scan.closing s.scan.overrun
     s.scan.tornFlag,
   seatOr (s.scan.step.map SeatStep.seat), s.scan.queue.length,
   (match s.scan.probe with | .free _ => 0 | .armed _ _ => 1 | .filled _ => 2), seatOr s.scan.probe.seat] ++
  bytesOf 2 s.scan.timing.p ++ bytesOf 2 s.scan.timing.d ++ bytesOf 2 s.scan.timing.settle ++
  bytesOf 3 (max 10000 (min 1000000 (s.scan.timing.p * s.scan.timing.d)))

/-- The conditions as bits (R171). -/
def conditionNumber (c : Conditions) : Nat :=
  bit c.zero + 2 * bit c.saturated + 4 * bit c.open_ + 8 * bit c.allOpen + 16 * bit c.uncalibrated + 32 * bit c.rail +
  64 * bit c.cinched

/-- The PROBE READ body of a filled buffer (R176). -/
def probeBytes (b : ProbeBuffer) : List Byte :=
  bytesOf 3 (b.rail + 128 * b.contacts + 4096 * conditionNumber b.conditions + 524288 * b.seat.val +
    8388608 * bit b.fromProbePass) ++
  [(b.mass : Byte)] ++
  bytesOf 3 (((b.tension.map fun x => x.1.toNat).getD 0) + 4096 * ((b.buckle.map fun x => x.1.toNat).getD 0)) ++
  b.cells.flatMap fun c => bytesOf 3 (c.raw.toNat + 4096 * c.p)

/-- The profile by which SEAT DETAIL shows thresholds: the one that a fitted seat's record names, a free one for an unfitted
seat or a code that names none (R1, R80; assumption log 25). -/
def shownProfileAt (s : State) (i : Seat) : Profile :=
  if (s.cmap.seats.get i).fitted = true ∧ (s.cmap.seats.get i).profile.toNat < 4 then profileAt s i
  else s.cmap.profiles.get (Config.unfittedProfile i)

/-- The SEAT DETAIL body of seat `i` (R80, R175); byte 27 without last features is assumption log 26. -/
def detailOf (s : State) (i : Seat) : List Byte :=
  let r := s.verd.seats.get i
  let p := shownProfileAt s i
  [(i.val : Byte), r.lifecycle.code, r.confirmed.code, ((r.candidate.map Verdict.code).getD 0 : Nat), r.candidateCount,
   (match r.candidate with | some v => requiredAt p r.confirmed v r.motionHold | none => 0 : Nat),
   thrAt r.confirmed [.empty] [.object, .small, .adult] p.h.toNat p.mEmpty.toNat,
   thrAt r.confirmed [.empty, .object] [.small, .adult] p.h.toNat p.mPerson.toNat,
   thrAt r.confirmed [.empty, .object, .small] [.adult] p.h.toNat p.mAdult.toNat, r.history.length] ++
  (List.range 8).map (fun k => (((r.history[k]?).map Verdict.code).getD 0 : Byte)) ++
  [((r.evicted.map Verdict.code).getD 0 : Byte),
   (bit r.unstable + 2 * bit r.motionHold + 4 * bit r.features.isSome +
     8 * bit (r.features.any fun f => f.tension.isSome) +
     16 * bit (r.features.any fun f => f.tension.any fun x => x.2) + 32 * bit r.tensionFault + 64 * bit r.latchedEmpty)] ++
  bytesOf 2 ((r.features.map LastFeatures.load).getD 0) ++
  [((r.features.map LastFeatures.mass).getD 0 : Byte), (r.features.map LastFeatures.contacts).getD 0,
   (r.features.map LastFeatures.rail).getD 0, ((r.features.bind LastFeatures.tension).map Prod.fst).getD 0,
   (r.features.map LastFeatures.evidence).getD 0,
   (r.features.map fun f => conditionNumber f.conditions).getD 0xFF, r.buckle.code,
   (match r.agree with | .zero => 0 | .run false n => 32 + n | .run true n => 48 + n : Nat), r.buckleStreak, r.anchor.code,
   r.tensionStreak, r.matStreak, r.cleanStreak]

/-- The CABIN REMINDER body (R121, R178). -/
def cabinBytes (s : State) (half : Nat) : List Byte :=
  [(half : Byte),
   (bit s.rem.summary.chime + 2 * bit (decide (s.ret.ignition = .on)) + 4 * bit s.rem.startElapsed +
     8 * bit s.rem.freshness + 16 * bit (triggerHolds s) + 32 * bit (triggerHolds s && s.rem.speed.isSome))] ++
  bytesOf 2 (setNumber s.rem.summary.visual) ++ bytesOf 2 (setNumber s.rem.summary.child) ++
  [(s.rem.summary.occupied : Byte), s.rem.summary.latched] ++ bytesOf 2 (s.rem.startTimer.getD 0) ++
  [((s.rem.speed.getD 0xFF : Nat) : Byte)] ++
  ((List.finRange 16).filter fun i : Seat => decide (i.val / 8 = half)).flatMap fun i =>
    ((s.rem.table.get i).state.code : Byte) ::
      bytesOf 3 ((s.rem.table.get i).budget + 4096 * (s.rem.table.get i).visual)

/-- The four bytes of a current advisory (R177). -/
def currentOf (s : State) (p : Pos) : List Byte :=
  match (s.adv.positions.get p).seat with
  | some i =>
      [((s.adv.positions.get p).value.code : Byte), i.val, (s.verd.seats.get i).confirmed.code,
       (s.verd.seats.get i).lifecycle.code]
  | none => [((s.adv.positions.get p).value.code : Byte), 0xFF, 0xFF, 0xFF]

/-- The ADVISORY READ body (R129, R177). -/
def advisoryBytes (s : State) : List Byte :=
  [(bit s.adv.mailbox.isSome + 2 * bit s.adv.superseded : Byte)] ++
  (match s.adv.mailbox with
    | some r => [(r.position.val : Byte), r.value.code, seatOr r.seat, (r.confirmed.map Verdict.code).getD 0xFF,
        (r.lifecycle.map Lifecycle.code).getD 0xFF]
    | none => [0xFF, 0xFF, 0xFF, 0xFF, 0xFF]) ++ currentOf s 0 ++ currentOf s 1

/-- The retention report (R148, R178). -/
def retentionBytes (r : Ret) : List Byte :=
  bytesOf 2 r.tRetain ++
  [(bit (decide (r.ignition = .on)) + 2 * bit r.timer.isSome +
    16 * flags4 (r.doorOpen.get 0) (r.doorOpen.get 1) (r.doorOpen.get 2) (r.doorOpen.get 3) : Byte)] ++
  bytesOf 2 (r.timer.getD 0) ++
  (List.finRange 16).flatMap fun i : Seat => bytesOf 3 (match r.snapshots.get i with
    | some n => n.confirmed.code + 8 * n.buckle.code + 64 * n.budget
    | none => 0)

/-- The CAL READ body of seat `i` (R58, R174); the frame count with COLLECTING only (assumption log 23). -/
def calBytes (s : State) (i : Seat) : List Byte :=
  [(i.val : Byte)] ++
  (match s.feat.capture with
    | some c =>
        if c.seat = i then match c.state with
          | .collecting => [1, (c.count : Byte)]
          | .waitingStore => [2, 0]
          | .committing => [3, 0]
        else [0, 0]
    | none => [0, 0]) ++
  (List.finRange 16).flatMap fun n : Cell => bytesOf 3
    (((s.feat.cal.get i).get n).z.toNat + 1024 * ((s.feat.cal.get i).get n).g.toNat +
      1048576 * bit ((s.feat.cal.get i).get n).mark +
      2097152 * bit (s.cmap.valid && (s.cmap.seats.get i).fitted && (s.cmap.seats.get i).cells.getLsbD n.val))

/-- The bytes of a row record (R173). -/
def rowBytes (r : RowRec) : List Byte := [(bit r.removable : Byte), r.presence, r.doors]

/-- The bytes of a seat record (R173). -/
def seatBytes (m : SeatMap) : List Byte :=
  bytesOf 2 m.cells.toNat ++
  [(flags4 m.fitted m.tension m.buckle m.presume : Byte), m.row.toNat + 16 * m.gain.toNat,
   m.profile.toNat + 16 * m.advisory.toNat, m.anchor]

/-- The MAP READ body of a part (R14, R173). -/
def mapBytes (s : State) (part : Nat) : List Byte :=
  [(bit s.cmap.valid : Byte), s.cmap.strap.setWidth 8, part] ++
  (if part = 0 then
    (List.finRange 5).flatMap (fun r : Row => rowBytes (s.cmap.rows.get r)) ++
    (List.finRange 5).map (fun r : Row => if s.cmap.valid then ((s.cmap.rowState.get r).code : Byte) else 0)
  else if part = 3 then (List.finRange 4).flatMap fun k : ProfileIx => profileBytes (s.cmap.profiles.get k)
  else ((List.finRange 16).filter fun i : Seat => decide (i.val / 8 + 1 = part)).flatMap
    fun i => seatBytes (s.cmap.seats.get i))

/-- The N_child that go with the profile records of a part (R14; assumption log 22). -/
def nChildIn (s : State) (part : Nat) : List Byte :=
  if part = 3 then (List.finRange 4).map fun k : ProfileIx => (s.cmap.profiles.get k).nChild else []

/-! ## Words of the statements: the validity tests of a map (R4) -/

/-- Seat records `j` before `i` that are fitted. -/
def fittedBefore (m : MapRecs) (i : Seat) : List SeatMap :=
  ((List.finRange 16).filter fun j : Seat => decide (j < i) && (m.seats.get j).fitted).map m.seats.get

/-- Whether a value lies in `lo..hi`. -/
def between (lo hi x : Nat) : Bool := decide (lo ≤ x ∧ x ≤ hi)

/-- The twelve fields of a profile lie in their ranges (R3). -/
def profileInRange (p : Profile) : Bool :=
  between 1 1023 p.k.toNat && between 1 253 p.mEmpty.toNat && between 2 254 p.mPerson.toNat &&
  between 3 255 p.mAdult.toNat && between 0 20 p.h.toNat && between 1 4095 p.tc.toNat && between 1 64 p.sRail.toNat &&
  between 1 255 p.tCinch.toNat && between 1 16 p.cSmall.toNat && between 1 20 p.nUp.toNat &&
  between 1 60 p.nDown.toNat && between 1 30 p.nChild.toNat

/-- The tests of one row, each with its reason and whether it passes, in the order of the table of R4. -/
def rowTests (m : MapRecs) (r : Row) : List (MapReason × Bool) :=
  let x := m.rows.get r
  [(.row0Removable, decide (r ≠ 0) || !x.removable),
   (.presenceMissing, !x.removable || decide (x.presence ≠ 0xFF)),
   (.presenceUnexpected, x.removable || decide (x.presence = 0xFF)),
   (.presenceRange, decide (x.presence = 0xFF) || between 0 3 x.presence.toNat),
   (.presenceReused, decide (x.presence = 0xFF) ||
     ((List.finRange 5).filter fun q : Row => decide (q < r)).all fun q => decide ((m.rows.get q).presence ≠ x.presence)),
   (.doorRange, decide (x.doors.toNat < 16))]

/-- The tests of one seat; an unfitted seat is not tested. -/
def seatTests (m : MapRecs) (i : Seat) : List (MapReason × Bool) :=
  let x := m.seats.get i
  if x.fitted then
    [(.seatRow, between 0 4 x.row.toNat),
     (.cellCount, decide (4 ≤ (cellsOf x).length)),
     (.gain, between 0 3 x.gain.toNat),
     (.profileIndex, between 0 3 x.profile.toNat),
     (.anchorRange, decide (x.anchor = 0xFF) || between 0 7 x.anchor.toNat),
     (.anchorReused, decide (x.anchor = 0xFF) || (fittedBefore m i).all fun y => decide (y.anchor ≠ x.anchor)),
     (.advisoryRange, decide (x.advisory = 0xF) || between 0 1 x.advisory.toNat),
     (.advisoryRow, decide (x.advisory = 0xF) || decide (x.row = 0)),
     (.advisoryReused, decide (x.advisory = 0xF) || (fittedBefore m i).all fun y => decide (y.advisory ≠ x.advisory))]
  else []

/-- The tests of one profile. -/
def profileTests (p : Profile) : List (MapReason × Bool) :=
  [(.profileRange, profileInRange p),
   (.profileOrder, decide (p.mEmpty.toNat < p.mPerson.toNat ∧ p.mPerson.toNat < p.mAdult.toNat))]

/-- Every test of R4 in its order, with the triple it reports and whether it passes. -/
def mapTests (m : MapRecs) (ps : Tab 4 Profile) : List (MapFailure × Bool) :=
  ((List.finRange 5).flatMap fun r : Row => (rowTests m r).map fun x => (⟨.row, r.val, x.1⟩, x.2)) ++
  ((List.finRange 16).flatMap fun i : Seat => (seatTests m i).map fun x => (⟨.seat, i.val, x.1⟩, x.2)) ++
  [(⟨.seat, 0, .noSeat⟩, decide (∃ i : Seat, (m.seats.get i).fitted = true))] ++
  ((List.finRange 4).flatMap fun k : ProfileIx =>
    (profileTests (ps.get k)).map fun x => (⟨.profile, k.val, x.1⟩, x.2))

/-! ## Words of the statements: who may move the store -/

/-- The commands that reset, load or complete a commit. -/
def touchesStore : Instr → Bool
  | .fullReset => true
  | .storeLoadComplete _ => true
  | .commitComplete _ => true
  | .clearCommitComplete _ => true
  | _ => false

/-- The commands through which a protection switch can move (R168): reset, load, and the two protection requests,
whether as such or as the bytes or the CODE of one. -/
def touchesSwitches : Instr → Bool
  | .fullReset => true
  | .storeLoadComplete _ => true
  | .protectSet _ => true
  | .protectionClear _ => true
  | .receiveByte _ => true
  | .unknownRequest _ _ => true
  | _ => false

end Sys2Proof.Safety
end

