-- ==== Sys2Proof/WellFormed.lean ====
section
/-! DEFINITION. Which commands can stand for something that happens at the part: a request row carries a body that
fits a link frame (R149: LEN 1..57, so a body of 0..56 bytes) and, where three rows share the code MAP WRITE or two
share RETENTION SET, the frame of its own row. `exec` gives every command its effect all the same. -/

namespace Sys2Proof

/-- A body of at most 56 bytes, the most that LEN allows (R149). -/
def ReqFrame.fits (f : ReqFrame) : Bool := f.body.length ≤ 56

/-- The codes of the requests of R172. -/
def requestCodes : List Byte :=
  [0x01, 0x02, 0x03, 0x08, 0x09, 0x10, 0x11, 0x12, 0x20, 0x21, 0x22, 0x23, 0x30, 0x31, 0x32, 0x38, 0x39,
   0x41, 0x42, 0x43, 0x48, 0x50, 0x60, 0x61]

/-- A command that can occur as its row tells it. -/
def Instr.wellFormed : Instr → Bool
  | .fullReset | .storeLoadComplete _ | .ignLineChange _ | .ignitionOff | .ignitionOn
  | .doorLineChange _ _ | .doorOpen _ | .doorClosed _ | .rowpLineChange _ _ | .rowInstalled _ | .rowRemoved _
  | .intervalExpiry | .settleEnd | .conversionComplete _ _ | .markerPushed | .entryComplete | .blockedMarkerTake
  | .frameFinish | .frameHandlingComplete | .remTimerStep | .startIntervalExpiry | .visualTimerExpiry _
  | .chimeBudgetExpiry _ | .freshnessExpiry | .retentionTimerExpiry | .commitComplete _ | .clearCommitComplete _
  | .receiveByte _ | .interByteTimeout | .replyComplete | .transferInactivityExpiry | .retentionRead _ => true
  | .unknownRequest code f => f.fits && !requestCodes.contains code
  | .mapWriteOpen records _ => records.length ≤ 55
  | .mapWriteContinue part records final =>
      records.length ≤ 55 && part != 0 && !(part == 3 && final)
  | .mapWriteFinal part => part.records.length ≤ 55
  | .profileWrite f => f.fits
  | .retentionSet f => f.fits && !f.body.isEmpty
  | .identify f | .status f | .restart f | .noticeFetch f | .noticeLevelSet f | .mapRead f
  | .scanTimingSet f | .scanStatus f | .seatProbe f | .probeRead f | .calWrite f | .calRead f | .zeroCapture f
  | .seatSummary f | .seatDetail f | .vehicleState f | .reminderSet f | .cabinReminder f | .advisoryRead f
  | .protectSet f | .protectionClear f => f.fits

end Sys2Proof
end

