-- ==== Sys2Proof/Certificates/Slice0/Obligations.lean ====
section
/-! DEFINITION. The statements for the provers: one definition for each, over the words of Safety.
Where a statement has several clauses, each is a case of its command, with its own hypotheses. -/



open Sys2Proof Sys2Proof.Machine Sys2Proof.Safety

/-- From every state FULL_RESET answers a next state in which the load is in flight and the store idle; SCAN is
HALTED with an empty queue, a FREE probe slot without report, clear flags, gain x1 and a stopped timer; FEAT is
IDLE with an empty accumulator and no capture; the handover slot is empty; the speed is UNKNOWN, the freshness
timer and the start interval stopped, every reminder NONE with visual timer 0; both positions have no seat and
FAULT, both pairs low/low, the mailbox empty; ignition OFF, every door CLOSED, no snapshot, no retention timer;
the receiver in HUNT with an empty buffer, dispatch idle, no transfer, no notice, overflow clear, level 1, ATTN
low. The ignition debounce and every door debounce are stopped, and TXD is high. The line levels and the waiting
commands are kept; every stored section that no commit was writing stands with the contents and the integrity
byte it had; a section that a commit was writing fails its test.
The model's choices: The byte sum of the contents of a section is free (assumption log 14). The working copies
before the load completes are not named here: their values are the model's (assumption log 3).
From spec/10_settings_store_and_protection.md 10.2 and 10.3; spec/02_mat_scanning.md 2.1;
spec/03_cell_correction_features_and_zero_capture.md 3.1 and 3.8; spec/06_belt_reminders.md 6.2 to 6.4;
spec/07_restraint_advisory.md 7.2; spec/08_ignition_doors_and_occupancy_retention.md 8.1 to 8.3;
spec/09_the_serial_link.md 9.2 to 9.6. -/
def Obligations.FullResetLeavesEveryBlockAtItsResetState : Prop :=
  (∀ (s : State),
    ∃ t, exec .fullReset s = .next t ∧ (
    t.store.loading = true ∧ t.store.commit = .idle ∧
    t.scan.state = .halted ∧ t.scan.closing = false ∧ t.scan.step = none ∧ t.scan.visited = [] ∧ t.scan.rest = [] ∧
    t.scan.gain = .x1 ∧ t.scan.interval = none ∧ t.scan.queue = [] ∧ t.scan.probe = .free none ∧
    t.scan.overrun = false ∧ t.scan.tornFlag = false ∧
    t.feat.intake = .idle ∧ t.feat.acc = none ∧ t.feat.capture = none ∧ t.verd.slot = none ∧
    t.rem.speed = none ∧ t.rem.freshness = false ∧ t.rem.startTimer = none ∧ t.rem.startElapsed = false ∧
    (∀ i : Seat, (t.rem.table.get i).state = .none ∧ (t.rem.table.get i).visual = 0) ∧
    (∀ p : Pos, (t.adv.positions.get p).seat = none ∧ (t.adv.positions.get p).value = .fault ∧
      t.pins.sup.get p = (false, false)) ∧
    t.adv.mailbox = none ∧ t.adv.superseded = false ∧
    t.ret.ignition = .off ∧ t.ret.ignDebounce = false ∧
    (∀ d : Door, t.ret.doorOpen.get d = false ∧ t.ret.doorDebounce.get d = false) ∧
    (∀ i : Seat, t.ret.snapshots.get i = none) ∧ t.ret.timer = none ∧
    t.lnk.rxState = .hunt ∧ t.lnk.rxBuf = [] ∧ t.lnk.interByte = false ∧ t.lnk.dispatch = .idle ∧ t.txd = .high ∧
    t.lnk.transfer = none ∧ t.lnk.notices = [] ∧ t.lnk.overflow = false ∧ t.lnk.level = 1 ∧ t.pins.attn = false ∧
    t.pins.ign = s.pins.ign ∧ t.pins.door = s.pins.door ∧ t.pins.rowp = s.pins.rowp ∧ t.pins.anch = s.pins.anch ∧
    t.pending = s.pending ∧
    ∀ x ∈ allSections,
      (writes s.store.commit x = false → sectOf t.store.stored x = sectOf s.store.stored x) ∧
      (writes s.store.commit x = true → contentOf t.store.stored x = none)))

/-- While the load is in flight, STORE_LOAD_COMPLETE answers a next state in which the load is over, the store idle
and the straps held; each validity flag says whether its section passed (the profiles section only if every
profile is in range and ordered); the scan timing, the reminder settings and t_retain are the stored values
clamped to their ranges, or the defaults; the profiles are the stored ones or the defaults; each calibration
cell is the stored one, or uncalibrated (Z 300, G 256) when its mark is clear, its values out of range or the
section failing; the switches are the stored ones or all permitted; the stored sections, ignition and door
states are unchanged; and a debounce of IGN or of a door runs exactly when its line differs from its state. When
no load is in flight the command changes nothing.
The model's choices: That a command whose timer, debounce or operation is not running has no effect is
assumption log 6.
From spec/10_settings_store_and_protection.md 10.1 and 10.2; spec/01_cabin_map_and_seat_lifecycle.md 1.3 and
1.5; spec/02_mat_scanning.md 2.2; spec/03_cell_correction_features_and_zero_capture.md 3.7;
spec/06_belt_reminders.md 6.1; spec/08_ignition_doors_and_occupancy_retention.md 8.1 and 8.6. -/
def Obligations.LoadFillsTheWorkingCopiesFromTheSections : Prop :=
  (∀ (s : State) (straps : BitVec 2),
    s.store.loading = true →
    ∃ t, exec (.storeLoadComplete straps) s = .next t ∧ (
    t.store.loading = false ∧ t.store.commit = .idle ∧ t.cmap.strap = straps ∧ t.store.stored = s.store.stored ∧
    t.store.valid.map = s.store.stored.map.isSome ∧ t.store.valid.reminder = s.store.stored.reminder.isSome ∧
    t.store.valid.timing = s.store.stored.timing.isSome ∧
    t.store.valid.calibration = s.store.stored.calibration.isSome ∧
    t.store.valid.protection = s.store.stored.protection.isSome ∧
    t.store.valid.profiles = (s.store.stored.profiles.any fun ps => ps.cells.all Profile.ok) ∧
    (t.store.valid.profiles = true → some t.cmap.profiles = s.store.stored.profiles) ∧
    (t.store.valid.profiles = false → ∀ i : ProfileIx, t.cmap.profiles.get i = defaultProfile i) ∧
    t.scan.timing.p = max 2 (min 1000 ((s.store.stored.timing.map Timing.p).getD 1000)) ∧
    t.scan.timing.d = max 2 (min 65535 ((s.store.stored.timing.map Timing.d).getD 50)) ∧
    t.scan.timing.settle = max 20 (min 500 ((s.store.stored.timing.map Timing.settle).getD 100)) ∧
    t.rem.settings.vRemind = max 5 (min 60 ((s.store.stored.reminder.map fun r => r.1.vRemind).getD 20)) ∧
    t.rem.settings.vHold = max 3 (min 60 ((s.store.stored.reminder.map fun r => r.1.vHold).getD 10)) ∧
    t.rem.settings.tStart = max 10 (min 300 ((s.store.stored.reminder.map fun r => r.1.tStart).getD 60)) ∧
    t.rem.settings.tVisual = min 60 ((s.store.stored.reminder.map fun r => r.1.tVisual).getD 8) ∧
    t.rem.settings.tChime = max 10 (min 240 ((s.store.stored.reminder.map fun r => r.1.tChime).getD 90)) ∧
    t.ret.tRetain = min 3600 ((s.store.stored.reminder.map fun r => r.2).getD 600) ∧
    t.store.switches = s.store.stored.protection.getD
      { map := false, calibration := false, profile := false, clear := false } ∧
    (∀ (i : Seat) (n : Cell), (t.feat.cal.get i).get n =
      (if (s.store.stored.calibration.any fun c => ((c.get i).get n).mark && decide (64 ≤ ((c.get i).get n).z.toNat) &&
          decide (64 ≤ ((c.get i).get n).g.toNat)) = true
        then ((s.store.stored.calibration.map fun c => (c.get i).get n).getD { z := 300, g := 256, mark := false })
        else { z := 300, g := 256, mark := false })) ∧
    t.ret.ignition = s.ret.ignition ∧ t.ret.doorOpen = s.ret.doorOpen ∧
    (t.ret.ignDebounce = true ↔ ¬ (s.pins.ign = true ↔ s.ret.ignition = .on)) ∧
    (∀ d : Door, t.ret.doorDebounce.get d = true ↔ s.pins.door.get d ≠ s.ret.doorOpen.get d))) ∧
  (∀ (s : State) (straps : BitVec 2),
    s.store.loading = false →
    ∃ t, exec (.storeLoadComplete straps) s = .next t ∧ t = s)

/-- While the load is in flight, STORE_LOAD_COMPLETE with straps 00 takes the rows and seats of the store map
section, or the empty map when it fails, and sets the map valid exactly when no test of R4 fails on them and the
working profiles. With any other strap value the map is valid, and rows and fitted seats are those of the preset
tables of R6. In each case the part stands as a map apply leaves it: row states, debounces, lifecycles, fresh
records, SCAN with its interval timer and the probe freed under MAP, FEAT, REM with its summary, RET, ADV with
its pairs and the mailbox. A seat that a preset leaves unfitted has no presume occupied setting, no tension, no
anchor line and no advisory position.
The model's choices: The cells, buckle bit, row, gain and profile of a seat that a preset leaves unfitted are
free (assumption log 12) and are not named; the records of the empty map are log 17; the buckle and anchor in
the fresh record of a seat that is UNMAPPED are log 18, and an anchor line code out of range in an invalid map
is log 21.
From spec/01_cabin_map_and_seat_lifecycle.md 1.5, 1.6 and 1.8; spec/10_settings_store_and_protection.md 10.2;
spec/04_verdicts.md 4.9; spec/07_restraint_advisory.md 7.2. -/
def Obligations.LoadAppliesTheMapThatTheStrapsChoose : Prop :=
  (∀ (s : State) (straps : BitVec 2),
    s.store.loading = true →
    ∃ t, exec (.storeLoadComplete straps) s = .next t ∧ (
    JustApplied t ∧ ApplyReached s t ∧
    (straps = 0 →
      t.cmap.rows = (s.store.stored.map.getD emptyMap).rows ∧ t.cmap.seats = (s.store.stored.map.getD emptyMap).seats ∧
      (t.cmap.valid = true ↔ mapFailure (s.store.stored.map.getD emptyMap) t.cmap.profiles = none)) ∧
    (straps ≠ 0 → t.cmap.valid = true ∧
      (∀ r : Row, t.cmap.rows.get r = (presetRowTable straps).getD r.val
        { removable := false, presence := 0xFF, doors := 0 }) ∧
      ∀ i : Seat,
        ((t.cmap.seats.get i).fitted = true ↔ i.val < (presetSeatTable straps).length) ∧
        ((t.cmap.seats.get i).fitted = true →
          some (t.cmap.seats.get i) = ((presetSeatTable straps)[i.val]?).map (presetRecord i)) ∧
        ((t.cmap.seats.get i).fitted = false →
          (t.cmap.seats.get i).presume = false ∧ (t.cmap.seats.get i).tension = false ∧
          (t.cmap.seats.get i).anchor = 0xFF ∧ (t.cmap.seats.get i).advisory = 0xF))))

/-- While a one-section commit is in flight, COMMIT_COMPLETE answers a next state in which that section holds what
was written, with a byte sum of 0 modulo 256, if it reads back passing and fails otherwise, its flag says so,
and every other section (contents and integrity byte), flag, switch and working copy is as before. With no
capture open, or one COLLECTING, the store is idle and exactly the STORE notice is posted. With a COMMITTING
capture and the calibration section written the capture is closed, a CALIBRATION DONE notice follows on success
only, and the store is idle. With a WAITING_STORE capture the pending offsets become the Z of the fitted cells
of its seat with their marks set and G kept, and the calibration commit starts, the capture COMMITTING. When no
one-section commit is in flight nothing changes.
The model's choices: That the read-back is the operand of the command, and the byte sum of the contents free, is
assumption log 14. That a command whose timer, debounce or operation is not running has no effect is assumption
log 6.
From spec/10_settings_store_and_protection.md 10.3; spec/03_cell_correction_features_and_zero_capture.md 3.8. -/
def Obligations.CommitCompletionSetsTheFlagAndPostsStore : Prop :=
  (∀ (s : State) (passes : Bool),
    isOne s.store.commit = true →
    s.feat.capture.all (fun x => decide (x.state = .collecting)) = true →
    ∃ t, exec (.commitComplete passes) s = .next t ∧ (
    t = { s with
      store := { s.store with stored := t.store.stored, valid := t.store.valid, commit := .idle }
      lnk := enqueue [.store (target s.store.commit) passes] s.lnk
      pins := { s.pins with attn := t.pins.attn } } ∧
    StoredAfter s.store.stored s.store.commit passes t.store.stored ∧
    ∀ x ∈ allSections, flagOf t.store.valid x = (if x = target s.store.commit then passes else flagOf s.store.valid x))) ∧
  (∀ (s : State) (passes : Bool),
    isOne s.store.commit = true →
    target s.store.commit = .calibration →
    (s.feat.capture.map Capture.state) = some .committing →
    ∃ t, exec (.commitComplete passes) s = .next t ∧ (
    t = { s with
      store := { s.store with stored := t.store.stored, valid := t.store.valid, commit := .idle }
      feat := { s.feat with capture := none }
      lnk := enqueue (.store .calibration passes ::
        (if passes then s.feat.capture.toList.map fun c => .calibration c.seat .done else [])) s.lnk
      pins := { s.pins with attn := t.pins.attn } } ∧
    StoredAfter s.store.stored s.store.commit passes t.store.stored ∧
    ∀ x ∈ allSections, flagOf t.store.valid x = (if x = .calibration then passes else flagOf s.store.valid x))) ∧
  (∀ (s : State) (passes : Bool) (c : Capture) (offsets : Tab 16 Nat),
    isOne s.store.commit = true →
    s.feat.capture = some c →
    c.state = .waitingStore →
    c.offsets = some offsets →
    ∃ t, exec (.commitComplete passes) s = .next t ∧ (
    t.lnk = enqueue [.store (target s.store.commit) passes] s.lnk ∧
    t.feat.capture = some { c with state := .committing, offsets := none } ∧
    t.store.commit = .one (.calibration t.feat.cal) ∧
    StoredAfter s.store.stored s.store.commit passes t.store.stored ∧
    (∀ x ∈ allSections, flagOf t.store.valid x = (if x = target s.store.commit then passes else flagOf s.store.valid x)) ∧
    (∀ i : Seat, i ≠ c.seat → t.feat.cal.get i = s.feat.cal.get i) ∧
    (∀ n : Cell, (t.feat.cal.get c.seat).get n =
      (if (s.cmap.seats.get c.seat).fitted = true ∧ (s.cmap.seats.get c.seat).cells.getLsbD n.val = true then
        { z := BitVec.ofNat 10 (offsets.get n), g := ((s.feat.cal.get c.seat).get n).g, mark := true }
      else (s.feat.cal.get c.seat).get n)) ∧
    t = { s with store := t.store, feat := { s.feat with cal := t.feat.cal, capture := t.feat.capture }, lnk := t.lnk,
                 pins := { s.pins with attn := t.pins.attn } } ∧ t.store.switches = s.store.switches)) ∧
  (∀ (s : State) (passes : Bool),
    isOne s.store.commit = false →
    ∃ t, exec (.commitComplete passes) s = .next t ∧ t = s)

/-- While the six-section commit is in flight and no capture waits for the store, CLEAR_COMMIT_COMPLETE answers a
next state in which the store is idle, each flag is its section read-back, the map section is failing exactly
when it reads back failing and otherwise still holds content (the content held before, if it passed before),
each other section holds the image written when it reads back passing and fails otherwise, and six STORE notices
are posted in the order of the table: map OK when the section reads back failing, the others OK when they read
back passing. Nothing else changes but the counter of free values. When no six-section commit is in flight
nothing changes.
The model's choices: The content of a map section that failed before and reads back passing is free (assumption
log 13); that each read-back is an operand of the command, and the byte sum of the contents free, is log 14.
That a command whose timer, debounce or operation is not running has no effect is assumption log 6.
From spec/10_settings_store_and_protection.md 10.1 and 10.5. -/
def Obligations.ClearCommitCompletionReadsBackSixSections : Prop :=
  (∀ (s : State) (passes : BitVec 6) (c : ClearImages),
    s.store.commit = .clear c →
    s.feat.capture.all (fun x => decide (x.state ≠ .waitingStore)) = true →
    ∃ t, exec (.clearCommitComplete passes) s = .next t ∧ (
    t = { s with
      store := { s.store with stored := t.store.stored, valid := t.store.valid, commit := .idle }
      lnk := enqueue [.store .map (!passes.getLsbD 0), .store .profiles (passes.getLsbD 1),
        .store .reminder (passes.getLsbD 2), .store .timing (passes.getLsbD 3), .store .calibration (passes.getLsbD 4),
        .store .protection (passes.getLsbD 5)] s.lnk
      pins := { s.pins with attn := t.pins.attn }
      free := t.free } ∧
    t.store.valid = {
      map := passes.getLsbD 0, profiles := passes.getLsbD 1, reminder := passes.getLsbD 2
      timing := passes.getLsbD 3, calibration := passes.getLsbD 4, protection := passes.getLsbD 5 } ∧
    t.store.stored.map.isSome = passes.getLsbD 0 ∧
    (passes.getLsbD 0 = true → s.store.stored.map.isSome = true → t.store.stored.map = s.store.stored.map) ∧
    t.store.stored.profiles = (if passes.getLsbD 1 then some c.profiles else none) ∧
    t.store.stored.reminder = (if passes.getLsbD 2 then some (c.settings, c.tRetain) else none) ∧
    t.store.stored.timing = (if passes.getLsbD 3 then some c.timing else none) ∧
    t.store.stored.calibration = (if passes.getLsbD 4 then some c.cal else none) ∧
    t.store.stored.protection = (if passes.getLsbD 5 then some c.switches else none))) ∧
  (∀ (s : State) (passes : BitVec 6),
    isClear s.store.commit = false →
    ∃ t, exec (.clearCommitComplete passes) s = .next t ∧ t = s)

/-- For every state, IGN_LINE_CHANGE and DOOR_LINE_CHANGE answer a next state that differs only in the level of that
line and, once the full-reset load is over, in its debounce, which then runs exactly when the new level is
opposite to the ignition or door state; every other line and debounce is untouched.
From spec/08_ignition_doors_and_occupancy_retention.md 8.1; spec/10_settings_store_and_protection.md 10.2. -/
def Obligations.LineChangesRunOrCancelTheirOwnDebounce : Prop :=
  (∀ (s : State) (level : Bool),
    ∃ t, exec (.ignLineChange level) s = .next t ∧ (
    t = { s with
      pins := { s.pins with ign := level }
      ret := { s.ret with ignDebounce :=
        if s.store.loading then s.ret.ignDebounce else if s.ret.ignition = .on then !level else level } })) ∧
  (∀ (s : State) (level : Bool) (d : Door),
    ∃ t, exec (.doorLineChange d level) s = .next t ∧ (
    t = { s with
      pins := { s.pins with door := t.pins.door }
      ret := { s.ret with doorDebounce := t.ret.doorDebounce } } ∧
    ∀ e : Door,
      t.pins.door.get e = (if e = d then level else s.pins.door.get e) ∧
      t.ret.doorDebounce.get e =
        (if e = d ∧ s.store.loading = false then level != s.ret.doorOpen.get d else s.ret.doorDebounce.get e)))

/-- With ignition ON and its debounce running, IGNITION_OFF answers a next state with ignition OFF and no debounce.
With t_retain above 0 exactly the ACTIVE seats with a verdict other than UNKNOWN hold a snapshot of verdict,
buckle and budget, and the timer is loaded with t_retain if there is one; with t_retain 0 snapshots and timer
are as before. Every reminder is NONE with visual timer 0 and its budget kept, the start interval stopped and
the flag clear. SCAN goes from WAITING to STOPPED and keeps HALTED, STOPPED and PROBING; in PASS the timer is
stopped, the pass closing and the current frame cut short; a probe armed for timed passes is freed with report
IGNITION. A capture is closed unless COMMITTING; calibration and accumulator are kept. The Seat Table, the
handover slot, the map, the advisories, the store and the other settings are unchanged. Notices are only added;
with no capture open they are REMINDER NONE in seat order for each seat that changed, then CABIN if the demand
or a set was not empty.
The model's choices: The order of the notices of several blocks at one event is free (assumption log 10), so it
is stated only where one block posts. That the torn marker of a frame cut short during a conversion is formed
when the conversion completes is assumption log 15, that one formed at once carries the anchor levels told last
is log 4. Where a closing pass ends whose probe, accepted while it was closing, is FILLED or cancelled is
assumption log 27, and that only a probe accepted while closing goes on to PROBING is log 20. That a command
whose timer, debounce or operation is not running has no effect is assumption log 6.
From spec/08_ignition_doors_and_occupancy_retention.md 8.2 and 8.3; spec/02_mat_scanning.md 2.6 and 2.7;
spec/03_cell_correction_features_and_zero_capture.md 3.8; spec/06_belt_reminders.md 6.7. -/
def Obligations.IgnitionOffEventSnapshotsAndQuietsTheCabin : Prop :=
  (∀ (s : State),
    s.ret.ignDebounce = true →
    s.ret.ignition = .on →
    ∃ t, exec .ignitionOff s = .next t ∧ (
    t.ret = { s.ret with ignition := .off, ignDebounce := false, snapshots := t.ret.snapshots, timer := t.ret.timer } ∧
    (s.ret.tRetain = 0 → t.ret.snapshots = s.ret.snapshots ∧ t.ret.timer = s.ret.timer) ∧
    (s.ret.tRetain ≠ 0 →
      (∀ i : Seat, t.ret.snapshots.get i =
        (if (s.verd.seats.get i).lifecycle = .active ∧ (s.verd.seats.get i).confirmed ≠ .unknown then
          some { confirmed := (s.verd.seats.get i).confirmed, buckle := (s.verd.seats.get i).buckle,
                 budget := (s.rem.table.get i).budget }
        else none)) ∧
      t.ret.timer = (if ∃ i : Seat, (t.ret.snapshots.get i).isSome = true then some (10 * s.ret.tRetain) else none)) ∧
    (∀ i : Seat, t.rem.table.get i = { state := .none, visual := 0, budget := (s.rem.table.get i).budget }) ∧
    t.rem = { s.rem with startTimer := none, startElapsed := false, table := t.rem.table, summary := t.rem.summary } ∧
    (s.scan.state = .waiting → t.scan = { s.scan with
      state := .stopped, interval := none, closing := false, visited := [], step := none, rest := []
      probe := t.scan.probe }) ∧
    (s.scan.state ≠ .waiting → s.scan.state ≠ .pass → t.scan = { s.scan with probe := t.scan.probe }) ∧
    (s.scan.state ≠ .pass → t.feat.intake = s.feat.intake ∧
      t.scan.probe = (match s.scan.probe with | .armed _ .timed => .free (some .ignition) | q => q)) ∧
    (s.scan.state = .pass →
      t.scan = (cutNow { s with
        ret := t.ret
        scan := { s.scan with
          interval := none, closing := true
          probe := match s.scan.probe with | .armed _ .timed => .free (some .ignition) | q => q } }).scan ∧
      t.feat.intake = (cutNow { s with scan := { s.scan with closing := true } }).feat.intake) ∧
    t.feat.cal = s.feat.cal ∧ t.feat.acc = s.feat.acc ∧
    t.feat.capture = (if (s.feat.capture.map Capture.state) = some .committing then s.feat.capture else none) ∧
    s.lnk.notices <+: t.lnk.notices ∧
    (s.feat.capture = none → t.lnk = enqueue
      (((List.finRange 16).filter fun i : Seat => decide ((s.rem.table.get i).state ≠ .none)).map
          (fun i => Notice.reminder i .none) ++
        (if s.rem.summary.chime = false ∧ (∀ i : Seat, s.rem.summary.visual.get i = false) ∧
            (∀ i : Seat, s.rem.summary.child.get i = false) then []
          else [.cabin false (Tab.const 16 false) (Tab.const 16 false)])) s.lnk) ∧
    t = { s with scan := t.scan, feat := t.feat, rem := t.rem, ret := t.ret, lnk := t.lnk,
                 pins := { s.pins with attn := t.pins.attn }, free := t.free })) ∧
  (∀ (s : State),
    (s.ret.ignDebounce = false ∨ s.ret.ignition = .off) →
    ∃ t, exec .ignitionOff s = .next t ∧ t = s)

/-- With ignition OFF and its debounce running, IGNITION_ON answers a next state with ignition ON, no debounce, no
snapshot and no retention timer. A seat that is ACTIVE and holds a snapshot takes its verdict, with candidate,
history, evicted code, unstable flag, agree count, fault streak and latched-while-empty cleared and a fitted
buckle UNKNOWN; every other record is unchanged. The start interval is loaded with t_start, the flag cleared,
and settings, speed and freshness timer kept. Every budget is set, to that of the snapshot lowered to t_chime
for a resumed seat and to t_chime otherwise, and every reminder has then made the move of R110 to R114 into the
case of its seat, by the trigger as it stands after the event: from NONE to LATCHED with its budget restored, to
VISUAL with a full timer (or on) under the trigger, to ARMED, or to CHILD_UNSECURED. The added notices are
RETENTION RESUMED and RETENTION DISCARDED IGNITION, each only when its set is not empty, REMINDER of each seat
that changed in seat order, and CABIN for a changed summary; nothing else of LNK changes. SCAN goes from STOPPED
to WAITING with the timer loaded, its queue, gain, timing, probe and flags kept, and is otherwise unchanged. A
position whose mapped seat is not resumed is unchanged, and one whose mapped seat is resumed has the value of
its record; a changed value has driven its pair and filled the mailbox or superseded its record. Map, FEAT, slot
and store are unchanged.
The model's choices: That a command whose timer, debounce or operation is not running has no effect is
assumption log 6.
From spec/08_ignition_doors_and_occupancy_retention.md 8.2 and 8.5; spec/04_verdicts.md 4.9;
spec/06_belt_reminders.md 6.2 to 6.7 and 6.9; spec/02_mat_scanning.md 2.6; spec/07_restraint_advisory.md 7.2 to
7.4. -/
def Obligations.IgnitionOnEventResumesSnapshotsAndStartsTheTrip : Prop :=
  (∀ (s : State),
    s.ret.ignDebounce = true →
    s.ret.ignition = .off →
    ∃ t, exec .ignitionOn s = .next t ∧ (
    t.ret = { s.ret with ignition := .on, ignDebounce := false, snapshots := Tab.const 16 none, timer := none } ∧
    (∀ i : Seat, t.verd.seats.get i =
      (if (s.ret.snapshots.get i).isSome = true ∧ (s.verd.seats.get i).lifecycle = .active then
        { s.verd.seats.get i with
          confirmed := ((s.ret.snapshots.get i).map Snapshot.confirmed).getD .unknown
          candidate := none, candidateCount := 0, history := [], evicted := none, unstable := false
          buckle := if (s.cmap.seats.get i).fitted = true ∧ (s.cmap.seats.get i).buckle = true then .unknown
            else (s.verd.seats.get i).buckle
          agree := .zero, buckleStreak := 0, latchedEmpty := false }
      else s.verd.seats.get i)) ∧
    t.rem = { s.rem with
      startTimer := some (10 * s.rem.settings.tStart), startElapsed := false
      table := t.rem.table, summary := t.rem.summary } ∧ SummaryLaw t ∧
    (∀ i : Seat, t.rem.table.get i =
      movedTo t (caseOf (s.cmap.seats.get i) (t.verd.seats.get i))
        { s.rem.table.get i with budget := budgetAtOn s i }) ∧
    (∀ i : Seat, fitsCase (caseOf (s.cmap.seats.get i) (t.verd.seats.get i)) (t.rem.table.get i).state = true) ∧
    (∀ i : Seat, (s.rem.table.get i).state = .none → (t.rem.table.get i).budget =
      (if caseOf (s.cmap.seats.get i) (t.verd.seats.get i) = .belted then 10 * s.rem.settings.tChime
      else budgetAtOn s i)) ∧
    t.lnk = enqueue (retainedNotices s ++ remindersOf s t ++ cabinOf s t) s.lnk ∧
    (s.scan.state = .stopped → t.scan = { s.scan with
      state := .waiting
      interval := some (max 10000 (min 1000000 (s.scan.timing.p * s.scan.timing.d)))
      closing := false, visited := [], step := none, rest := [] }) ∧
    (s.scan.state ≠ .stopped → t.scan = s.scan) ∧
    (∀ p : Pos, (t.adv.positions.get p).seat = (s.adv.positions.get p).seat ∧
      ((s.adv.positions.get p).seat.any (fun i => (s.ret.snapshots.get i).isSome &&
          decide ((s.verd.seats.get i).lifecycle = .active)) = false →
        t.adv.positions.get p = s.adv.positions.get p ∧ t.pins.sup.get p = s.pins.sup.get p) ∧
      ∀ i : Seat, (s.adv.positions.get p).seat = some i → (s.ret.snapshots.get i).isSome = true →
        (s.verd.seats.get i).lifecycle = .active → (t.adv.positions.get p).value =
          (if (t.verd.seats.get i).confirmed = .adult then .enable else .suppress)) ∧
    PositionsReported s t ∧
    t = { s with verd := { s.verd with seats := t.verd.seats }, rem := t.rem, ret := t.ret, adv := t.adv, lnk := t.lnk,
                 scan := t.scan, pins := { s.pins with attn := t.pins.attn, sup := t.pins.sup } })) ∧
  (∀ (s : State),
    (s.ret.ignDebounce = false ∨ s.ret.ignition = .on) →
    ∃ t, exec .ignitionOn s = .next t ∧ t = s)

/-- With the debounce of a door running, DOOR_OPEN of a CLOSED door and DOOR_CLOSED of an OPEN door answer a next
state in which that door alone has its new state and no debounce, and the motion hold flag of every seat is that
of R76. An opening with ignition OFF discards the snapshots of the seats whose row names the door, keeps the
others, stops the timer when none is left, and posts one RETENTION DISCARDED DOOR naming exactly the discarded
seats, or none. In every other case snapshots, timer and notices are unchanged. Nothing else changes.
From spec/08_ignition_doors_and_occupancy_retention.md 8.1 and 8.4; spec/04_verdicts.md 4.6. -/
def Obligations.DoorEventsEvaluateMotionHoldAndDiscardSnapshots : Prop :=
  (∀ (s : State) (d : Door),
    s.ret.doorDebounce.get d = true →
    s.ret.doorOpen.get d = false →
    s.ret.ignition = .off →
    ∃ t, exec (.doorOpen d) s = .next t ∧ (
    HoldEvaluated s t ∧
    (∀ e : Door, t.ret.doorOpen.get e = (if e = d then true else s.ret.doorOpen.get e) ∧
      t.ret.doorDebounce.get e = (if e = d then false else s.ret.doorDebounce.get e)) ∧
    (∀ i : Seat, t.ret.snapshots.get i =
      (if (s.cmap.rows.get (s.cmap.seats.get i).rowIx).doors.getLsbD d.val = true then none else s.ret.snapshots.get i)) ∧
    t.ret.timer = (if ∃ i : Seat, (t.ret.snapshots.get i).isSome = true then s.ret.timer else none) ∧
    t.lnk = enqueue (discardNotice (.door d) s t) s.lnk ∧
    t = { s with
      verd := { s.verd with seats := t.verd.seats }
      ret := { s.ret with
        doorOpen := t.ret.doorOpen, doorDebounce := t.ret.doorDebounce, snapshots := t.ret.snapshots, timer := t.ret.timer }
      lnk := t.lnk, pins := { s.pins with attn := t.pins.attn } })) ∧
  (∀ (s : State) (d : Door),
    s.ret.doorDebounce.get d = true →
    s.ret.doorOpen.get d = false →
    s.ret.ignition = .on →
    ∃ t, exec (.doorOpen d) s = .next t ∧ (
    HoldEvaluated s t ∧
    (∀ e : Door, t.ret.doorOpen.get e = (if e = d then true else s.ret.doorOpen.get e) ∧
      t.ret.doorDebounce.get e = (if e = d then false else s.ret.doorDebounce.get e)) ∧
    t = { s with
      verd := { s.verd with seats := t.verd.seats }
      ret := { s.ret with
        doorOpen := t.ret.doorOpen, doorDebounce := t.ret.doorDebounce } })) ∧
  (∀ (s : State) (d : Door),
    s.ret.doorDebounce.get d = true →
    s.ret.doorOpen.get d = true →
    ∃ t, exec (.doorClosed d) s = .next t ∧ (
    HoldEvaluated s t ∧
    (∀ e : Door, t.ret.doorOpen.get e = (if e = d then false else s.ret.doorOpen.get e) ∧
      t.ret.doorDebounce.get e = (if e = d then false else s.ret.doorDebounce.get e)) ∧
    t = { s with
      verd := { s.verd with seats := t.verd.seats }
      ret := { s.ret with
        doorOpen := t.ret.doorOpen, doorDebounce := t.ret.doorDebounce } }))

/-- With one step of the retention timer left, RETENTION_TIMER_EXPIRY answers a next state with no snapshot and the
timer stopped, and posts RETENTION DISCARDED TIMER naming exactly the seats that held one, or nothing if none
did; while the timer is stopped or has two steps or more to count the command changes nothing. Nothing else
changes.
The model's choices: That the command is the last step of the count is assumption log 5. That a command whose
timer, debounce or operation is not running has no effect is assumption log 6.
From spec/08_ignition_doors_and_occupancy_retention.md 8.3 and 8.4. -/
def Obligations.RetentionTimerExpiryDiscardsEverySnapshot : Prop :=
  (∀ (s : State),
    s.ret.timer.any (fun n => decide (n ≤ 1)) = true →
    ∃ t, exec .retentionTimerExpiry s = .next t ∧ (
    t = { s with
      ret := { s.ret with snapshots := t.ret.snapshots, timer := none }
      lnk := enqueue (discardNotice .timer s t) s.lnk
      pins := { s.pins with attn := t.pins.attn } } ∧
    ∀ i : Seat, t.ret.snapshots.get i = none)) ∧
  (∀ (s : State),
    s.ret.timer.any (fun n => decide (n ≤ 1)) = false →
    ∃ t, exec .retentionTimerExpiry s = .next t ∧ t = s)

/-- For every state, ROWP_LINE_CHANGE answers a next state that differs only in the level of that line and in row
debounces: in a valid map the debounce of each removable row on that line runs exactly when the level is active
and the row not INSTALLED, or inactive and INSTALLED; every other debounce is unchanged.
From spec/01_cabin_map_and_seat_lifecycle.md 1.7. -/
def Obligations.RowLineChangeRunsOrCancelsTheDebounceOfItsRow : Prop :=
  (∀ (s : State) (line : Line) (level : Bool),
    ∃ t, exec (.rowpLineChange line level) s = .next t ∧ (
    t = { s with pins := { s.pins with rowp := t.pins.rowp }, cmap := { s.cmap with rowDebounce := t.cmap.rowDebounce } } ∧
    (∀ l : Line, t.pins.rowp.get l = (if l = line then level else s.pins.rowp.get l)) ∧
    ∀ r : Row, t.cmap.rowDebounce.get r =
      (if s.cmap.valid = true ∧ (s.cmap.rows.get r).removable = true ∧ (s.cmap.rows.get r).presence.toNat = line.val then
        (if s.cmap.rowState.get r = .installed then !level else level)
      else s.cmap.rowDebounce.get r)))

/-- In a valid map, with the debounce of a REMOVED row running, ROW_INSTALLED answers a next state in which that row
alone is INSTALLED with no debounce, exactly the fitted seats of the row hold fresh records with lifecycle
ACTIVE, their visual timers are 0 and their budgets t_chime, and with ignition ON a presumed one with its buckle
fitted is ARMED and the others NONE; with ignition OFF no reminder state changes. The added notices are ROW,
REMINDER of each seat that changed in seat order, and CABIN for a changed summary, which is re-derived. Records
and reminders of all other seats, SCAN, FEAT, the slot, ADV, RET and STORE are unchanged. Otherwise the command
changes nothing.
The model's choices: That a command whose timer, debounce or operation is not running has no effect is
assumption log 6.
From spec/01_cabin_map_and_seat_lifecycle.md 1.7 and 1.8; spec/06_belt_reminders.md 6.4, 6.8 and 6.9. -/
def Obligations.RowInstallationMakesItsSeatsActiveAndFresh : Prop :=
  (∀ (s : State) (r : Row),
    s.cmap.valid = true →
    s.cmap.rowDebounce.get r = true →
    s.cmap.rowState.get r = .removed →
    ∃ t, exec (.rowInstalled r) s = .next t ∧ (
    (∀ q : Row, t.cmap.rowState.get q = (if q = r then .installed else s.cmap.rowState.get q) ∧
      t.cmap.rowDebounce.get q = (if q = r then false else s.cmap.rowDebounce.get q)) ∧
    (∀ i : Seat,
      if (s.cmap.seats.get i).fitted = true ∧ (s.cmap.seats.get i).rowIx = r then
        (t.verd.seats.get i).lifecycle = .active ∧ IsFresh (s.cmap.seats.get i) (t.verd.seats.get i) ∧
        (t.rem.table.get i).visual = 0 ∧ (t.rem.table.get i).budget = 10 * s.rem.settings.tChime ∧
        (t.rem.table.get i).state =
          (if s.ret.ignition = .off then (s.rem.table.get i).state
          else if (s.cmap.seats.get i).presume = true ∧ (s.cmap.seats.get i).buckle = true then .armed else .none)
      else t.verd.seats.get i = s.verd.seats.get i ∧ t.rem.table.get i = s.rem.table.get i) ∧
    t.lnk = enqueue (.row r .installed :: (remindersOf s t ++ cabinOf s t)) s.lnk ∧ SummaryLaw t ∧
    t = { s with
      cmap := { s.cmap with rowState := t.cmap.rowState, rowDebounce := t.cmap.rowDebounce }
      verd := { s.verd with seats := t.verd.seats }
      rem := { s.rem with table := t.rem.table, summary := t.rem.summary }
      lnk := t.lnk
      pins := { s.pins with attn := t.pins.attn } })) ∧
  (∀ (s : State) (r : Row),
    (s.cmap.valid = false ∨ s.cmap.rowDebounce.get r = false ∨ s.cmap.rowState.get r ≠ .removed) →
    ∃ t, exec (.rowInstalled r) s = .next t ∧ t = s)

/-- In a valid map, with the debounce of an INSTALLED row running, ROW_REMOVED answers a next state in which that
row alone is REMOVED with no debounce; exactly the fitted seats of the row hold fresh records with lifecycle
ABSENT, reminder NONE, visual timer 0, budget t_chime and no snapshot; the row leaves the rest of the pass, a
probe ARMED or FILLED for a seat of the row is freed with report ROW, and the current frame is cut short when it
is of the row, FEAT taking an entry thereby pushed when it is IDLE, SCAN and the intake being otherwise
unchanged; a capture on a seat of the row is closed unless COMMITTING and any other is kept; the retention timer
stops when no snapshot is left. The ROW notice stands first among the added ones. Records, reminders and
snapshots of other seats, the settings, the slot, ADV and STORE are unchanged. Otherwise the command changes
nothing.
The model's choices: The order of the notices of several blocks is free (assumption log 10); a cut during a
conversion is assumption log 15, and the anchor level of a marker formed at once log 4. Where a closing pass
ends whose probe, accepted while it was closing, is FILLED or cancelled is assumption log 27, and that only a
probe accepted while closing goes on to PROBING is log 20. That a command whose timer, debounce or operation is
not running has no effect is assumption log 6.
From spec/01_cabin_map_and_seat_lifecycle.md 1.7 and 1.8; spec/02_mat_scanning.md 2.6 and 2.7;
spec/03_cell_correction_features_and_zero_capture.md 3.8; spec/06_belt_reminders.md 6.8;
spec/08_ignition_doors_and_occupancy_retention.md 8.4. -/
def Obligations.RowRemovalMakesItsSeatsAbsentEverywhere : Prop :=
  (∀ (s : State) (r : Row),
    s.cmap.valid = true →
    s.cmap.rowDebounce.get r = true →
    s.cmap.rowState.get r = .installed →
    ∃ t, exec (.rowRemoved r) s = .next t ∧ (
    (∀ q : Row, t.cmap.rowState.get q = (if q = r then .removed else s.cmap.rowState.get q) ∧
      t.cmap.rowDebounce.get q = (if q = r then false else s.cmap.rowDebounce.get q)) ∧
    (∀ i : Seat,
      if (s.cmap.seats.get i).fitted = true ∧ (s.cmap.seats.get i).rowIx = r then
        (t.verd.seats.get i).lifecycle = .absent ∧ IsFresh (s.cmap.seats.get i) (t.verd.seats.get i) ∧
        t.rem.table.get i = { state := .none, visual := 0, budget := 10 * s.rem.settings.tChime } ∧
        t.ret.snapshots.get i = none
      else t.verd.seats.get i = s.verd.seats.get i ∧ t.rem.table.get i = s.rem.table.get i ∧
        t.ret.snapshots.get i = s.ret.snapshots.get i) ∧
    t.scan =
      (let gone : Seat → Bool := fun i => (s.cmap.seats.get i).fitted && decide ((s.cmap.seats.get i).rowIx = r)
      let u : State := { s with scan := { s.scan with
        rest := s.scan.rest.filter fun i => !gone i
        probe := if s.scan.probe.seat.any gone = true then .free (some .row) else s.scan.probe } }
      if s.scan.step.any (fun st => gone st.seat) = true then (cutNow u).scan else u.scan) ∧
    t.feat.intake =
      (if s.scan.step.any (fun st => (s.cmap.seats.get st.seat).fitted && decide ((s.cmap.seats.get st.seat).rowIx = r)) = true
        then (cutNow s).feat.intake else s.feat.intake) ∧
    t.feat.capture =
      (if s.feat.capture.any (fun c => (s.cmap.seats.get c.seat).fitted &&
          decide ((s.cmap.seats.get c.seat).rowIx = r) && decide (c.state ≠ .committing)) = true
        then none else s.feat.capture) ∧
    t.feat.cal = s.feat.cal ∧ t.feat.acc = s.feat.acc ∧
    t.ret.timer = (if ∃ i : Seat, (t.ret.snapshots.get i).isSome = true then s.ret.timer else none) ∧
    (enqueue [.row r .removed] s.lnk).notices <+: t.lnk.notices ∧
    t = { s with
      cmap := { s.cmap with rowState := t.cmap.rowState, rowDebounce := t.cmap.rowDebounce }
      scan := t.scan, feat := t.feat
      verd := { s.verd with seats := t.verd.seats }
      rem := { s.rem with table := t.rem.table, summary := t.rem.summary }
      ret := { s.ret with snapshots := t.ret.snapshots, timer := t.ret.timer }
      lnk := { s.lnk with notices := t.lnk.notices, overflow := t.lnk.overflow }
      pins := { s.pins with attn := t.pins.attn }, free := t.free })) ∧
  (∀ (s : State) (r : Row),
    (s.cmap.valid = false ∨ s.cmap.rowDebounce.get r = false ∨ s.cmap.rowState.get r ≠ .installed) →
    ∃ t, exec (.rowRemoved r) s = .next t ∧ t = s)

/-- While the interval timer runs, INTERVAL_EXPIRY answers a next state with the timer loaded with the effective
interval. In WAITING, with i the lowest ACTIVE or FAULTED seat, a timed pass starts: SCAN is in PASS, the rest
of its list is the higher such seats in order, and the seat step of i begins with the gain of its record, its
channels to convert and a settle wait. In WAITING with no such seat nothing else changes. In PASS the overrun
flag is set and nothing else changes. While the timer is stopped the command changes nothing.
The model's choices: That a command whose timer, debounce or operation is not running has no effect is
assumption log 6.
From spec/02_mat_scanning.md 2.2 and 2.3. -/
def Obligations.IntervalExpiryStartsAPassOrCountsAnOverrun : Prop :=
  (∀ (s : State) (i : Seat),
    s.scan.interval.isSome = true →
    s.scan.state = .waiting →
    ((s.verd.seats.get i).lifecycle = .active ∨ (s.verd.seats.get i).lifecycle = .faulted) →
    (∀ j : Seat, j < i → (s.verd.seats.get j).lifecycle ≠ .active ∧ (s.verd.seats.get j).lifecycle ≠ .faulted) →
    ∃ t, exec .intervalExpiry s = .next t ∧ (
    t = { s with scan := { s.scan with
      interval := some (max 10000 (min 1000000 (s.scan.timing.p * s.scan.timing.d)))
      state := .pass, visited := []
      rest := (List.finRange 16).filter fun j : Seat => decide (i < j) &&
        (decide ((s.verd.seats.get j).lifecycle = .active) || decide ((s.verd.seats.get j).lifecycle = .faulted))
      gain := (s.cmap.seats.get i).gainOf
      step := some (stepAt s i) } })) ∧
  (∀ (s : State),
    s.scan.interval.isSome = true →
    s.scan.state = .waiting →
    (∀ j : Seat, (s.verd.seats.get j).lifecycle ≠ .active ∧ (s.verd.seats.get j).lifecycle ≠ .faulted) →
    ∃ t, exec .intervalExpiry s = .next t ∧ (
    t = { s with scan := { s.scan with
      interval := some (max 10000 (min 1000000 (s.scan.timing.p * s.scan.timing.d))) } })) ∧
  (∀ (s : State),
    s.scan.interval.isSome = true →
    s.scan.state = .pass →
    ∃ t, exec .intervalExpiry s = .next t ∧ (
    t = { s with scan := { s.scan with
      interval := some (max 10000 (min 1000000 (s.scan.timing.p * s.scan.timing.d))), overrun := true } })) ∧
  (∀ (s : State),
    s.scan.interval = none →
    ∃ t, exec .intervalExpiry s = .next t ∧ t = s)

/-- When the seat step is at its settle wait, SETTLE_END answers a next state in which the next conversion is in
flight and nothing else has changed, or, when no channel is left to convert, the marker is formed: pushed when
the queue holds fewer than 64 entries, SCAN going on, else waiting in MARK. When no settle wait is in flight
nothing changes.
The model's choices: That the marker carries the anchor levels told last is assumption log 4. Where a closing
pass ends whose probe, accepted while it was closing, is FILLED or cancelled is assumption log 27, and that only
a probe accepted while closing goes on to PROBING is log 20. That a command whose timer, debounce or operation
is not running has no effect is assumption log 6.
From spec/02_mat_scanning.md 2.3 and 2.4. -/
def Obligations.SettleEndBeginsTheConversionOrFormsTheMarker : Prop :=
  (∀ (s : State) (st : SeatStep) (w : Nat) (ch : Channel) (more : List Channel),
    s.scan.step = some st →
    st.phase = .settle w →
    st.todo = ch :: more →
    ∃ t, exec .settleEnd s = .next t ∧ (
    t = { s with scan := { s.scan with step := some { st with phase := .convert } } })) ∧
  (∀ (s : State) (st : SeatStep) (w : Nat),
    s.scan.step = some st →
    st.phase = .settle w →
    st.todo = [] →
    ∃ t, exec .settleEnd s = .next t ∧ t = marked st s) ∧
  (∀ (s : State),
    s.scan.step.all (fun x => match x.phase with | .settle _ => false | _ => true) = true →
    ∃ t, exec .settleEnd s = .next t ∧ t = s)

/-- While a conversion is in flight, CONVERSION_COMPLETE answers a next state in which the anchor levels are those
given. In a frame that is not cut short the sample stands at the tail of the queue when it held fewer than 64
entries, and is lost, the frame torn, when it held 64. With a channel left, the next conversion is in flight at
once, except that before a tension or buckle channel at a gain other than x1 the gain becomes x1 and a fresh
settle wait begins. With none left the marker is formed. In a frame cut short the sample is discarded and the
marker formed. When no conversion is in flight nothing changes.
The model's choices: That the operand tells the anchor levels is assumption log 4, that a frame cut short forms
its marker when the conversion completes is log 15. Where a closing pass ends whose probe, accepted while it was
closing, is FILLED or cancelled is assumption log 27, and that only a probe accepted while closing goes on to
PROBING is log 20. That a command whose timer, debounce or operation is not running has no effect is assumption
log 6.
From spec/02_mat_scanning.md 2.3, 2.4 and 2.6. -/
def Obligations.ConversionCompletePushesOrLosesItsSample : Prop :=
  (∀ (s : State) (st : SeatStep) (raw : BitVec 12) (anch : BitVec 8) (ch : Channel) (next : Channel) (more : List Channel),
    s.scan.step = some st →
    st.phase = .convert →
    st.cut = false →
    st.todo = ch :: next :: more →
    (s.scan.gain = .x1 ∨ (∃ n : Cell, next = .cell n)) →
    ∃ t, exec (.conversionComplete raw anch) s = .next t ∧ (
    t = { sampled st ch raw { s with pins := { s.pins with anch := anch } } with
      scan := { (sampled st ch raw { s with pins := { s.pins with anch := anch } }).scan with
        step := some { st with todo := next :: more, lost := st.lost || decide (64 ≤ s.scan.queue.length), phase := .convert } } })) ∧
  (∀ (s : State) (st : SeatStep) (raw : BitVec 12) (anch : BitVec 8) (ch : Channel) (next : Channel) (more : List Channel),
    s.scan.step = some st →
    st.phase = .convert →
    st.cut = false →
    st.todo = ch :: next :: more →
    s.scan.gain ≠ .x1 →
    (next = .tension ∨ next = .buckle) →
    ∃ t, exec (.conversionComplete raw anch) s = .next t ∧ (
    t = { sampled st ch raw { s with pins := { s.pins with anch := anch } } with
      scan := { (sampled st ch raw { s with pins := { s.pins with anch := anch } }).scan with
        gain := .x1
        step := some { st with todo := next :: more, lost := st.lost || decide (64 ≤ s.scan.queue.length),
                               phase := .settle s.scan.timing.settle } } })) ∧
  (∀ (s : State) (st : SeatStep) (raw : BitVec 12) (anch : BitVec 8) (ch : Channel),
    s.scan.step = some st →
    st.phase = .convert →
    st.cut = false →
    st.todo = [ch] →
    ∃ t, exec (.conversionComplete raw anch) s = .next t ∧ (
    t = marked { st with todo := [], lost := st.lost || decide (64 ≤ s.scan.queue.length) }
      (sampled st ch raw { s with pins := { s.pins with anch := anch } }))) ∧
  (∀ (s : State) (st : SeatStep) (raw : BitVec 12) (anch : BitVec 8) (ch : Channel) (rest : List Channel),
    s.scan.step = some st →
    st.phase = .convert →
    st.cut = true →
    st.todo = ch :: rest →
    ∃ t, exec (.conversionComplete raw anch) s = .next t ∧     t = marked st { s with pins := { s.pins with anch := anch } }) ∧
  (∀ (s : State) (raw : BitVec 12) (anch : BitVec 8),
    s.scan.step.all (fun x => decide (x.phase ≠ .convert)) = true →
    ∃ t, exec (.conversionComplete raw anch) s = .next t ∧ t = s)

/-- When a marker m waits in MARK and the queue holds fewer than 64 entries, MARKER_PUSHED answers a next state in
which m has been pushed unchanged and SCAN goes on: to the next seat of the list, to WAITING at the end of a
pass, from a closing pass to PROBING, WAITING or STOPPED, and from a probe pass to another probe pass or to
WAITING or STOPPED. When the queue still holds 64, or no marker waits, nothing changes.
The model's choices: Where a closing pass ends whose probe, accepted while it was closing, is FILLED or
cancelled is assumption log 27, and that only a probe accepted while closing goes on to PROBING is log 20. That
a command whose timer, debounce or operation is not running has no effect is assumption log 6.
From spec/02_mat_scanning.md 2.3, 2.4, 2.6 and 2.7. -/
def Obligations.MarkerPushedWaitsForRoomAndThenGoesOn : Prop :=
  (∀ (s : State) (st : SeatStep) (m : Marker),
    s.scan.step = some st →
    st.phase = .mark m →
    s.scan.queue.length < 64 →
    ∃ t, exec .markerPushed s = .next t ∧ t = markerIn st m s) ∧
  (∀ (s : State) (st : SeatStep) (m : Marker),
    s.scan.step = some st →
    st.phase = .mark m →
    64 ≤ s.scan.queue.length →
    ∃ t, exec .markerPushed s = .next t ∧ t = s) ∧
  (∀ (s : State),
    s.scan.step.all (fun x => match x.phase with | .mark _ => false | _ => true) = true →
    ∃ t, exec .markerPushed s = .next t ∧ t = s)

/-- While an entry operation is in flight, ENTRY_COMPLETE answers a next state in which the entry has met the frame
of its seat, a new one when the accumulator is empty or holds another seat (which sets the torn-frame flag). A
fitted channel without a reading in a COLLECTING frame is recorded: a cell with p = min 4095 (max(0, r - Z) * G
/ 256), Z and G those of the entry or 300 and 256 when its mark is clear, open when r < 32, raising SATURATED
when the value exceeds 4095 or r = 4095 and UNCALIBRATED when unmarked; a tension with T = r / 16, invalid when
r < 32 or r = 4095; a buckle with its band. An entry for a channel already read or not fitted leaves the frame
TORN with its readings, and a TORN frame drops the entry. FEAT then looks at the new head of the queue. Nothing
else changes. Without an entry operation nothing changes.
The model's choices: That a command whose timer, debounce or operation is not running has no effect is
assumption log 6.
From spec/03_cell_correction_features_and_zero_capture.md 3.1 and 3.3;
spec/03_cell_correction_features_and_zero_capture.md 3.4. -/
def Obligations.EntryCompletionRecordsOrTearsTheFrame : Prop :=
  (∀ (s : State) (e : Sample) (c : CellCal) (n : Cell),
    s.feat.intake = .entry e c →
    (frameFor s.feat.acc e.seat).torn = false →
    readingOf (frameFor s.feat.acc e.seat) e.channel = false →
    fits (s.cmap.seats.get e.seat) e.channel = true →
    e.channel = .cell n →
    c.mark = true →
    ∃ t, exec .entryComplete s = .next t ∧ (
    t = { s with
      feat := { s.feat with intake := (looked s s.scan.queue).1, acc := t.feat.acc }
      scan := { s.scan with queue := (looked s s.scan.queue).2,
                            tornFlag := s.scan.tornFlag || holdsOther s.feat.acc e.seat } } ∧
    t.feat.acc = some { frameFor s.feat.acc e.seat with
      cells := (frameFor s.feat.acc e.seat).cells.set n (some
        { raw := e.raw, p := min 4095 ((e.raw.toNat - c.z.toNat) * c.g.toNat / 256), isOpen := decide (e.raw.toNat < 32) })
      saturated := (frameFor s.feat.acc e.seat).saturated ||
        decide (4095 < (e.raw.toNat - c.z.toNat) * c.g.toNat / 256 ∨ e.raw.toNat = 4095) })) ∧
  (∀ (s : State) (e : Sample) (c : CellCal) (n : Cell),
    s.feat.intake = .entry e c →
    (frameFor s.feat.acc e.seat).torn = false →
    readingOf (frameFor s.feat.acc e.seat) e.channel = false →
    fits (s.cmap.seats.get e.seat) e.channel = true →
    e.channel = .cell n →
    c.mark = false →
    ∃ t, exec .entryComplete s = .next t ∧ (
    t = { s with
      feat := { s.feat with intake := (looked s s.scan.queue).1, acc := t.feat.acc }
      scan := { s.scan with queue := (looked s s.scan.queue).2,
                            tornFlag := s.scan.tornFlag || holdsOther s.feat.acc e.seat } } ∧
    t.feat.acc = some { frameFor s.feat.acc e.seat with
      cells := (frameFor s.feat.acc e.seat).cells.set n (some
        { raw := e.raw, p := min 4095 (e.raw.toNat - 300), isOpen := decide (e.raw.toNat < 32) })
      saturated := (frameFor s.feat.acc e.seat).saturated || decide (e.raw.toNat = 4095)
      uncalibrated := true })) ∧
  (∀ (s : State) (e : Sample) (c : CellCal),
    s.feat.intake = .entry e c →
    (frameFor s.feat.acc e.seat).torn = false →
    readingOf (frameFor s.feat.acc e.seat) e.channel = false →
    fits (s.cmap.seats.get e.seat) e.channel = true →
    e.channel = .tension →
    ∃ t, exec .entryComplete s = .next t ∧ (
    t = { s with
      feat := { s.feat with intake := (looked s s.scan.queue).1, acc := t.feat.acc }
      scan := { s.scan with queue := (looked s s.scan.queue).2,
                            tornFlag := s.scan.tornFlag || holdsOther s.feat.acc e.seat } } ∧
    t.feat.acc = some { frameFor s.feat.acc e.seat with
      tension := some { raw := e.raw, t := e.raw.toNat / 16, valid := decide (32 ≤ e.raw.toNat ∧ e.raw.toNat ≠ 4095) } })) ∧
  (∀ (s : State) (e : Sample) (c : CellCal),
    s.feat.intake = .entry e c →
    (frameFor s.feat.acc e.seat).torn = false →
    readingOf (frameFor s.feat.acc e.seat) e.channel = false →
    fits (s.cmap.seats.get e.seat) e.channel = true →
    e.channel = .buckle →
    ∃ t, exec .entryComplete s = .next t ∧ (
    t = { s with
      feat := { s.feat with intake := (looked s s.scan.queue).1, acc := t.feat.acc }
      scan := { s.scan with queue := (looked s s.scan.queue).2,
                            tornFlag := s.scan.tornFlag || holdsOther s.feat.acc e.seat } } ∧
    t.feat.acc = some { frameFor s.feat.acc e.seat with
      buckle := some (e.raw, if e.raw.toNat ≤ 299 then .openCircuit else if e.raw.toNat ≤ 1599 then .unlatched
        else if e.raw.toNat ≤ 2999 then .latched else .short) })) ∧
  (∀ (s : State) (e : Sample) (c : CellCal),
    s.feat.intake = .entry e c →
    ((frameFor s.feat.acc e.seat).torn = true ∨ readingOf (frameFor s.feat.acc e.seat) e.channel = true ∨ fits (s.cmap.seats.get e.seat) e.channel = false) →
    ∃ t, exec .entryComplete s = .next t ∧ (
    t = { s with
      feat := { s.feat with intake := (looked s s.scan.queue).1, acc := t.feat.acc }
      scan := { s.scan with queue := (looked s s.scan.queue).2,
                            tornFlag := s.scan.tornFlag || holdsOther s.feat.acc e.seat } } ∧
    t.feat.acc = some { frameFor s.feat.acc e.seat with torn := true })) ∧
  (∀ (s : State),
    (s.feat.intake = .idle ∨ s.feat.intake = .blocked) →
    ∃ t, exec .entryComplete s = .next t ∧ t = s)

/-- With FEAT BLOCKED and the handover slot empty, BLOCKED_MARKER_TAKE answers a next state in which FEAT has taken
the head of the queue (a marker at the head leaves it and its finishing begins) and nothing else has changed;
with the slot full, or FEAT not BLOCKED, nothing changes. While a finishing is in flight for a frame that is
torn by its marker or its accumulator, missing, of another seat or lacking a reading of a fitted channel,
FRAME_FINISH answers a next state in which the accumulator is empty, the torn-frame flag is set, FEAT has looked
at the new head, and nothing else has changed: no probe, no capture, no handover. When no finishing is in flight
nothing changes.
The model's choices: That a command whose timer, debounce or operation is not running has no effect is
assumption log 6.
From spec/03_cell_correction_features_and_zero_capture.md 3.2. -/
def Obligations.BlockedMarkersAndTornFrames : Prop :=
  (∀ (s : State),
    s.feat.intake = .blocked →
    s.verd.slot = none →
    ∃ t, exec .blockedMarkerTake s = .next t ∧ (
    t = { s with feat := { s.feat with intake := (looked s s.scan.queue).1 }, scan := { s.scan with queue := (looked s s.scan.queue).2 } })) ∧
  (∀ (s : State),
    (s.feat.intake ≠ .blocked ∨ s.verd.slot.isSome = true) →
    ∃ t, exec .blockedMarkerTake s = .next t ∧ t = s) ∧
  (∀ (s : State) (mk : Marker) (bp : Bool) (bc : Bool),
    s.feat.intake = .finishing mk bp bc →
    tornAt s mk = true →
    ∃ t, exec .frameFinish s = .next t ∧ (
    t = { s with
      feat := { s.feat with intake := (looked s s.scan.queue).1, acc := none }
      scan := { s.scan with queue := (looked s s.scan.queue).2, tornFlag := true } })) ∧
  (∀ (s : State),
    (s.feat.intake = .idle ∨ s.feat.intake = .blocked) →
    ∃ t, exec .frameFinish s = .next t ∧ t = s)

/-- While a finishing is in flight for a complete frame, FRAME_FINISH answers a next state in which a marker without
the probe-only mark puts into the handover slot the frame with C, L, M, S, tension, band, anchor level and
condition set by the arithmetic of chapter 3 over the fitted cells and the profile in force; a probe-only marker
leaves the slot; a probe ARMED for the seat becomes FILLED with the readings and the same features, except one
armed for timed passes after the marker was taken, and any other probe slot is unchanged; and, when no open
capture counts the frame, the accumulator is empty, FEAT has looked at the new head with the slot as it then is,
and nothing else changes.
The model's choices: Codes of a record that stand out of range read as the first of their table (assumption log
21); which frames fill a probe armed for timed passes is log 24.
From spec/03_cell_correction_features_and_zero_capture.md 3.2 and 3.4; spec/02_mat_scanning.md 2.7. -/
def Obligations.CompleteFramesReachTheSlotAndTheProbe : Prop :=
  (∀ (s : State) (mk : Marker) (a : Accumulator) (bp : Bool) (bc : Bool),
    s.feat.intake = .finishing mk bp bc →
    s.feat.acc = some a →
    tornAt s mk = false →
    ∃ t, exec .frameFinish s = .next t ∧ (
    (mk.probeOnly = true → t.verd.slot = s.verd.slot) ∧
    (mk.probeOnly = false → t.verd.slot = some
      { seat := mk.seat, contacts := contactsAt (s.cmap.seats.get mk.seat) (profileAt s mk.seat) a, load := loadAt (s.cmap.seats.get mk.seat) a
        mass := min 255 (loadAt (s.cmap.seats.get mk.seat) a * (profileAt s mk.seat).k.toNat / 4096), rail := railAt (s.cmap.seats.get mk.seat) a
        tension := a.tension.map fun x => (x.t, x.valid), band := a.buckle.map fun x => x.2, anchor := mk.anchor
        conditions := conditionsAt (s.cmap.seats.get mk.seat) (profileAt s mk.seat) a }) ∧
    t.scan.probe =
      (match s.scan.probe with
        | .armed i how =>
            if i = mk.seat ∧ ¬ (how = .timed ∧ bp = true) then .filled
              { seat := mk.seat, fromProbePass := mk.probeOnly
                cells := (cellsOf (s.cmap.seats.get mk.seat)).filterMap fun n => (a.cells.get n).map fun x => { cell := n, raw := x.raw, p := x.p }
                tension := a.tension.map fun x => (x.raw, x.t), buckle := a.buckle
                load := loadAt (s.cmap.seats.get mk.seat) a, mass := min 255 (loadAt (s.cmap.seats.get mk.seat) a * (profileAt s mk.seat).k.toNat / 4096)
                contacts := contactsAt (s.cmap.seats.get mk.seat) (profileAt s mk.seat) a, rail := railAt (s.cmap.seats.get mk.seat) a
                conditions := conditionsAt (s.cmap.seats.get mk.seat) (profileAt s mk.seat) a }
            else .armed i how
        | .free report => .free report
        | .filled b => .filled b))) ∧
  (∀ (s : State) (mk : Marker) (a : Accumulator) (bp : Bool) (bc : Bool),
    s.feat.intake = .finishing mk bp bc →
    s.feat.acc = some a →
    tornAt s mk = false →
    counts s mk bc = false →
    ∃ t, exec .frameFinish s = .next t ∧ (
    t = { s with
      feat := { s.feat with intake := (looked t s.scan.queue).1, acc := none }
      scan := { s.scan with queue := (looked t s.scan.queue).2, probe := t.scan.probe }
      verd := { s.verd with slot := t.verd.slot } }))

/-- While a finishing is in flight for a complete timed-pass frame of the seat of a COLLECTING capture, its marker
taken after the capture opened, FRAME_FINISH answers a next state as follows. Below the fourth frame each fitted
cell adds its raw code to its sum and the count rises by 1, and calibration, store and notices are unchanged. At
the fourth, the offsets are the sums divided by 4. With one outside 64..1023 the capture closes and exactly
CALIBRATION RANGE is posted, the calibration unchanged. With all in range and the store idle each fitted cell of
the seat takes its offset as Z with its mark set and G kept, no other cell changes, the calibration commit
starts and the capture is COMMITTING. With the store committing the capture is WAITING_STORE holding the offsets
and nothing else of calibration, store or notices changes.
From spec/03_cell_correction_features_and_zero_capture.md 3.8. -/
def Obligations.ZeroCaptureCountsFramesAndEndsAtTheFourth : Prop :=
  (∀ (s : State) (mk : Marker) (a : Accumulator) (c : Capture) (bp : Bool) (bc : Bool),
    s.feat.intake = .finishing mk bp bc →
    s.feat.acc = some a →
    tornAt s mk = false →
    counts s mk bc = true →
    s.feat.capture = some c →
    c.count < 3 →
    ∃ t, exec .frameFinish s = .next t ∧ (
    t.feat.capture.map (fun x => { x with sums := c.sums }) = some { c with count := c.count + 1 } ∧
    (∀ n : Cell, t.feat.capture.map (fun x => x.sums.get n) =
      some (if (s.cmap.seats.get mk.seat).fitted = true ∧ (s.cmap.seats.get mk.seat).cells.getLsbD n.val = true then c.sums.get n + (((a.cells.get n).map fun x => x.raw.toNat).getD 0) else c.sums.get n)) ∧
    t.feat.cal = s.feat.cal ∧ t.store = s.store ∧ t.lnk = s.lnk ∧ t.pins = s.pins ∧
    t = { s with
      feat := { s.feat with intake := (looked t s.scan.queue).1, acc := none, cal := t.feat.cal, capture := t.feat.capture }
      scan := { s.scan with queue := (looked t s.scan.queue).2, probe := t.scan.probe }
      verd := { s.verd with slot := t.verd.slot }, store := t.store, lnk := t.lnk
      pins := { s.pins with attn := t.pins.attn } })) ∧
  (∀ (s : State) (mk : Marker) (a : Accumulator) (c : Capture) (bp : Bool) (bc : Bool),
    s.feat.intake = .finishing mk bp bc →
    s.feat.acc = some a →
    tornAt s mk = false →
    counts s mk bc = true →
    s.feat.capture = some c →
    c.count = 3 →
    (¬ (∀ n : Cell, ((s.cmap.seats.get mk.seat).fitted = true ∧ (s.cmap.seats.get mk.seat).cells.getLsbD n.val = true) → 64 ≤ (c.sums.get n + (((a.cells.get n).map fun x => x.raw.toNat).getD 0)) / 4 ∧ (c.sums.get n + (((a.cells.get n).map fun x => x.raw.toNat).getD 0)) / 4 ≤ 1023)) →
    ∃ t, exec .frameFinish s = .next t ∧ (
    t.feat.capture = none ∧ t.feat.cal = s.feat.cal ∧ t.store = s.store ∧
    t.lnk = enqueue [.calibration mk.seat .range] s.lnk ∧
    t = { s with
      feat := { s.feat with intake := (looked t s.scan.queue).1, acc := none, cal := t.feat.cal, capture := t.feat.capture }
      scan := { s.scan with queue := (looked t s.scan.queue).2, probe := t.scan.probe }
      verd := { s.verd with slot := t.verd.slot }, store := t.store, lnk := t.lnk
      pins := { s.pins with attn := t.pins.attn } })) ∧
  (∀ (s : State) (mk : Marker) (a : Accumulator) (c : Capture) (bp : Bool) (bc : Bool),
    s.feat.intake = .finishing mk bp bc →
    s.feat.acc = some a →
    tornAt s mk = false →
    counts s mk bc = true →
    s.feat.capture = some c →
    c.count = 3 →
    ((∀ n : Cell, ((s.cmap.seats.get mk.seat).fitted = true ∧ (s.cmap.seats.get mk.seat).cells.getLsbD n.val = true) → 64 ≤ (c.sums.get n + (((a.cells.get n).map fun x => x.raw.toNat).getD 0)) / 4 ∧ (c.sums.get n + (((a.cells.get n).map fun x => x.raw.toNat).getD 0)) / 4 ≤ 1023)) →
    s.store.commit = .idle →
    ∃ t, exec .frameFinish s = .next t ∧ (
    t.feat.capture.map Capture.state = some .committing ∧ t.feat.capture.map Capture.seat = some mk.seat ∧
    (t.feat.capture.bind Capture.offsets) = none ∧
    (∀ i : Seat, i ≠ mk.seat → t.feat.cal.get i = s.feat.cal.get i) ∧
    (∀ n : Cell, (t.feat.cal.get mk.seat).get n =
      (if (s.cmap.seats.get mk.seat).fitted = true ∧ (s.cmap.seats.get mk.seat).cells.getLsbD n.val = true then
        { z := BitVec.ofNat 10 ((c.sums.get n + (((a.cells.get n).map fun x => x.raw.toNat).getD 0)) / 4), g := ((s.feat.cal.get mk.seat).get n).g, mark := true }
      else (s.feat.cal.get mk.seat).get n)) ∧
    t.store = { s.store with commit := .one (.calibration t.feat.cal) } ∧ t.lnk = s.lnk ∧
    t = { s with
      feat := { s.feat with intake := (looked t s.scan.queue).1, acc := none, cal := t.feat.cal, capture := t.feat.capture }
      scan := { s.scan with queue := (looked t s.scan.queue).2, probe := t.scan.probe }
      verd := { s.verd with slot := t.verd.slot }, store := t.store, lnk := t.lnk
      pins := { s.pins with attn := t.pins.attn } })) ∧
  (∀ (s : State) (mk : Marker) (a : Accumulator) (c : Capture) (bp : Bool) (bc : Bool),
    s.feat.intake = .finishing mk bp bc →
    s.feat.acc = some a →
    tornAt s mk = false →
    counts s mk bc = true →
    s.feat.capture = some c →
    c.count = 3 →
    ((∀ n : Cell, ((s.cmap.seats.get mk.seat).fitted = true ∧ (s.cmap.seats.get mk.seat).cells.getLsbD n.val = true) → 64 ≤ (c.sums.get n + (((a.cells.get n).map fun x => x.raw.toNat).getD 0)) / 4 ∧ (c.sums.get n + (((a.cells.get n).map fun x => x.raw.toNat).getD 0)) / 4 ≤ 1023)) →
    s.store.commit ≠ .idle →
    ∃ t, exec .frameFinish s = .next t ∧ (
    t.feat.capture.map Capture.state = some .waitingStore ∧ t.feat.capture.map Capture.seat = some mk.seat ∧
    (∀ n : Cell, ((s.cmap.seats.get mk.seat).fitted = true ∧ (s.cmap.seats.get mk.seat).cells.getLsbD n.val = true) → (t.feat.capture.bind Capture.offsets).map (fun o => o.get n) =
      some ((c.sums.get n + (((a.cells.get n).map fun x => x.raw.toNat).getD 0)) / 4)) ∧
    t.feat.cal = s.feat.cal ∧ t.store = s.store ∧ t.lnk = s.lnk ∧
    t = { s with
      feat := { s.feat with intake := (looked t s.scan.queue).1, acc := none, cal := t.feat.cal, capture := t.feat.capture }
      scan := { s.scan with queue := (looked t s.scan.queue).2, probe := t.scan.probe }
      verd := { s.verd with slot := t.verd.slot }, store := t.store, lnk := t.lnk
      pins := { s.pins with attn := t.pins.attn } }))

/-- With a frame in the handover slot, FRAME_HANDLING_COMPLETE answers a next state with the slot empty, every other
seat record, the map, SCAN, RET, the store and the settings unchanged. For an UNMAPPED or ABSENT seat nothing
else changes. For an ACTIVE or FAULTED seat a frame with OPEN or ALL_OPEN raises the mat streak, at most 3, and
zeroes the clean streak; any other raises the clean streak, at most 5, and zeroes the mat streak. An ACTIVE seat
whose streak is then 3 becomes FAULTED with verdict UNKNOWN, no candidate, empty history, no evicted code, the
unstable flag clear and its last features and motion hold kept, an open capture on it closed unless COMMITTING;
a FAULTED seat whose clean streak is then 5 becomes ACTIVE; no other lifecycle changes. With at most 24 notices
held, the FAULT notices added are exactly these, in this order: that of the mat when the seat moved, and that of
the tension reading when its flag changed; with neither, none. With an empty slot nothing changes.
The model's choices: With more than 24 notices held the order of the blocks decides which are dropped, and that
order is free (assumption log 10): the notices are stated below that. That a command whose timer, debounce or
operation is not running has no effect is assumption log 6.
From spec/05_buckles_anchors_and_seat_faults.md 5.1; spec/04_verdicts.md 4.2;
spec/01_cabin_map_and_seat_lifecycle.md 1.8. -/
def Obligations.FrameHandlingMovesTheMatStreaksAndTheLifecycle : Prop :=
  (∀ (s : State) (f : MatFrame),
    s.verd.slot = some f →
    ((s.verd.seats.get f.seat).lifecycle = .unmapped ∨ (s.verd.seats.get f.seat).lifecycle = .absent) →
    ∃ t, exec .frameHandlingComplete s = .next t ∧ (
    t = { s with verd := { s.verd with slot := none }, free := t.free })) ∧
  (∀ (s : State) (f : MatFrame),
    s.verd.slot = some f →
    ((s.verd.seats.get f.seat).lifecycle = .active ∨ (s.verd.seats.get f.seat).lifecycle = .faulted) →
    ∃ t, exec .frameHandlingComplete s = .next t ∧ (
    (t.verd.seats.get f.seat).matStreak = (if (f.conditions.open_ = true ∨ f.conditions.allOpen = true) then min 3 ((s.verd.seats.get f.seat).matStreak + 1) else 0) ∧
    (t.verd.seats.get f.seat).cleanStreak = (if (f.conditions.open_ = true ∨ f.conditions.allOpen = true) then 0 else min 5 ((s.verd.seats.get f.seat).cleanStreak + 1)) ∧
    (t.verd.seats.get f.seat).lifecycle =
      (if (s.verd.seats.get f.seat).lifecycle = .active then (if (f.conditions.open_ = true ∨ f.conditions.allOpen = true) ∧ 2 ≤ (s.verd.seats.get f.seat).matStreak then .faulted else .active)
      else if ¬ (f.conditions.open_ = true ∨ f.conditions.allOpen = true) ∧ 4 ≤ (s.verd.seats.get f.seat).cleanStreak then .active else .faulted) ∧
    (t.verd.seats.get f.seat).motionHold = (s.verd.seats.get f.seat).motionHold ∧
    ((s.verd.seats.get f.seat).lifecycle = .active → (t.verd.seats.get f.seat).lifecycle = .faulted →
      (t.verd.seats.get f.seat).confirmed = .unknown ∧ (t.verd.seats.get f.seat).candidate = none ∧ (t.verd.seats.get f.seat).candidateCount = 0 ∧ (t.verd.seats.get f.seat).history = [] ∧
      (t.verd.seats.get f.seat).evicted = none ∧ (t.verd.seats.get f.seat).unstable = false ∧ (t.verd.seats.get f.seat).features = (s.verd.seats.get f.seat).features ∧
      t.feat.capture = (if s.feat.capture.any (fun c => decide (c.seat = f.seat ∧ c.state ≠ .committing)) = true then none
        else s.feat.capture)) ∧
    (¬ ((s.verd.seats.get f.seat).lifecycle = .active ∧ (t.verd.seats.get f.seat).lifecycle = .faulted) → t.feat.capture = s.feat.capture) ∧
    (s.lnk.notices.length ≤ 24 → s.lnk.notices <+: t.lnk.notices ∧ (addedNotices s t).filter isFault =
      (if (s.verd.seats.get f.seat).lifecycle ≠ (t.verd.seats.get f.seat).lifecycle then
        [.fault f.seat
          { mat := decide ((t.verd.seats.get f.seat).lifecycle = .faulted), buckle := decide ((s.verd.seats.get f.seat).buckle = .fault)
            tension := (s.verd.seats.get f.seat).tensionFault } (t.verd.seats.get f.seat).lifecycle]
      else []) ++
      (if (s.verd.seats.get f.seat).tensionFault ≠ (t.verd.seats.get f.seat).tensionFault then
        [.fault f.seat
          { mat := decide ((t.verd.seats.get f.seat).lifecycle = .faulted), buckle := decide ((t.verd.seats.get f.seat).buckle = .fault)
            tension := (t.verd.seats.get f.seat).tensionFault } (t.verd.seats.get f.seat).lifecycle]
      else [])) ∧
    t.verd.slot = none ∧ (∀ i : Seat, i ≠ f.seat → t.verd.seats.get i = s.verd.seats.get i) ∧
    t = { s with
      verd := t.verd, rem := { s.rem with table := t.rem.table, summary := t.rem.summary }
      adv := t.adv, feat := { s.feat with capture := t.feat.capture }
      lnk := { s.lnk with notices := t.lnk.notices, overflow := t.lnk.overflow }
      pins := { s.pins with sup := t.pins.sup, attn := t.pins.attn }, free := t.free })) ∧
  (∀ (s : State),
    s.verd.slot = none →
    ∃ t, exec .frameHandlingComplete s = .next t ∧ t = s)

/-- With a frame of an ACTIVE or FAULTED seat in the slot, FRAME_HANDLING_COMPLETE answers a next state in which: a
band UNLATCHED or LATCHED zeroes the fault streak and makes the agree count a run of that band, raised by 1 up
to 2 when it named it and 1 otherwise, the buckle state becoming the band exactly when the count is 2; a band
OPEN_CIRCUIT or SHORT zeroes the agree count, raises the fault streak up to 3 and makes the state FAULT when it
reaches 3; no band leaves all three. The anchor state is ENGAGED or FREE by the level when the seat maps a line
and the frame carries one, else unchanged. A tension reading that disagrees with the flag raises the streak, and
at 3 invalid ones or 2 valid ones the flag changes and the streak returns to 0; one that agrees zeroes the
streak; no reading leaves both. With at most 24 notices held, a BUCKLE notice is among the added ones exactly
when the buckle state changed, and it carries the new state; and the FAULT notice added that turns the tension
bit is exactly one when the tension flag changed, carrying the faults and the lifecycle of the new record, and
none otherwise.
The model's choices: The notices are stated with at most 24 held, since the order of the blocks is free
(assumption log 10).
From spec/05_buckles_anchors_and_seat_faults.md 5.2, 5.3 and 5.4. -/
def Obligations.FrameHandlingFollowsBuckleAnchorAndTension : Prop :=
  (∀ (s : State) (f : MatFrame),
    s.verd.slot = some f →
    ((s.verd.seats.get f.seat).lifecycle = .active ∨ (s.verd.seats.get f.seat).lifecycle = .faulted) →
    ∃ t, exec .frameHandlingComplete s = .next t ∧ (
    (t.verd.seats.get f.seat).buckleStreak = (match f.band with
      | some .unlatched => 0 | some .latched => 0 | none => (s.verd.seats.get f.seat).buckleStreak | _ => min 3 ((s.verd.seats.get f.seat).buckleStreak + 1)) ∧
    (t.verd.seats.get f.seat).agree = (match f.band with
      | some .unlatched => (match (s.verd.seats.get f.seat).agree with | .run false n => .run false (min 2 (n + 1)) | _ => .run false 1)
      | some .latched => (match (s.verd.seats.get f.seat).agree with | .run true n => .run true (min 2 (n + 1)) | _ => .run true 1)
      | none => (s.verd.seats.get f.seat).agree | _ => .zero) ∧
    (t.verd.seats.get f.seat).buckle = (match f.band with
      | some .unlatched => if (t.verd.seats.get f.seat).agree = .run false 2 then .unlatched else (s.verd.seats.get f.seat).buckle
      | some .latched => if (t.verd.seats.get f.seat).agree = .run true 2 then .latched else (s.verd.seats.get f.seat).buckle
      | none => (s.verd.seats.get f.seat).buckle
      | _ => if 2 ≤ (s.verd.seats.get f.seat).buckleStreak then .fault else (s.verd.seats.get f.seat).buckle) ∧
    (t.verd.seats.get f.seat).anchor = (match f.anchor with
      | some level => if (s.cmap.seats.get f.seat).anchor.toNat < 8 then (if level then .engaged else .free) else (s.verd.seats.get f.seat).anchor
      | none => (s.verd.seats.get f.seat).anchor) ∧
    (t.verd.seats.get f.seat).tensionFault = (match f.tension with
      | some (_, valid) =>
          if (s.verd.seats.get f.seat).tensionFault = false ∧ valid = false ∧ 2 ≤ (s.verd.seats.get f.seat).tensionStreak then true
          else if (s.verd.seats.get f.seat).tensionFault = true ∧ valid = true ∧ 1 ≤ (s.verd.seats.get f.seat).tensionStreak then false else (s.verd.seats.get f.seat).tensionFault
      | none => (s.verd.seats.get f.seat).tensionFault) ∧
    (t.verd.seats.get f.seat).tensionStreak = (match f.tension with
      | some (_, valid) =>
          if (s.verd.seats.get f.seat).tensionFault = valid ∧ (t.verd.seats.get f.seat).tensionFault = (s.verd.seats.get f.seat).tensionFault then (s.verd.seats.get f.seat).tensionStreak + 1 else 0
      | none => (s.verd.seats.get f.seat).tensionStreak) ∧
    (s.lnk.notices.length ≤ 24 → ∀ b ∈ [BuckleState.unfitted, .unknown, .unlatched, .latched, .fault],
      (.buckle f.seat b ∈ t.lnk.notices.drop s.lnk.notices.length ↔ (t.verd.seats.get f.seat).buckle = b ∧ (s.verd.seats.get f.seat).buckle ≠ b)) ∧
    (s.lnk.notices.length ≤ 24 → (addedNotices s t).filter (turnsTension (s.verd.seats.get f.seat).tensionFault) =
      (if (t.verd.seats.get f.seat).tensionFault ≠ (s.verd.seats.get f.seat).tensionFault then
        [.fault f.seat
          { mat := decide ((t.verd.seats.get f.seat).lifecycle = .faulted), buckle := decide ((t.verd.seats.get f.seat).buckle = .fault)
            tension := (t.verd.seats.get f.seat).tensionFault } (t.verd.seats.get f.seat).lifecycle]
      else []))))

/-- With a frame without OPEN or ALL_OPEN in the slot, of a seat that is ACTIVE or that the frame recovers,
FRAME_HANDLING_COMPLETE answers a next state in which the last features are those of the frame with its evidence
score; the history starts with the instantaneous verdict, by the thresholds of the verdict confirmed before and
the anchor and tension state of the frame itself, followed by the 7 newest codes before it; a code that left a
full history is the evicted code, which is otherwise unchanged; and the unstable flag is set by 8 codes with 4
or more differing pairs, cleared by 2 or fewer and otherwise kept; with at most 24 notices held, a STABILITY
notice with the new flag is added exactly when the flag changed, once. With a frame that carries OPEN or
ALL_OPEN of an ACTIVE seat it does not fault, or of a FAULTED seat it does not recover, the features, history,
evicted code, unstable flag, candidate, count and confirmed verdict are unchanged and no STABILITY notice is
added.
Formalises R67, R68, R69. -/
def Obligations.AcceptedFramesArePushedByTheirVerdict : Prop :=
  (∀ (s : State) (f : MatFrame),
    s.verd.slot = some f →
    ((s.verd.seats.get f.seat).lifecycle = .active ∨ ((s.verd.seats.get f.seat).lifecycle = .faulted ∧ 4 ≤ (s.verd.seats.get f.seat).cleanStreak)) →
    f.conditions.open_ = false →
    f.conditions.allOpen = false →
    ∃ t, exec .frameHandlingComplete s = .next t ∧ (
    (t.verd.seats.get f.seat).features = some {
      load := f.load, mass := f.mass, contacts := f.contacts, rail := f.rail, tension := f.tension
      evidence := (evidenceAt (profileAt s f.seat) f (t.verd.seats.get f.seat).tensionFault (t.verd.seats.get f.seat).anchor), conditions := f.conditions } ∧
    (t.verd.seats.get f.seat).history = ((verdictAt (profileAt s f.seat) f (s.verd.seats.get f.seat).confirmed (evidenceAt (profileAt s f.seat) f (t.verd.seats.get f.seat).tensionFault (t.verd.seats.get f.seat).anchor)) :: (s.verd.seats.get f.seat).history).take 8 ∧
    (t.verd.seats.get f.seat).evicted = (if (s.verd.seats.get f.seat).history.length < 8 then (s.verd.seats.get f.seat).evicted else (s.verd.seats.get f.seat).history.getLast?) ∧
    (t.verd.seats.get f.seat).unstable = unstableAfter (t.verd.seats.get f.seat).history (s.verd.seats.get f.seat).unstable ∧
    (s.lnk.notices.length ≤ 24 → (addedNotices s t).filter isStability =
      (if (t.verd.seats.get f.seat).unstable = (s.verd.seats.get f.seat).unstable then [] else [.stability f.seat (t.verd.seats.get f.seat).unstable])))) ∧
  (∀ (s : State) (f : MatFrame),
    s.verd.slot = some f →
    (((s.verd.seats.get f.seat).lifecycle = .active ∧ (f.conditions.open_ = true ∨ f.conditions.allOpen = true) ∧ (s.verd.seats.get f.seat).matStreak < 2) ∨ ((s.verd.seats.get f.seat).lifecycle = .faulted ∧ ((s.verd.seats.get f.seat).cleanStreak < 4 ∨ f.conditions.open_ = true ∨ f.conditions.allOpen = true))) →
    ∃ t, exec .frameHandlingComplete s = .next t ∧ (
    (t.verd.seats.get f.seat).features = (s.verd.seats.get f.seat).features ∧ (t.verd.seats.get f.seat).history = (s.verd.seats.get f.seat).history ∧ (t.verd.seats.get f.seat).evicted = (s.verd.seats.get f.seat).evicted ∧
    (t.verd.seats.get f.seat).unstable = (s.verd.seats.get f.seat).unstable ∧ (t.verd.seats.get f.seat).candidate = (s.verd.seats.get f.seat).candidate ∧ (t.verd.seats.get f.seat).candidateCount = (s.verd.seats.get f.seat).candidateCount ∧
    (t.verd.seats.get f.seat).confirmed = (s.verd.seats.get f.seat).confirmed ∧
    (s.lnk.notices.length ≤ 24 → (addedNotices s t).filter isStability = [])))

/-- With an accepted frame in the slot and v its instantaneous verdict, FRAME_HANDLING_COMPLETE answers a next state
in which, when the seat ends unstable, candidate, count and confirmed verdict are unchanged; otherwise, when v
is the confirmed verdict, the candidate is none with count 0; otherwise the count of v is one more than before
when v was the candidate, at most 255, and 1 when not, and the verdict v is confirmed, the candidate none and
the count 0, exactly when that count is at least the required count of the profile in force, and held as
candidate with that count when not. With at most 24 notices held the VERDICT notice with the old and new verdict
is among the added ones exactly when v was confirmed. The latched-while-empty flag is set exactly when EMPTY is
confirmed and the buckle LATCHED.
The model's choices: The notice is stated with at most 24 held, since the order of the blocks is free
(assumption log 10).
Formalises R73. -/
def Obligations.ConfirmationCountsToTheRequiredCount : Prop :=
  (∀ (s : State) (f : MatFrame) (v : Verdict),
    s.verd.slot = some f →
    ((s.verd.seats.get f.seat).lifecycle = .active ∨ ((s.verd.seats.get f.seat).lifecycle = .faulted ∧ 4 ≤ (s.verd.seats.get f.seat).cleanStreak)) →
    f.conditions.open_ = false →
    f.conditions.allOpen = false →
    (v = (verdictAt (profileAt s f.seat) f (s.verd.seats.get f.seat).confirmed (evidenceAt (profileAt s f.seat) f (match f.tension with
        | some (_, valid) =>
            if (s.verd.seats.get f.seat).tensionFault = false ∧ valid = false ∧ 2 ≤ (s.verd.seats.get f.seat).tensionStreak then true
            else if (s.verd.seats.get f.seat).tensionFault = true ∧ valid = true ∧ 1 ≤ (s.verd.seats.get f.seat).tensionStreak then false else (s.verd.seats.get f.seat).tensionFault
        | none => (s.verd.seats.get f.seat).tensionFault) (match f.anchor with
        | some level => if (s.cmap.seats.get f.seat).anchor.toNat < 8 then (if level then .engaged else .free) else (s.verd.seats.get f.seat).anchor
        | none => (s.verd.seats.get f.seat).anchor)))) →
    ∃ t, exec .frameHandlingComplete s = .next t ∧ (
    ((t.verd.seats.get f.seat).candidate, (t.verd.seats.get f.seat).candidateCount, (t.verd.seats.get f.seat).confirmed) =
      (if (t.verd.seats.get f.seat).unstable = true then ((s.verd.seats.get f.seat).candidate, (s.verd.seats.get f.seat).candidateCount, (s.verd.seats.get f.seat).confirmed)
      else if v = (s.verd.seats.get f.seat).confirmed then (none, 0, (s.verd.seats.get f.seat).confirmed)
      else if (requiredAt (profileAt s f.seat) (s.verd.seats.get f.seat).confirmed v (s.verd.seats.get f.seat).motionHold) ≤ (if (s.verd.seats.get f.seat).candidate = some v then min 255 ((s.verd.seats.get f.seat).candidateCount + 1) else 1) then (none, 0, v)
      else (some v, (if (s.verd.seats.get f.seat).candidate = some v then min 255 ((s.verd.seats.get f.seat).candidateCount + 1) else 1), (s.verd.seats.get f.seat).confirmed)) ∧
    (s.lnk.notices.length ≤ 24 →
      (.verdict f.seat (s.verd.seats.get f.seat).confirmed v ∈ t.lnk.notices.drop s.lnk.notices.length ↔
        (t.verd.seats.get f.seat).confirmed = v ∧ v ≠ (s.verd.seats.get f.seat).confirmed)) ∧
    ((t.verd.seats.get f.seat).latchedEmpty = true ↔ (t.verd.seats.get f.seat).confirmed = .empty ∧ (t.verd.seats.get f.seat).buckle = .latched)))

/-- With every law holding and a frame in the slot, FRAME_HANDLING_COMPLETE answers a next state in which only the
reminder of that seat may have changed. With ignition OFF, or when the frame changed none of the lifecycle,
confirmed verdict, buckle and anchor state of the seat, it has not. Otherwise it has made the move of R110 to
R114 from its state to the case of the new record: NONE when not reminded; LATCHED with the budget restored when
belted; when unbelted VISUAL with a full timer or ARMED by the trigger, AUDIBLE from LATCHED at v_remind, and as
it stood in VISUAL, AUDIBLE and CAPPED; ARMED when the buckle is unknown; CHILD_UNSECURED for an unsecured
child; its state fits that case. With at most 24 notices held, a REMINDER notice with the new state is added
exactly when the state changed, once. The value and pair of every position follow from the record of its mapped
seat, a changed value having filled the mailbox with its record, or superseded the one held.
From spec/04_verdicts.md 4.2; spec/06_belt_reminders.md 6.4; spec/07_restraint_advisory.md 7.2. -/
def Obligations.FrameChangesReachTheReminderAndTheAdvisory : Prop :=
  (∀ (s : State) (f : MatFrame),
    Laws s →
    s.verd.slot = some f →
    ∃ t, exec .frameHandlingComplete s = .next t ∧ (
    (∀ i : Seat, i ≠ f.seat → t.rem.table.get i = s.rem.table.get i) ∧
    (s.ret.ignition = .off → t.rem.table = s.rem.table) ∧
    (s.ret.ignition = .on → fitsCase (caseOf (s.cmap.seats.get f.seat) (t.verd.seats.get f.seat)) (t.rem.table.get f.seat).state = true) ∧
    t.rem.table.get f.seat =
      (if s.ret.ignition = .on ∧
          ((s.verd.seats.get f.seat).lifecycle, (s.verd.seats.get f.seat).confirmed, (s.verd.seats.get f.seat).buckle,
            (s.verd.seats.get f.seat).anchor) ≠
          ((t.verd.seats.get f.seat).lifecycle, (t.verd.seats.get f.seat).confirmed, (t.verd.seats.get f.seat).buckle,
            (t.verd.seats.get f.seat).anchor) then
        movedTo s (caseOf (s.cmap.seats.get f.seat) (t.verd.seats.get f.seat)) (s.rem.table.get f.seat)
      else s.rem.table.get f.seat) ∧
    (s.lnk.notices.length ≤ 24 → (addedNotices s t).filter isReminder =
      (if (t.rem.table.get f.seat).state = (s.rem.table.get f.seat).state then []
      else [.reminder f.seat (t.rem.table.get f.seat).state])) ∧
    AdvisoryLaw t ∧ SummaryLaw t ∧
    (∀ p : Pos, (t.adv.positions.get p).value ≠ (s.adv.positions.get p).value →
      (s.adv.positions.get p).seat = some f.seat ∧
      t.adv.mailbox = some { position := p, value := (t.adv.positions.get p).value, seat := some f.seat
                             confirmed := some (t.verd.seats.get f.seat).confirmed
                             lifecycle := some (t.verd.seats.get f.seat).lifecycle } ∧
      t.adv.superseded = (s.adv.superseded || s.adv.mailbox.isSome)) ∧
    ((∀ p : Pos, (t.adv.positions.get p).value = (s.adv.positions.get p).value) →
      t.adv.mailbox = s.adv.mailbox ∧ t.adv.superseded = s.adv.superseded)))

/-- With ignition ON, REM_TIMER_STEP answers a next state in which, when the trigger holds and the speed is known,
exactly the visual timers of seats in VISUAL and the budgets of seats in AUDIBLE are one step lower, and a seat
whose timer so reaches 0 has gone on: from VISUAL to AUDIBLE, or to CAPPED without budget, and from AUDIBLE to
CAPPED. A running start interval with more than one step left is one step lower; one with a step left, or none,
is stopped with the start elapsed flag set, and if the trigger thereby comes to hold exactly the unbelted seats
in ARMED enter VISUAL, as START_INTERVAL_EXPIRY does it. The summary is re-derived, and exactly the REMINDER
notices of the seats whose state changed, in ascending seat order, and then a CABIN notice for a changed summary
are posted; nothing else changes. With ignition OFF nothing changes.
The model's choices: That the expiries of a step stand within the step, beside the expiry commands, is
assumption log 9.
From spec/06_belt_reminders.md 6.2 and 6.3. -/
def Obligations.ReminderTimerStepCountsOnlyUnderTheCountCondition : Prop :=
  (∀ (s : State),
    s.ret.ignition = .on →
    s.rem.startTimer.any (fun n => decide (n ≤ 1)) = false →
    ∃ t, exec .remTimerStep s = .next t ∧ (
    (∀ i : Seat, t.rem.table.get i =
      (if triggerHolds s = true ∧ s.rem.speed.isSome = true then countedFrom (s.rem.table.get i)
      else s.rem.table.get i)) ∧ SummaryLaw t ∧
    t = { s with
      rem := { s.rem with startTimer := s.rem.startTimer.map (fun n => n - 1), table := t.rem.table, summary := t.rem.summary }
      lnk := enqueue (remindersOf s t ++ cabinOf s t) s.lnk
      pins := { s.pins with attn := t.pins.attn } })) ∧
  (∀ (s : State),
    s.ret.ignition = .on →
    s.rem.startTimer.any (fun n => decide (n ≤ 1)) = true →
    triggerHolds s = true →
    s.rem.speed.isSome = true →
    ∃ t, exec .remTimerStep s = .next t ∧ (
    (∀ i : Seat, t.rem.table.get i = countedFrom (s.rem.table.get i)) ∧ SummaryLaw t ∧
    t = { s with
      rem := { s.rem with startTimer := none, startElapsed := true, table := t.rem.table, summary := t.rem.summary }
      lnk := enqueue (remindersOf s t ++ cabinOf s t) s.lnk
      pins := { s.pins with attn := t.pins.attn } })) ∧
  (∀ (s : State),
    ReminderLaw s →
    TimerLaw s →
    s.ret.ignition = .on →
    s.rem.startTimer.any (fun n => decide (n ≤ 1)) = true →
    (triggerHolds s = false ∨ s.rem.speed = none) →
    ∃ t, exec .remTimerStep s = .next t ∧ (
    t = { s with
      rem := { s.rem with startTimer := none, startElapsed := true, table := t.rem.table, summary := t.rem.summary }
      lnk := { s.lnk with notices := t.lnk.notices, overflow := t.lnk.overflow }
      pins := { s.pins with attn := t.pins.attn } } ∧ Triggered s t)) ∧
  (∀ (s : State),
    s.ret.ignition = .off →
    ∃ t, exec .remTimerStep s = .next t ∧ t = s)

/-- In a state whose reminders fit their cases, with the start interval at 0, START_INTERVAL_EXPIRY answers a next
state with the timer stopped and the flag set; if the trigger thereby comes to hold, exactly the unbelted seats
in ARMED enter VISUAL with a full visual timer (or AUDIBLE, or CAPPED with no budget, when t_visual is 0), and
no other reminder changes; the summary is re-derived and exactly the REMINDER notices in seat order and then a
CABIN notice for a changed summary are posted. Nothing else changes. With one step of the interval left, the
command is the step of 0.1 s at which it reaches 0: what REM_TIMER_STEP answers, the timer stopped and the flag
set when ignition is ON. While the interval is stopped or has two steps or more to count the command changes
nothing.
The model's choices: That the command is the step at which the interval reaches 0, and acts on one that already
stands at 0 (which no run reaches), is assumption log 9. That a command whose timer, debounce or operation is
not running has no effect is assumption log 6.
From spec/06_belt_reminders.md 6.2, 6.3 and 6.4. -/
def Obligations.StartIntervalExpirySetsTheFlagAndTheTrigger : Prop :=
  (∀ (s : State),
    ReminderLaw s →
    TimerLaw s →
    s.rem.startTimer = some 0 →
    ∃ t, exec .startIntervalExpiry s = .next t ∧ (
    t = { s with
      rem := { s.rem with startTimer := none, startElapsed := true, table := t.rem.table, summary := t.rem.summary }
      lnk := { s.lnk with notices := t.lnk.notices, overflow := t.lnk.overflow }
      pins := { s.pins with attn := t.pins.attn } } ∧ Triggered s t)) ∧
  (∀ (s : State),
    s.rem.startTimer = some 1 →
    ∃ t, exec .startIntervalExpiry s = .next t ∧ (
    exec .remTimerStep s = .next t ∧
    (s.ret.ignition = .on → t.rem.startTimer = none ∧ t.rem.startElapsed = true))) ∧
  (∀ (s : State),
    s.rem.startTimer ≠ some 0 →
    s.rem.startTimer ≠ some 1 →
    ∃ t, exec .startIntervalExpiry s = .next t ∧ t = s)

/-- With seat i in VISUAL and its timer 0, VISUAL_TIMER_EXPIRY answers a next state in which i is in AUDIBLE with
its budget kept, or in CAPPED when the budget is 0. With i in AUDIBLE and its budget 0, CHIME_BUDGET_EXPIRY
answers one in which i is in CAPPED. In both every other reminder is unchanged, the summary is re-derived, and
exactly the REMINDER notice of i and a CABIN notice for a changed summary are posted; nothing else changes. With
one step of that timer or budget left, the trigger holding and the speed known, the command is the step of 0.1 s
at which it reaches 0: what REM_TIMER_STEP answers, i making the same move. When the timer is not due, nothing
changes.
The model's choices: That the commands are the step at which that timer or budget reaches 0, and act on one that
already stands at 0 (which no run reaches), is assumption log 9. That a command whose timer, debounce or
operation is not running has no effect is assumption log 6.
From spec/06_belt_reminders.md 6.3, 6.5 and 6.9. -/
def Obligations.StageExpiriesMoveVisualToAudibleAndAudibleToCapped : Prop :=
  (∀ (s : State) (i : Seat),
    (s.rem.table.get i).state = .visual →
    (s.rem.table.get i).visual = 0 →
    ∃ t, exec (.visualTimerExpiry i) s = .next t ∧ (
    (∀ j : Seat, t.rem.table.get j = (if j = i then audibleFrom (s.rem.table.get i) else s.rem.table.get j)) ∧ SummaryLaw t ∧
    t = { s with
      rem := { s.rem with table := t.rem.table, summary := t.rem.summary }
      lnk := enqueue (.reminder i (t.rem.table.get i).state :: cabinOf s t) s.lnk
      pins := { s.pins with attn := t.pins.attn } })) ∧
  (∀ (s : State) (i : Seat),
    (s.rem.table.get i).state = .audible →
    (s.rem.table.get i).budget = 0 →
    ∃ t, exec (.chimeBudgetExpiry i) s = .next t ∧ (
    (∀ j : Seat, t.rem.table.get j =
      (if j = i then { state := .capped, visual := 0, budget := 0 } else s.rem.table.get j)) ∧ SummaryLaw t ∧
    t = { s with
      rem := { s.rem with table := t.rem.table, summary := t.rem.summary }
      lnk := enqueue (.reminder i .capped :: cabinOf s t) s.lnk
      pins := { s.pins with attn := t.pins.attn } })) ∧
  (∀ (s : State) (i : Seat),
    (s.rem.table.get i).state = .visual →
    (s.rem.table.get i).visual = 1 →
    triggerHolds s = true →
    s.rem.speed.isSome = true →
    ∃ t, exec (.visualTimerExpiry i) s = .next t ∧ (
    exec .remTimerStep s = .next t ∧ t.rem.table.get i = audibleFrom (s.rem.table.get i))) ∧
  (∀ (s : State) (i : Seat),
    (s.rem.table.get i).state = .audible →
    (s.rem.table.get i).budget = 1 →
    triggerHolds s = true →
    s.rem.speed.isSome = true →
    ∃ t, exec (.chimeBudgetExpiry i) s = .next t ∧ (
    exec .remTimerStep s = .next t ∧ t.rem.table.get i = { state := .capped, visual := 0, budget := 0 })) ∧
  (∀ (s : State) (i : Seat),
    ((s.rem.table.get i).state ≠ .visual ∨ ((s.rem.table.get i).visual ≠ 0 ∧ ((s.rem.table.get i).visual ≠ 1 ∨ triggerHolds s = false ∨ s.rem.speed = none))) →
    ∃ t, exec (.visualTimerExpiry i) s = .next t ∧ t = s) ∧
  (∀ (s : State) (i : Seat),
    ((s.rem.table.get i).state ≠ .audible ∨ ((s.rem.table.get i).budget ≠ 0 ∧ ((s.rem.table.get i).budget ≠ 1 ∨ triggerHolds s = false ∨ s.rem.speed = none))) →
    ∃ t, exec (.chimeBudgetExpiry i) s = .next t ∧ t = s)

/-- In a state that meets the summary law, with the freshness timer running, FRESHNESS_EXPIRY answers a next state
in which the speed is UNKNOWN, the timer stopped and the motion hold flags are those of an evaluation with the
speed unknown; nothing else changes and no notice is posted. While the timer is stopped nothing changes.
The model's choices: That a command whose timer, debounce or operation is not running has no effect is
assumption log 6.
From spec/06_belt_reminders.md 6.2; spec/04_verdicts.md 4.6. -/
def Obligations.FreshnessExpiryMakesTheSpeedUnknown : Prop :=
  (∀ (s : State),
    SummaryLaw s →
    s.rem.freshness = true →
    ∃ t, exec .freshnessExpiry s = .next t ∧ (
    t = { s with verd := { s.verd with seats := t.verd.seats }, rem := { s.rem with speed := none, freshness := false } } ∧
    HoldEvaluated s t)) ∧
  (∀ (s : State),
    s.rem.freshness = false →
    ∃ t, exec .freshnessExpiry s = .next t ∧ t = s)

/-- In a state whose reminders fit their cases, when a request can be taken, VEHICLE STATE with the byte b answers a
next state in which the speed is b up to 250 and UNKNOWN above, the freshness timer runs, motion hold is
evaluated, and, if the trigger comes to hold, exactly the unbelted seats in ARMED enter the stages, with the
summary and notices following. The reply is OK with the speed (0xFF for UNKNOWN), the chime demand, the visual
set, the child set, and the occupied and latched counts as they then stand. The transfer is closed; nothing else
changes.
From spec/06_belt_reminders.md 6.2, 6.3, 6.4 and 6.9; spec/04_verdicts.md 4.6; spec/09_the_serial_link.md 9.3;
spec/11_frame_and_record_layouts.md 11.1 and 11.2. -/
def Obligations.VehicleStateSetsTheSpeedAndEvaluates : Prop :=
  (∀ (s : State) (b : Byte),
    Ready s →
    ReminderLaw s →
    TimerLaw s →
    ∃ t, exec (.vehicleState { body := [b], final := true }) s = .next t ∧ (
    HoldEvaluated s t ∧ Triggered s t ∧
    t = answering 0x41 .ok (bodyOf t) { closed s with
      verd := { s.verd with seats := t.verd.seats }
      rem := { s.rem with speed := if b.toNat ≤ 250 then some b.toNat else none, freshness := true
                          table := t.rem.table, summary := t.rem.summary }
      lnk := { (closed s).lnk with notices := t.lnk.notices, overflow := t.lnk.overflow }
      pins := { s.pins with attn := t.pins.attn } } ∧
    (bodyOf t).length = 8 ∧ byteAt t 0 = (if b.toNat ≤ 250 then b.toNat else 0xFF) ∧ byteAt t 1 = bit t.rem.summary.chime ∧
    halfAt t 2 = setNumber t.rem.summary.visual ∧ halfAt t 4 = setNumber t.rem.summary.child ∧
    byteAt t 6 = t.rem.summary.occupied ∧ byteAt t 7 = t.rem.summary.latched))

/-- RECEIVE_BYTE answers a next state as follows. While the load is in flight the byte is lost. HUNT ignores all but
0x3C, which opens a frame. LENGTH takes 1..57, and any other value is BAD_LENGTH with code 0. BODY appends the
byte and ends at LEN bytes. CHECK keeps the byte. In END an end byte other than 0x0D or 0x0B is BAD_FRAME and a
sum of LEN, CHECK and the buffer other than 0 modulo 256 is BAD_CHECK, both with the CODE received; a link error
is answered with an empty body when dispatch is idle and dropped when not, the receiver hunting. Otherwise the
outcome is that of the request command the CODE and body name, with the receiver hunting. The inter-byte timer
runs in every state but HUNT. INTER_BYTE_TIMEOUT while it runs discards the partial frame and hunts, with no
reply, and has no effect otherwise.
The model's choices: That the good end byte takes the request at once is assumption log 8. That a command whose
timer, debounce or operation is not running has no effect is assumption log 6.
From spec/09_the_serial_link.md 9.2 and 9.3; spec/10_settings_store_and_protection.md 10.2. -/
def Obligations.ReceiverTakesBytesIntoAFrame : Prop :=
  (∀ (s : State) (b : Byte),
    s.store.loading = true →
    ∃ t, exec (.receiveByte b) s = .next t ∧ t = s) ∧
  (∀ (s : State) (b : Byte),
    s.store.loading = false →
    s.lnk.rxState = .hunt →
    ∃ t, exec (.receiveByte b) s = .next t ∧ (
    t = if b = 0x3C then { s with lnk := { s.lnk with rxState := .length, rxLen := 0, rxBuf := [], rxCheck := 0,
                                                      interByte := true } } else s)) ∧
  (∀ (s : State) (b : Byte),
    s.store.loading = false →
    s.lnk.rxState = .length →
    ∃ t, exec (.receiveByte b) s = .next t ∧ (
    t = if 1 ≤ b.toNat ∧ b.toNat ≤ 57 then { s with lnk := { s.lnk with rxState := .body, rxLen := b, interByte := true } }
        else linkErrorReply .badLength 0 s)) ∧
  (∀ (s : State) (b : Byte),
    s.store.loading = false →
    s.lnk.rxState = .body →
    ∃ t, exec (.receiveByte b) s = .next t ∧ (
    t = { s with lnk := { s.lnk with
      rxBuf := s.lnk.rxBuf ++ [b], interByte := true
      rxState := if s.lnk.rxLen.toNat ≤ s.lnk.rxBuf.length + 1 then .check else .body } })) ∧
  (∀ (s : State) (b : Byte),
    s.store.loading = false →
    s.lnk.rxState = .check →
    ∃ t, exec (.receiveByte b) s = .next t ∧ (
    t = { s with lnk := { s.lnk with rxState := .end_, rxCheck := b, interByte := true } })) ∧
  (∀ (s : State) (b : Byte),
    s.store.loading = false →
    s.lnk.rxState = .end_ →
    b ≠ 0x0D →
    b ≠ 0x0B →
    ∃ t, exec (.receiveByte b) s = .next t ∧ t = linkErrorReply .badFrame (s.lnk.rxBuf.headD 0) s) ∧
  (∀ (s : State) (b : Byte),
    s.store.loading = false →
    s.lnk.rxState = .end_ →
    (b = 0x0D ∨ b = 0x0B) →
    sumOf (s.lnk.rxLen :: s.lnk.rxCheck :: s.lnk.rxBuf) ≠ 0 →
    ∃ t, exec (.receiveByte b) s = .next t ∧ t = linkErrorReply .badCheck (s.lnk.rxBuf.headD 0) s) ∧
  (∀ (s : State) (b : Byte),
    s.store.loading = false →
    s.lnk.rxState = .end_ →
    (b = 0x0D ∨ b = 0x0B) →
    sumOf (s.lnk.rxLen :: s.lnk.rxCheck :: s.lnk.rxBuf) = 0 →
    ∃ t, exec (.receiveByte b) s = .next t ∧ (
    exec (requestOf (s.lnk.rxBuf.headD 0) { body := s.lnk.rxBuf.drop 1, final := decide (b = 0x0D) }) (hunting s) = .next t)) ∧
  (∀ (s : State),
    s.lnk.interByte = true →
    ∃ t, exec .interByteTimeout s = .next t ∧ (
    t = { s with lnk := { s.lnk with rxState := .hunt, interByte := false, rxLen := 0, rxBuf := [], rxCheck := 0 } })) ∧
  (∀ (s : State),
    s.lnk.interByte = false →
    ∃ t, exec .interByteTimeout s = .next t ∧ t = s)

/-- With no reply under way REPLY_COMPLETE changes nothing, and with one that no RESTART follows it answers a next
state that differs only in dispatch being idle. With one that a RESTART follows, the next state also has every
seat record fresh with the lifecycle of map and row states, the slot and accumulator empty, no capture,
calibration kept; SCAN HALTED, STOPPED or WAITING with the timer loaded, queue empty, slot FREE without report,
both flags clear; every reminder NONE or, for a presumed ACTIVE seat with a buckle and ignition ON, ARMED, with
visual timer 0 and full budget, the start interval loaded with ignition ON and stopped with OFF; no snapshot and
no retention timer; each position with its seat and the value of the fresh record, the mailbox full exactly when
a value changed; the overflow flag clear and at most 18 notices. Map, rows, settings, speed, ignition, doors,
receiver, transfer, level and store are kept. Which of the notices of the RESTART outlive the emptying is free
(assumption log 11).
The model's choices: Which notices of the RESTART outlive the emptying of the queue is free (assumption log 11).
The buckle and anchor in the fresh record of a seat that is UNMAPPED are log 18, and an anchor line code out of
range in an invalid map is log 21. That a command whose timer, debounce or operation is not running has no
effect is assumption log 6.
From spec/09_the_serial_link.md 9.3 and 9.7; spec/01_cabin_map_and_seat_lifecycle.md 1.8;
spec/02_mat_scanning.md 2.1 and 2.6; spec/03_cell_correction_features_and_zero_capture.md 3.2 and 3.8;
spec/06_belt_reminders.md 6.8; spec/07_restraint_advisory.md 7.2;
spec/08_ignition_doors_and_occupancy_retention.md 8.4; spec/10_settings_store_and_protection.md 10.3 and 10.5. -/
def Obligations.ReplyCompletionFreesDispatchAndHandsOutRestart : Prop :=
  (∀ (s : State),
    s.lnk.dispatch = .idle →
    ∃ t, exec .replyComplete s = .next t ∧ t = s) ∧
  (∀ (s : State) (rep : Reply),
    s.lnk.dispatch = .handling rep false →
    ∃ t, exec .replyComplete s = .next t ∧ t = { s with lnk := { s.lnk with dispatch := .idle } }) ∧
  (∀ (s : State) (rep : Reply),
    (∀ p : Pos, s.pins.sup.get p = (s.adv.positions.get p).value.pair) →
    s.lnk.dispatch = .handling rep true →
    ∃ t, exec .replyComplete s = .next t ∧ (
    (∀ i : Seat, IsFresh (s.cmap.seats.get i) (t.verd.seats.get i) ∧
      (t.verd.seats.get i).lifecycle =
        (if s.cmap.valid = true ∧ (s.cmap.seats.get i).fitted = true then
          if s.cmap.rowState.get (s.cmap.seats.get i).rowIx = .removed then .absent else .active
        else .unmapped) ∧
      t.rem.table.get i =
        { state := if s.ret.ignition = .on ∧ (t.verd.seats.get i).lifecycle = .active ∧
              (s.cmap.seats.get i).presume = true ∧ (s.cmap.seats.get i).buckle = true then .armed else .none
          visual := 0, budget := 10 * s.rem.settings.tChime } ∧
      t.ret.snapshots.get i = none) ∧
    t.verd.slot = none ∧
    t.scan = { s.scan with
      state := if s.cmap.valid = false then .halted else if s.ret.ignition = .on then .waiting else .stopped
      interval := if s.cmap.valid = true ∧ s.ret.ignition = .on then
          some (max 10000 (min 1000000 (s.scan.timing.p * s.scan.timing.d))) else none
      closing := false, visited := [], step := none, rest := [], queue := [], probe := .free none, overrun := false
      tornFlag := false } ∧
    t.feat = { s.feat with intake := .idle, acc := none, capture := none } ∧
    t.rem = { s.rem with
      startTimer := if s.ret.ignition = .on then some (10 * s.rem.settings.tStart) else none
      startElapsed := false, table := t.rem.table, summary := t.rem.summary } ∧ SummaryLaw t ∧
    t.ret = { s.ret with snapshots := t.ret.snapshots, timer := none } ∧
    (∀ p : Pos, (t.adv.positions.get p).seat = (s.adv.positions.get p).seat) ∧ AdvisoryLaw t ∧
    (t.adv.mailbox.isSome = true ↔ ∃ p : Pos, (t.adv.positions.get p).value ≠ (s.adv.positions.get p).value) ∧
    t.lnk.notices.length ≤ 18 ∧
    t = { s with scan := t.scan, feat := t.feat, verd := t.verd, rem := t.rem, adv := t.adv, ret := t.ret, free := t.free
                 lnk := { s.lnk with dispatch := .idle, notices := t.lnk.notices, overflow := false }
                 pins := { s.pins with sup := t.pins.sup, attn := t.pins.attn } }))

/-- A request command answers the same state when the load is in flight or dispatch is handling. When it can be
taken, a CODE that names no request is answered UNKNOWN_REQUEST; a request whose body is not of a length it
allows, or whose frame is not final though it is not MAP WRITE, is answered BAD_ARG; and so is a seat above 15.
Each such answer has an empty body, closes a transfer, and changes nothing else.
The model's choices: A request command is a checked frame that the link hands to dispatch, without effect while
dispatch handles another (assumption log 8).
From spec/09_the_serial_link.md 9.3 and 9.4; spec/11_frame_and_record_layouts.md 11.1 and 11.2. -/
def Obligations.RequestsAreDiscardedOrRefusedByTheirForm : Prop :=
  (∀ (s : State) (cmd : Instr),
    isRequest cmd = true →
    (s.store.loading = true ∨ s.lnk.dispatch ≠ .idle) →
    ∃ t, exec cmd s = .next t ∧ t = s) ∧
  (∀ (s : State) (f : ReqFrame) (code : Byte),
    Ready s →
    (¬ code ∈ Sys2Proof.requestCodes) →
    ∃ t, exec (.unknownRequest code f) s = .next t ∧ t = refusing code .unknownRequest s) ∧
  (∀ (s : State) (f : ReqFrame) (k : Fin 8),
    Ready s →
    (f.final = false ∨ f.body ≠ []) →
    ∃ t, exec (((noArgument k).2 f)) s = .next t ∧ t = refusing (noArgument k).1 .badArg s) ∧
  (∀ (s : State) (f : ReqFrame) (j : Fin 10),
    Ready s →
    (f.final = false ∨ f.body.length ≠ 1) →
    ∃ t, exec (((oneByte j).2 f)) s = .next t ∧ t = refusing (oneByte j).1 .badArg s) ∧
  (∀ (s : State) (q : Fin 4) (b : Byte),
    Ready s →
    16 ≤ b.toNat →
    ∃ t, exec (((seatByte q).2 { body := [b], final := true })) s = .next t ∧ t = refusing (seatByte q).1 .badArg s) ∧
  (∀ (s : State) (f : ReqFrame) (n : Option Byte),
    Ready s →
    (f.final = false ∨ f.body.length ≠ 13) →
    ∃ t, exec (.profileWrite ⟨f, n⟩) s = .next t ∧ t = refusing 0x12 .badArg s) ∧
  (∀ (s : State) (f : ReqFrame),
    Ready s →
    (f.final = false ∨ f.body.length ≠ 6) →
    ∃ t, exec (.scanTimingSet f) s = .next t ∧ t = refusing 0x20 .badArg s) ∧
  (∀ (s : State) (f : ReqFrame),
    Ready s →
    (f.final = false ∨ f.body.length ≠ 6) →
    ∃ t, exec (.reminderSet f) s = .next t ∧ t = refusing 0x42 .badArg s) ∧
  (∀ (s : State) (f : ReqFrame),
    Ready s →
    (f.final = false ∨ f.body.length < 5 ∨ 50 < f.body.length ∨ f.body.length % 3 ≠ 2 ∨ (f.body.getD 1 0).toNat ≠ (f.body.length - 2) / 3 ∨ 16 ≤ (f.body.getD 0 0).toNat) →
    ∃ t, exec (.calWrite f) s = .next t ∧ t = refusing 0x30 .badArg s) ∧
  (∀ (s : State) (f : ReqFrame),
    Ready s →
    (f.final = false ∨ (f.body.length ≠ 0 ∧ f.body.length ≠ 2)) →
    ∃ t, exec (.retentionSet f) s = .next t ∧ t = refusing 0x50 .badArg s) ∧
  (∀ (s : State),
    Ready s →
    ∃ t, exec (.retentionRead false) s = .next t ∧ t = refusing 0x50 .badArg s) ∧
  (∀ (s : State) (f : ReqFrame) (code : Byte),
    Ready s →
    ∃ t, exec (.unknownRequest code f) s = .next t ∧ exec (requestOf code f) s = .next t)

/-- When a request can be taken, IDENTIFY is answered OK with 0x6A1C, 0x0316, 1, 4, 16, 5; STATUS with map validity,
strap, scan state, ignition, the six section flags, whether a commit is in flight, the four switches, mailbox
full, notice count, overflow flag and attention level; both in every state of the part, changing nothing but an
open transfer, which is closed. RESTART is answered OK with an empty body and the same closing, its effects
following the reply.
Formalises R162. -/
def Obligations.IdentifyStatusAndRestartAreAnsweredAtOnce : Prop :=
  (∀ (s : State),
    Ready s →
    ∃ t, exec (.identify { body := [], final := true }) s = .next t ∧ (
    t = answering 0x01 .ok [0x1C, 0x6A, 0x16, 0x03, 1, 4, 16, 5] (closed s))) ∧
  (∀ (s : State),
    Ready s →
    ∃ t, exec (.status { body := [], final := true }) s = .next t ∧ t = answering 0x02 .ok (statusBytes s) (closed s)) ∧
  (∀ (s : State),
    Ready s →
    ∃ t, exec (.restart { body := [], final := true }) s = .next t ∧ (
    t = { s with lnk := { s.lnk with
      transfer := none, dispatch := .handling { code := 0x03, status := .ok, body := [] } true } }))

/-- When a request can be taken, NOTICE FETCH(n) removes the oldest max 1 (min 8 n) notices, or all when fewer are
held, and is answered OK with how many it returns, how many are left, the overflow flag as it stood, and the six
bytes of each notice, oldest first; the flag is then clear. NOTICE LEVEL SET(n) sets the level to max 1 (min 32
n) and echoes it. In both ATTN is high exactly when the notices held reach the level or the mailbox is full, an
open transfer is closed, and nothing else changes.
Formalises R160. -/
def Obligations.NoticeFetchReturnsTheOldestNotices : Prop :=
  (∀ (s : State) (b : Byte),
    Ready s →
    ∃ t, exec (.noticeFetch { body := [b], final := true }) s = .next t ∧ (
    t = answering 0x08 .ok
      ([((s.lnk.notices.take (within 1 8 b.toNat)).length : Byte), (s.lnk.notices.length - within 1 8 b.toNat : Nat),
        bit s.lnk.overflow] ++ (s.lnk.notices.take (within 1 8 b.toNat)).flatMap Notice.bytes)
      { closed s with
        lnk := { (closed s).lnk with notices := s.lnk.notices.drop (within 1 8 b.toNat), overflow := false }
        pins := { s.pins with attn := t.pins.attn } } ∧
    (t.pins.attn = true ↔ t.lnk.level ≤ t.lnk.notices.length ∨ t.adv.mailbox.isSome = true))) ∧
  (∀ (s : State) (b : Byte),
    Ready s →
    ∃ t, exec (.noticeLevelSet { body := [b], final := true }) s = .next t ∧ (
    t = answering 0x09 .ok [(within 1 32 b.toNat : Byte)]
      { closed s with lnk := { (closed s).lnk with level := within 1 32 b.toNat }
                      pins := { s.pins with attn := t.pins.attn } } ∧
    (t.pins.attn = true ↔ t.lnk.level ≤ t.lnk.notices.length ∨ t.adv.mailbox.isSome = true)))

/-- When a request can be taken, a MAP WRITE of part 0 is refused BAD_ARG when not of 15 record bytes, else
PROTECTED when the MAP switch is barred, else BAD_ARG when final, each closing an open transfer, and otherwise
opens a transfer with part 0 staged and index 1 expected, ACCEPTED. A part 1, 2 or 3 not of 48 record bytes, or
above 3, is BAD_ARG with the transfer closed; with no transfer open NO_TRANSFER; at another index than the
expected, or final with index 1 or 2, or part 3 not final, BAD_ARG with the transfer closed; and part 1 or 2 at
its index, not final, is staged with the next index expected, ACCEPTED. Nothing else changes.
TRANSFER_INACTIVITY_EXPIRY closes an open transfer without a reply. (The final part 3 is the matter of another
statement.)
The model's choices: That a MAP WRITE refused for its length closes the transfer is assumption log 16.
From spec/09_the_serial_link.md 9.4; spec/11_frame_and_record_layouts.md 11.3. -/
def Obligations.MapTransfersStageTheirPartsInOrder : Prop :=
  (∀ (s : State) (recs : List Byte) (final : Bool),
    Ready s →
    recs.length ≠ 15 →
    ∃ t, exec (.mapWriteOpen recs final) s = .next t ∧ t = refusing 0x10 .badArg s) ∧
  (∀ (s : State) (recs : List Byte) (final : Bool),
    Ready s →
    recs.length = 15 →
    s.store.switches.map = true →
    ∃ t, exec (.mapWriteOpen recs final) s = .next t ∧ t = refusing 0x10 .barred s) ∧
  (∀ (s : State) (recs : List Byte),
    Ready s →
    recs.length = 15 →
    s.store.switches.map = false →
    ∃ t, exec (.mapWriteOpen recs true) s = .next t ∧ t = refusing 0x10 .badArg s) ∧
  (∀ (s : State) (recs : List Byte),
    Ready s →
    recs.length = 15 →
    s.store.switches.map = false →
    ∃ t, exec (.mapWriteOpen recs false) s = .next t ∧ (
    t = answering 0x10 .accepted []
      { s with lnk := { s.lnk with transfer := some { expected := 1, part0 := some recs, part1 := none, part2 := none } } })) ∧
  (∀ (s : State) (recs : List Byte) (final : Bool) (part : Byte),
    Ready s →
    part ≠ 0 →
    (3 < part.toNat ∨ recs.length ≠ 48) →
    ∃ t, exec (.mapWriteContinue part recs final) s = .next t ∧ t = refusing 0x10 .badArg s) ∧
  (∀ (s : State) (recs : List Byte) (final : Bool) (part : Byte),
    Ready s →
    1 ≤ part.toNat →
    part.toNat ≤ 3 →
    recs.length = 48 →
    s.lnk.transfer = none →
    ∃ t, exec (.mapWriteContinue part recs final) s = .next t ∧ t = refusing 0x10 .noTransfer s) ∧
  (∀ (s : State) (recs : List Byte) (final : Bool) (part : Byte) (tr : Transfer),
    Ready s →
    1 ≤ part.toNat →
    part.toNat ≤ 3 →
    recs.length = 48 →
    s.lnk.transfer = some tr →
    (part.toNat ≠ tr.expected ∨ (final = true ∧ part.toNat < 3) ∨ (final = false ∧ part.toNat = 3)) →
    ∃ t, exec (.mapWriteContinue part recs final) s = .next t ∧ t = refusing 0x10 .badArg s) ∧
  (∀ (s : State) (recs : List Byte) (tr : Transfer),
    Ready s →
    recs.length = 48 →
    s.lnk.transfer = some tr →
    tr.expected = 1 →
    ∃ t, exec (.mapWriteContinue 1 recs false) s = .next t ∧ (
    t = answering 0x10 .accepted [] { s with lnk := { s.lnk with transfer := some { tr with expected := 2, part1 := some recs } } })) ∧
  (∀ (s : State) (recs : List Byte) (tr : Transfer),
    Ready s →
    recs.length = 48 →
    s.lnk.transfer = some tr →
    tr.expected = 2 →
    ∃ t, exec (.mapWriteContinue 2 recs false) s = .next t ∧ (
    t = answering 0x10 .accepted [] { s with lnk := { s.lnk with transfer := some { tr with expected := 3, part2 := some recs } } })) ∧
  (∀ (s : State),
    ∃ t, exec .transferInactivityExpiry s = .next t ∧ t = closed s)

/-- When a request can be taken and a transfer expects part 3, a final part 3 of 48 record bytes is answered as
follows. While the store is committing it is BUSY and the transfer stays as it was. Otherwise the transfer is
closed and the image is tested whose rows and seats are those of the records sent and whose profiles are the
twelve fields sent, the N_child of each beside its record; where only the bytes tell the frame, a record that
carries what the working profile of its index holds is that profile and the profiles carry the fields of the
bytes otherwise: when a test of R4 fails the reply is MAP_INVALID with kind, index and reason of that record and
nothing is applied; when none fails the working map is that image and valid, the profiles are those tested,
every block stands as a map apply leaves it (interval timer, probe report, summary, advisory pairs and mailbox
included), the map section commit is in flight with that map, and the reply is OK. With every record of part 3
told by its bytes as the working profiles hold it, the profiles tested and applied are the working profiles.
Settings, calibration, timing, speed, switches, strap, ignition, doors and stored sections are kept. Not of 48
bytes it is BAD_ARG, with no transfer NO_TRANSFER, and at another expected index BAD_ARG, closing the transfer.
The model's choices: N_child, which R173 gives no byte, goes beside the records; where only the bytes tell the
frame it is that of the working profile for a record sent as that profile stands, and free otherwise (assumption
log 22). The buckle and anchor in the fresh record of a seat that is UNMAPPED are log 18.
From spec/09_the_serial_link.md 9.4; spec/01_cabin_map_and_seat_lifecycle.md 1.4, 1.6, 1.8 and 1.9;
spec/11_frame_and_record_layouts.md 11.3; spec/10_settings_store_and_protection.md 10.3. -/
def Obligations.TheFinalMapFrameIsTestedAndApplied : Prop :=
  (∀ (s : State) (recs : List Byte) (tr : Transfer) (n : Option (Tab 4 Byte)),
    Ready s →
    recs.length = 48 →
    s.lnk.transfer = some tr →
    tr.expected = 3 →
    s.store.commit ≠ .idle →
    ∃ t, exec (.mapWriteFinal ⟨recs, n⟩) s = .next t ∧ t = answering 0x10 .busy [] s) ∧
  (∀ (s : State) (recs : List Byte) (tr : Transfer) (img : MapRecs) (fl : MapFailure),
    Ready s →
    recs.length = 48 →
    s.lnk.transfer = some tr →
    tr.expected = 3 →
    s.store.commit = .idle →
    (∀ r : Row, IsRowOf (recordOf 3 (tr.part0.getD []) r.val) (img.rows.get r)) →
    (∀ i : Seat, IsSeatOf (recordOf 6 (if i.val < 8 then tr.part1.getD [] else tr.part2.getD []) (i.val % 8)) (img.seats.get i)) →
    sameProfiles s recs →
    mapFailure img s.cmap.profiles = some fl →
    ∃ t, exec (.mapWriteFinal ⟨recs, none⟩) s = .next t ∧ (
    t = answering 0x10 .mapInvalid [(fl.kind.code : Byte), fl.index, fl.reason.code] { closed s with free := t.free })) ∧
  (∀ (s : State) (recs : List Byte) (tr : Transfer) (img : MapRecs),
    Ready s →
    recs.length = 48 →
    s.lnk.transfer = some tr →
    tr.expected = 3 →
    s.store.commit = .idle →
    (∀ r : Row, IsRowOf (recordOf 3 (tr.part0.getD []) r.val) (img.rows.get r)) →
    (∀ i : Seat, IsSeatOf (recordOf 6 (if i.val < 8 then tr.part1.getD [] else tr.part2.getD []) (i.val % 8)) (img.seats.get i)) →
    sameProfiles s recs →
    mapFailure img s.cmap.profiles = none →
    ∃ t, exec (.mapWriteFinal ⟨recs, none⟩) s = .next t ∧     MapWritten s img s.cmap.profiles t) ∧
  (∀ (s : State) (recs : List Byte) (tr : Transfer) (img : MapRecs),
    Ready s →
    recs.length = 48 →
    s.lnk.transfer = some tr →
    tr.expected = 3 →
    s.store.commit = .idle →
    (∀ r : Row, IsRowOf (recordOf 3 (tr.part0.getD []) r.val) (img.rows.get r)) →
    (∀ i : Seat, IsSeatOf (recordOf 6 (if i.val < 8 then tr.part1.getD [] else tr.part2.getD []) (i.val % 8)) (img.seats.get i)) →
    ∃ t, exec (.mapWriteFinal ⟨recs, none⟩) s = .next t ∧ (
    ∃ ps : Tab 4 Profile,
      (∀ k : ProfileIx, IsProfileOf (recordOf 12 recs k.val) (ps.get k) ∧
        (IsProfileOf (recordOf 12 recs k.val) (s.cmap.profiles.get k) → ps.get k = s.cmap.profiles.get k)) ∧
      match mapFailure img ps with
      | some fl =>
          t = answering 0x10 .mapInvalid [(fl.kind.code : Byte), fl.index, fl.reason.code] { closed s with free := t.free }
      | none => MapWritten s img ps t)) ∧
  (∀ (s : State) (recs : List Byte) (tr : Transfer) (img : MapRecs) (ns : Tab 4 Byte) (ps : Tab 4 Profile),
    Ready s →
    recs.length = 48 →
    s.lnk.transfer = some tr →
    tr.expected = 3 →
    s.store.commit = .idle →
    (∀ r : Row, IsRowOf (recordOf 3 (tr.part0.getD []) r.val) (img.rows.get r)) →
    (∀ i : Seat, IsSeatOf (recordOf 6 (if i.val < 8 then tr.part1.getD [] else tr.part2.getD []) (i.val % 8)) (img.seats.get i)) →
    (∀ k : ProfileIx, IsProfileOf (recordOf 12 recs k.val) (ps.get k) ∧ (ps.get k).nChild = ns.get k) →
    ∃ t, exec (.mapWriteFinal ⟨recs, some ns⟩) s = .next t ∧ (
    match mapFailure img ps with
    | some fl =>
        t = answering 0x10 .mapInvalid [(fl.kind.code : Byte), fl.index, fl.reason.code] { closed s with free := t.free }
    | none => MapWritten s img ps t)) ∧
  (∀ (s : State) (recs : List Byte) (n : Option (Tab 4 Byte)),
    Ready s →
    recs.length ≠ 48 →
    ∃ t, exec (.mapWriteFinal ⟨recs, n⟩) s = .next t ∧ t = refusing 0x10 .badArg s) ∧
  (∀ (s : State) (recs : List Byte) (n : Option (Tab 4 Byte)),
    Ready s →
    recs.length = 48 →
    s.lnk.transfer = none →
    ∃ t, exec (.mapWriteFinal ⟨recs, n⟩) s = .next t ∧ t = refusing 0x10 .noTransfer s) ∧
  (∀ (s : State) (recs : List Byte) (tr : Transfer) (n : Option (Tab 4 Byte)),
    Ready s →
    recs.length = 48 →
    s.lnk.transfer = some tr →
    tr.expected ≠ 3 →
    ∃ t, exec (.mapWriteFinal ⟨recs, n⟩) s = .next t ∧ t = refusing 0x10 .badArg s)

/-- When a request can be taken, MAP READ(part) with a part up to 3 is answered OK with the map valid flag, the
strap and the part, then the row records and row states (FIXED while the map is invalid), the seat records of
that half, or the profile records with the N_child of each beside them; above 3 it is BAD_ARG. CAL READ(seat) is
answered OK with the seat, its capture state and count, and Z, G, mark and fitted bit of each cell. In each case
only an open transfer is closed. (A profile record has no byte for N_child: assumption log 22; the count byte is
0 outside COLLECTING: log 23.)
From spec/01_cabin_map_and_seat_lifecycle.md 1.9; spec/03_cell_correction_features_and_zero_capture.md 3.7;
spec/11_frame_and_record_layouts.md 11.3 and 11.4. -/
def Obligations.MapReadAndCalReadReturnTheWorkingCopies : Prop :=
  (∀ (s : State) (b : Byte),
    Ready s →
    b.toNat ≤ 3 →
    ∃ t, exec (.mapRead { body := [b], final := true }) s = .next t ∧ (
    t = answering 0x11 .ok (mapBytes s b.toNat) (closed s) (nChildIn s b.toNat))) ∧
  (∀ (s : State) (b : Byte),
    Ready s →
    3 < b.toNat →
    ∃ t, exec (.mapRead { body := [b], final := true }) s = .next t ∧ t = refusing 0x11 .badArg s) ∧
  (∀ (s : State) (i : Seat),
    Ready s →
    ∃ t, exec (.calRead { body := [(i.val : Byte)], final := true }) s = .next t ∧ t = answering 0x31 .ok (calBytes s i) (closed s))

/-- When a request can be taken, a PROFILE WRITE of 13 bytes is refused BAD_ARG for an index above 3, PROTECTED when
the PROFILE switch is barred, BUSY while the store is committing, and BAD_ARG when m_empty < m_person < m_adult
does not hold as sent, in that order, with nothing changed. Otherwise each of the twelve fields sent is clamped
to its range, that profile alone is replaced, the profiles section commit is in flight with the working
profiles, and the reply is OK with the index and the twelve stored values, N_child beside the record. Where only
the bytes tell the request, the same holds of some N_child within its range. Nothing else changes.
The model's choices: N_child, which R173 gives no byte, goes beside the record in request and reply; where only
the bytes tell the request it is free and then clamped to 1..30 (assumption log 22).
From spec/01_cabin_map_and_seat_lifecycle.md 1.10; spec/11_frame_and_record_layouts.md 11.3;
spec/10_settings_store_and_protection.md 10.3 and 10.4. -/
def Obligations.ProfileWriteReplacesOneClampedProfile : Prop :=
  (∀ (s : State) (b : Byte) (rec : List Byte) (n : Option Byte),
    Ready s →
    rec.length = 12 →
    3 < b.toNat →
    ∃ t, exec (.profileWrite { body := b :: rec, final := true, nChild := n }) s = .next t ∧ t = refusing 0x12 .badArg s) ∧
  (∀ (s : State) (ix : ProfileIx) (rec : List Byte) (n : Option Byte),
    Ready s →
    rec.length = 12 →
    s.store.switches.profile = true →
    ∃ t, exec (.profileWrite { body := (ix.val : Byte) :: rec, final := true, nChild := n }) s = .next t ∧ t = refusing 0x12 .barred s) ∧
  (∀ (s : State) (ix : ProfileIx) (rec : List Byte) (n : Option Byte),
    Ready s →
    rec.length = 12 →
    s.store.switches.profile = false →
    s.store.commit ≠ .idle →
    ∃ t, exec (.profileWrite { body := (ix.val : Byte) :: rec, final := true, nChild := n }) s = .next t ∧ t = refusing 0x12 .busy s) ∧
  (∀ (s : State) (ix : ProfileIx) (rec : List Byte) (n : Option Byte),
    Ready s →
    rec.length = 12 →
    s.store.switches.profile = false →
    s.store.commit = .idle →
    (¬ ((rec.getD 3 0).toNat < (rec.getD 4 0).toNat ∧ (rec.getD 4 0).toNat < (rec.getD 5 0).toNat)) →
    ∃ t, exec (.profileWrite { body := (ix.val : Byte) :: rec, final := true, nChild := n }) s = .next t ∧ t = refusing 0x12 .badArg s) ∧
  (∀ (s : State) (ix : ProfileIx) (rec : List Byte) (p : Profile),
    Ready s →
    rec.length = 12 →
    s.store.switches.profile = false →
    s.store.commit = .idle →
    IsProfileOf rec p →
    p.mEmpty.toNat < p.mPerson.toNat →
    p.mPerson.toNat < p.mAdult.toNat →
    ∃ t, exec (.profileWrite { body := (ix.val : Byte) :: rec, final := true, nChild := some p.nChild }) s = .next t ∧ (
    t.cmap.profiles.get ix = profileWithin p ∧ (profileWithin p).ok = true ∧
    (∀ k : ProfileIx, k ≠ ix → t.cmap.profiles.get k = s.cmap.profiles.get k) ∧
    t = answering 0x12 .ok ((ix.val : Byte) :: profileBytes (profileWithin p)) { closed s with
      cmap := { s.cmap with profiles := t.cmap.profiles }
      store := { s.store with commit := .one (.profiles t.cmap.profiles) }, free := t.free } [(profileWithin p).nChild])) ∧
  (∀ (s : State) (ix : ProfileIx) (rec : List Byte) (p : Profile),
    Ready s →
    rec.length = 12 →
    s.store.switches.profile = false →
    s.store.commit = .idle →
    IsProfileOf rec p →
    p.mEmpty.toNat < p.mPerson.toNat →
    p.mPerson.toNat < p.mAdult.toNat →
    ∃ t, exec (.profileWrite { body := (ix.val : Byte) :: rec, final := true, nChild := none }) s = .next t ∧ (
    { t.cmap.profiles.get ix with nChild := 0 } = { profileWithin p with nChild := 0 } ∧
    (t.cmap.profiles.get ix).ok = true ∧
    (∀ k : ProfileIx, k ≠ ix → t.cmap.profiles.get k = s.cmap.profiles.get k) ∧
    t = answering 0x12 .ok ((ix.val : Byte) :: profileBytes (t.cmap.profiles.get ix)) { closed s with
      cmap := { s.cmap with profiles := t.cmap.profiles }
      store := { s.store with commit := .one (.profiles t.cmap.profiles) }, free := t.free } [(t.cmap.profiles.get ix).nChild]))

/-- When a request can be taken, SCAN TIMING SET of six bytes and RETENTION SET of two are refused PROTECTED when
the PROFILE switch is barred and BUSY while the store is committing, with nothing changed. Otherwise P, D and
the settle time are the values sent clamped to 2..1000, 2..65535 and 20..500, the timing section commit is in
flight with them and the reply is OK with them and the effective interval; t_retain is the value sent clamped to
at most 3600, the reminder settings section commit is in flight with the settings and it, and the reply is OK
with the retention report. Nothing else changes: a running interval or retention timer and the snapshots are
kept.
From spec/02_mat_scanning.md 2.2 and 2.8; spec/08_ignition_doors_and_occupancy_retention.md 8.6;
spec/10_settings_store_and_protection.md 10.3 and 10.4; spec/11_frame_and_record_layouts.md 11.2 and 11.8. -/
def Obligations.TimingAndRetentionSettingsAreClampedAndCommitted : Prop :=
  (∀ (s : State) (b0 : Byte) (b1 : Byte) (b2 : Byte) (b3 : Byte) (b4 : Byte) (b5 : Byte),
    Ready s →
    s.store.switches.profile = true →
    ∃ t, exec (.scanTimingSet { body := [b0, b1, b2, b3, b4, b5], final := true }) s = .next t ∧ t = refusing 0x20 .barred s) ∧
  (∀ (s : State) (b0 : Byte) (b1 : Byte) (b2 : Byte) (b3 : Byte) (b4 : Byte) (b5 : Byte),
    Ready s →
    s.store.switches.profile = false →
    s.store.commit ≠ .idle →
    ∃ t, exec (.scanTimingSet { body := [b0, b1, b2, b3, b4, b5], final := true }) s = .next t ∧ t = refusing 0x20 .busy s) ∧
  (∀ (s : State) (b0 : Byte) (b1 : Byte) (b2 : Byte) (b3 : Byte) (b4 : Byte) (b5 : Byte),
    Ready s →
    s.store.switches.profile = false →
    s.store.commit = .idle →
    ∃ t, exec (.scanTimingSet { body := [b0, b1, b2, b3, b4, b5], final := true }) s = .next t ∧ (
    t = answering 0x20 .ok
      (bytesOf 2 (within 2 1000 (b0.toNat + 256 * b1.toNat)) ++ bytesOf 2 (within 2 65535 (b2.toNat + 256 * b3.toNat)) ++ bytesOf 2 (within 20 500 (b4.toNat + 256 * b5.toNat)) ++
        bytesOf 3 (within 10000 1000000 ((within 2 1000 (b0.toNat + 256 * b1.toNat)) * (within 2 65535 (b2.toNat + 256 * b3.toNat)))))
      { closed s with
        scan := { s.scan with timing := { p := (within 2 1000 (b0.toNat + 256 * b1.toNat)), d := (within 2 65535 (b2.toNat + 256 * b3.toNat))
                                          settle := (within 20 500 (b4.toNat + 256 * b5.toNat)) } }
        store := { s.store with commit := .one (.timing { p := (within 2 1000 (b0.toNat + 256 * b1.toNat)), d := (within 2 65535 (b2.toNat + 256 * b3.toNat))
                                                          settle := (within 20 500 (b4.toNat + 256 * b5.toNat)) }) } })) ∧
  (∀ (s : State) (b0 : Byte) (b1 : Byte),
    Ready s →
    s.store.switches.profile = true →
    ∃ t, exec (.retentionSet { body := [b0, b1], final := true }) s = .next t ∧ t = refusing 0x50 .barred s) ∧
  (∀ (s : State) (b0 : Byte) (b1 : Byte),
    Ready s →
    s.store.switches.profile = false →
    s.store.commit ≠ .idle →
    ∃ t, exec (.retentionSet { body := [b0, b1], final := true }) s = .next t ∧ t = refusing 0x50 .busy s) ∧
  (∀ (s : State) (b0 : Byte) (b1 : Byte),
    Ready s →
    s.store.switches.profile = false →
    s.store.commit = .idle →
    ∃ t, exec (.retentionSet { body := [b0, b1], final := true }) s = .next t ∧ (
    t = answering 0x50 .ok (retentionBytes t.ret) { closed s with
      ret := { s.ret with tRetain := min 3600 (b0.toNat + 256 * b1.toNat) }
      store := { s.store with commit := .one (.reminder s.rem.settings (min 3600 (b0.toNat + 256 * b1.toNat))) } }))

/-- In a state whose reminders fit their cases, when a request can be taken, REMINDER SET of six bytes is refused
PROTECTED when the PROFILE switch is barred and BUSY while the store is committing, with nothing changed.
Otherwise the settings are those sent, clamped; every visual timer and budget is lowered to its new maximum; a
VISUAL timer lowered to 0 passes to AUDIBLE or CAPPED and an AUDIBLE budget lowered to 0 to CAPPED; if the
trigger thereby comes to hold the unbelted seats in ARMED enter the stages; no other state changes; the summary
is re-derived, the REMINDER notices in seat order and then CABIN for a changed summary are posted; the reminder
section commit is in flight; and the reply is OK with the five stored values. The start interval, motion hold
and everything else are kept.
From spec/06_belt_reminders.md 6.1, 6.2 and 6.4; spec/10_settings_store_and_protection.md 10.3 and 10.4;
spec/11_frame_and_record_layouts.md 11.8. -/
def Obligations.ReminderSettingsLowerTimersAndEvaluate : Prop :=
  (∀ (s : State) (b0 : Byte) (b1 : Byte) (b2 : Byte) (b3 : Byte) (b4 : Byte) (b5 : Byte),
    Ready s →
    s.store.switches.profile = true →
    ∃ t, exec (.reminderSet { body := [b0, b1, b2, b3, b4, b5], final := true }) s = .next t ∧ t = refusing 0x42 .barred s) ∧
  (∀ (s : State) (b0 : Byte) (b1 : Byte) (b2 : Byte) (b3 : Byte) (b4 : Byte) (b5 : Byte),
    Ready s →
    s.store.switches.profile = false →
    s.store.commit ≠ .idle →
    ∃ t, exec (.reminderSet { body := [b0, b1, b2, b3, b4, b5], final := true }) s = .next t ∧ t = refusing 0x42 .busy s) ∧
  (∀ (s : State) (b0 : Byte) (b1 : Byte) (b2 : Byte) (b3 : Byte) (b4 : Byte) (b5 : Byte),
    Ready s →
    ReminderLaw s →
    TimerLaw s →
    s.store.switches.profile = false →
    s.store.commit = .idle →
    ∃ t, exec (.reminderSet { body := [b0, b1, b2, b3, b4, b5], final := true }) s = .next t ∧ (
    t.rem.settings = {
                        vRemind := within 5 60 b0.toNat, vHold := within 3 60 b1.toNat
                        tStart := within 10 300 (b2.toNat + 256 * b3.toNat), tVisual := min 60 b4.toNat
                        tChime := within 10 240 b5.toNat } ∧
    (∀ i : Seat, t.rem.table.get i =
      (let low : ReminderRec := { s.rem.table.get i with
        visual := min (s.rem.table.get i).visual (10 * t.rem.settings.tVisual)
        budget := min (s.rem.table.get i).budget (10 * t.rem.settings.tChime) }
      if low.state = .visual ∧ low.visual = 0 ∧ (s.rem.table.get i).visual ≠ 0 then audibleFrom low
      else if low.state = .audible ∧ low.budget = 0 ∧ (s.rem.table.get i).budget ≠ 0 then
        { low with state := .capped, visual := 0 }
      else if triggerHolds s = false ∧ triggerHolds t = true ∧ low.state = .armed ∧
          caseOf (s.cmap.seats.get i) (s.verd.seats.get i) = .unbelted then
        (if t.rem.settings.tVisual = 0 then audibleFrom low
         else { low with state := .visual, visual := 10 * t.rem.settings.tVisual })
      else low)) ∧ SummaryLaw t ∧
    t = answering 0x42 .ok ([(t.rem.settings.vRemind : Byte), t.rem.settings.vHold] ++ bytesOf 2 t.rem.settings.tStart ++
        [(t.rem.settings.tVisual : Byte), t.rem.settings.tChime])
      { s with
        rem := { s.rem with settings := t.rem.settings, table := t.rem.table, summary := t.rem.summary }
        lnk := enqueue (remindersOf s t ++ cabinOf s t) (closed s).lnk
        store := { s.store with commit := .one (.reminder t.rem.settings s.ret.tRetain) }
        pins := { s.pins with attn := t.pins.attn } }))

/-- When a request can be taken, SCAN STATUS is answered OK with scan state, flags, current seat, queue count, probe
slot and timing, and then clears the overrun and torn-frame flags. PROBE READ is answered NOT_READY with the
slot unchanged when ARMED, OK with the buffer and the slot then FREE without report when FILLED, and STATE with
the cancel report (0 for none), then cleared, when FREE. An open transfer is closed and nothing else changes.
Formalises R37, R39. -/
def Obligations.ScanStatusAndProbeReadReportAndClear : Prop :=
  (∀ (s : State),
    Ready s →
    ∃ t, exec (.scanStatus { body := [], final := true }) s = .next t ∧ (
    t = answering 0x21 .ok (scanBytes s) { closed s with scan := { s.scan with overrun := false, tornFlag := false } })) ∧
  (∀ (s : State) (i : Seat) (how : ProbeService),
    Ready s →
    s.scan.probe = .armed i how →
    ∃ t, exec (.probeRead { body := [], final := true }) s = .next t ∧ t = refusing 0x23 .notReady s) ∧
  (∀ (s : State) (pb : ProbeBuffer),
    Ready s →
    s.scan.probe = .filled pb →
    ∃ t, exec (.probeRead { body := [], final := true }) s = .next t ∧ (
    t = answering 0x23 .ok (probeBytes pb) { closed s with scan := { s.scan with probe := .free none } })) ∧
  (∀ (s : State) (rep : Option CancelCause),
    Ready s →
    s.scan.probe = .free rep →
    ∃ t, exec (.probeRead { body := [], final := true }) s = .next t ∧ (
    t = answering 0x23 .state
      [match rep with | none => 0 | some .map => 1 | some .row => 2 | some .ignition => 3]
      { closed s with scan := { s.scan with probe := .free none } }))

/-- When a request can be taken, SEAT PROBE is refused BAD_ARG for a seat above 15, BUSY when the slot is ARMED or
FILLED, and STATE when SCAN is HALTED or the seat UNMAPPED or ABSENT, in that order, with nothing changed.
Otherwise the slot is ARMED for the seat, its report gone, and the reply is OK: armed for timed passes in
WAITING and in a PASS that is not closing, with the probe pass of the seat begun at once from STOPPED, and held
ARMED in a closing PASS, for the probe pass that follows it, and in PROBING. A frame whose marker FEAT has taken
before the probe is armed for timed passes is marked so (it does not fill the probe), and nothing else changes.
The model's choices: What a probe is armed for is decided when the request is accepted (assumption log 20); that
a frame taken before does not fill a probe armed for timed passes, as R34 says and R45 does not, is log 24.
From spec/02_mat_scanning.md 2.7. -/
def Obligations.SeatProbeIsCheckedAndArmed : Prop :=
  (∀ (s : State) (z : Byte),
    Ready s →
    16 ≤ z.toNat →
    ∃ t, exec (.seatProbe { body := [z], final := true }) s = .next t ∧ t = refusing 0x22 .badArg s) ∧
  (∀ (s : State) (i : Seat),
    Ready s →
    s.scan.probe.seat ≠ none →
    ∃ t, exec (.seatProbe { body := [(i.val : Byte)], final := true }) s = .next t ∧ t = refusing 0x22 .busy s) ∧
  (∀ (s : State) (i : Seat),
    Ready s →
    s.scan.probe.seat = none →
    (s.scan.state = .halted ∨ (s.verd.seats.get i).lifecycle = .unmapped ∨ (s.verd.seats.get i).lifecycle = .absent) →
    ∃ t, exec (.seatProbe { body := [(i.val : Byte)], final := true }) s = .next t ∧ t = refusing 0x22 .state s) ∧
  (∀ (s : State) (i : Seat),
    Ready s →
    s.scan.probe.seat = none →
    ((s.verd.seats.get i).lifecycle = .active ∨ (s.verd.seats.get i).lifecycle = .faulted) →
    (s.scan.state = .waiting ∨ (s.scan.state = .pass ∧ s.scan.closing = false)) →
    ∃ t, exec (.seatProbe { body := [(i.val : Byte)], final := true }) s = .next t ∧ (
    t = answering 0x22 .ok [] { closed s with
      scan := { s.scan with probe := .armed i .timed }
      feat := { s.feat with intake := match s.feat.intake with | .finishing m _ c => .finishing m true c | x => x } })) ∧
  (∀ (s : State) (i : Seat),
    Ready s →
    s.scan.probe.seat = none →
    ((s.verd.seats.get i).lifecycle = .active ∨ (s.verd.seats.get i).lifecycle = .faulted) →
    s.scan.state = .stopped →
    ∃ t, exec (.seatProbe { body := [(i.val : Byte)], final := true }) s = .next t ∧ (
    t = answering 0x22 .ok [] { closed s with scan := { probePassOf s i with probe := .armed i .probePass } })) ∧
  (∀ (s : State) (i : Seat),
    Ready s →
    s.scan.probe.seat = none →
    ((s.verd.seats.get i).lifecycle = .active ∨ (s.verd.seats.get i).lifecycle = .faulted) →
    s.scan.state = .probing →
    ∃ t, exec (.seatProbe { body := [(i.val : Byte)], final := true }) s = .next t ∧ (
    t = answering 0x22 .ok [] { closed s with scan := { s.scan with probe := .armed i .probePass } })) ∧
  (∀ (s : State) (i : Seat),
    Ready s →
    s.scan.probe.seat = none →
    ((s.verd.seats.get i).lifecycle = .active ∨ (s.verd.seats.get i).lifecycle = .faulted) →
    s.scan.state = .pass →
    s.scan.closing = true →
    ∃ t, exec (.seatProbe { body := [(i.val : Byte)], final := true }) s = .next t ∧ (
    t = answering 0x22 .ok [] { closed s with scan := { s.scan with probe := .armed i .closing } }))

/-- When a request can be taken, a CAL WRITE on seat i of k entries (k in 1..16) is refused PROTECTED when the
CALIBRATION switch is barred, BUSY while the store is committing or a capture is open on i, and BAD_ARG when an
entry names an unfitted cell (every cell while the map is invalid), a cell named before, or Z or G outside
64..1023; otherwise each cell named takes its Z and G and its mark, no other cell changes, the calibration
commit is in flight and the reply is OK. ZERO CAPTURE is refused PROTECTED by the same switch, BUSY when any
capture is open or the store is committing, STATE when the seat is not ACTIVE or ignition is OFF, and otherwise
opens a COLLECTING record with count 0, sums 0 and no offsets, OK; a frame whose marker FEAT has taken before is
marked so (it does not count). A seat above 15 is BAD_ARG for both. After FULL_RESET no capture is open. Nothing
else changes.
Formalises R57, R59. -/
def Obligations.CalWriteAndZeroCaptureAreCheckedInOrder : Prop :=
  (∀ (s : State) (i : Seat) (body : List Byte) (k : Nat),
    Ready s →
    body.length = 2 + 3 * k →
    1 ≤ k →
    k ≤ 16 →
    body.getD 0 0 = (i.val : Byte) →
    (body.getD 1 0).toNat = k →
    s.store.switches.calibration = true →
    ∃ t, exec (.calWrite { body := body, final := true }) s = .next t ∧ t = refusing 0x30 .barred s) ∧
  (∀ (s : State) (i : Seat) (body : List Byte) (k : Nat),
    Ready s →
    body.length = 2 + 3 * k →
    1 ≤ k →
    k ≤ 16 →
    body.getD 0 0 = (i.val : Byte) →
    (body.getD 1 0).toNat = k →
    s.store.switches.calibration = false →
    (s.store.commit ≠ .idle ∨ s.feat.capture.any (fun c => decide (c.seat = i)) = true) →
    ∃ t, exec (.calWrite { body := body, final := true }) s = .next t ∧ t = refusing 0x30 .busy s) ∧
  (∀ (s : State) (i : Seat) (body : List Byte) (k : Nat),
    Ready s →
    body.length = 2 + 3 * k →
    1 ≤ k →
    k ≤ 16 →
    body.getD 0 0 = (i.val : Byte) →
    (body.getD 1 0).toNat = k →
    s.store.switches.calibration = false →
    s.store.commit = .idle →
    (¬ s.feat.capture.any (fun c => decide (c.seat = i)) = true) →
    calEntriesPass s i body k = false →
    ∃ t, exec (.calWrite { body := body, final := true }) s = .next t ∧ t = refusing 0x30 .badArg s) ∧
  (∀ (s : State) (i : Seat) (body : List Byte) (k : Nat),
    Ready s →
    body.length = 2 + 3 * k →
    1 ≤ k →
    k ≤ 16 →
    body.getD 0 0 = (i.val : Byte) →
    (body.getD 1 0).toNat = k →
    s.store.switches.calibration = false →
    s.store.commit = .idle →
    (¬ s.feat.capture.any (fun c => decide (c.seat = i)) = true) →
    calEntriesPass s i body k = true →
    ∃ t, exec (.calWrite { body := body, final := true }) s = .next t ∧ (
    t = answering 0x30 .ok [] { closed s with
      feat := { s.feat with cal := t.feat.cal }, store := { s.store with commit := .one (.calibration t.feat.cal) } } ∧
    (∀ j : Seat, j ≠ i → t.feat.cal.get j = s.feat.cal.get j) ∧
    (∀ x ∈ List.range k, ∀ n : Cell, n.val = calCell body x → (t.feat.cal.get i).get n =
      { z := BitVec.ofNat 10 (calZ body x), g := BitVec.ofNat 10 (calG body x), mark := true }) ∧
    ∀ n : Cell, (∀ x ∈ List.range k, n.val ≠ calCell body x) → (t.feat.cal.get i).get n = (s.feat.cal.get i).get n)) ∧
  (∀ (s : State) (body : List Byte) (k : Nat),
    Ready s →
    body.length = 2 + 3 * k →
    1 ≤ k →
    k ≤ 16 →
    (body.getD 1 0).toNat = k →
    16 ≤ (body.getD 0 0).toNat →
    ∃ t, exec (.calWrite { body := body, final := true }) s = .next t ∧ t = refusing 0x30 .badArg s) ∧
  (∀ (s : State) (z : Byte),
    Ready s →
    16 ≤ z.toNat →
    ∃ t, exec (.zeroCapture { body := [z], final := true }) s = .next t ∧ t = refusing 0x32 .badArg s) ∧
  (∀ (s : State) (i : Seat),
    Ready s →
    s.store.switches.calibration = true →
    ∃ t, exec (.zeroCapture { body := [(i.val : Byte)], final := true }) s = .next t ∧ t = refusing 0x32 .barred s) ∧
  (∀ (s : State) (i : Seat),
    Ready s →
    s.store.switches.calibration = false →
    (s.feat.capture.isSome = true ∨ s.store.commit ≠ .idle) →
    ∃ t, exec (.zeroCapture { body := [(i.val : Byte)], final := true }) s = .next t ∧ t = refusing 0x32 .busy s) ∧
  (∀ (s : State) (i : Seat),
    Ready s →
    s.store.switches.calibration = false →
    s.feat.capture = none →
    s.store.commit = .idle →
    ((s.verd.seats.get i).lifecycle ≠ .active ∨ s.ret.ignition = .off) →
    ∃ t, exec (.zeroCapture { body := [(i.val : Byte)], final := true }) s = .next t ∧ t = refusing 0x32 .state s) ∧
  (∀ (s : State) (i : Seat),
    Ready s →
    s.store.switches.calibration = false →
    s.feat.capture = none →
    s.store.commit = .idle →
    (s.verd.seats.get i).lifecycle = .active →
    s.ret.ignition = .on →
    ∃ t, exec (.zeroCapture { body := [(i.val : Byte)], final := true }) s = .next t ∧ (
    t = answering 0x32 .ok [] { closed s with feat := { s.feat with
      intake := match s.feat.intake with | .finishing m p _ => .finishing m p true | x => x
      capture := some { seat := i, state := .collecting, count := 0, sums := Tab.const 16 0, offsets := none } } })) ∧
  (∀ (s : State),
    ∃ t, exec .fullReset s = .next t ∧ t.feat.capture = none)

/-- When a request can be taken, SEAT SUMMARY is answered OK with 32 bytes holding lifecycle, confirmed verdict,
buckle state, reminder state and latched-while-empty flag of every seat in seat order; SEAT DETAIL(seat) is
answered OK with the 35 bytes of the record, the required count of a held candidate and the three effective
thresholds derived as they would meet the next frame; a seat above 15 is BAD_ARG. Only an open transfer is
closed.
The model's choices: The profile by which the thresholds of an unfitted seat, or of a code that names no
profile, are shown is free (assumption log 25, beside log 21); byte 27 of a seat without last features is 0xFF
(log 26).
From spec/04_verdicts.md 4.3 and 4.8; spec/11_frame_and_record_layouts.md 11.1 and 11.5. -/
def Obligations.SeatSummaryAndDetailShowTheRecords : Prop :=
  (∀ (s : State),
    Ready s →
    ∃ t, exec (.seatSummary { body := [], final := true }) s = .next t ∧ (
    t = answering 0x38 .ok (bodyOf t) (closed s) ∧ (bodyOf t).length = 32 ∧
    ∀ i : Seat,
      byteAt t (2 * i.val) = (s.verd.seats.get i).lifecycle.code + 16 * (s.verd.seats.get i).confirmed.code ∧
      byteAt t (2 * i.val + 1) = (s.verd.seats.get i).buckle.code + 8 * (s.rem.table.get i).state.code +
        128 * bit (s.verd.seats.get i).latchedEmpty)) ∧
  (∀ (s : State) (i : Seat),
    Ready s →
    ∃ t, exec (.seatDetail { body := [(i.val : Byte)], final := true }) s = .next t ∧ t = answering 0x39 .ok (detailOf s i) (closed s)) ∧
  (∀ (s : State) (z : Byte),
    Ready s →
    16 ≤ z.toNat →
    ∃ t, exec (.seatDetail { body := [z], final := true }) s = .next t ∧ t = refusing 0x39 .badArg s)

/-- When a request can be taken, CABIN REMINDER of half 0 or 1 is answered OK with the summary, flags, start
interval, speed and the reminder records of that half, and BAD_ARG above 1; ADVISORY READ is answered OK with
the mailbox as it stood and the current advisories, and then empties the mailbox and clears its flag, ATTN
following; RETENTION SET with an empty body is answered OK with t_retain, ignition, doors, timer and snapshots.
An open transfer is closed and nothing else changes.
Formalises R121, R129. -/
def Obligations.CabinAdvisoryAndRetentionReadsReport : Prop :=
  (∀ (s : State) (b : Byte),
    Ready s →
    b.toNat ≤ 1 →
    ∃ t, exec (.cabinReminder { body := [b], final := true }) s = .next t ∧ t = answering 0x43 .ok (cabinBytes s b.toNat) (closed s)) ∧
  (∀ (s : State) (b : Byte),
    Ready s →
    1 < b.toNat →
    ∃ t, exec (.cabinReminder { body := [b], final := true }) s = .next t ∧ t = refusing 0x43 .badArg s) ∧
  (∀ (s : State),
    Ready s →
    ∃ t, exec (.advisoryRead { body := [], final := true }) s = .next t ∧ (
    t = answering 0x48 .ok (advisoryBytes s) { closed s with
      adv := { s.adv with mailbox := none, superseded := false }
      pins := { s.pins with attn := decide (s.lnk.level ≤ s.lnk.notices.length) } })) ∧
  (∀ (s : State),
    Ready s →
    ∃ t, exec (.retentionRead true) s = .next t ∧ t = answering 0x50 .ok (retentionBytes s.ret) (closed s))

/-- When a request can be taken, PROTECT SET is refused PROTECTED when a barred switch is asked permitted, answered
OK with the switches and no commit when nothing differs, refused BUSY while the store is committing, and
otherwise bars every switch asked barred, commits the protection section and answers OK with the switches.
PROTECTION CLEAR is refused PROTECTED when CLEAR is barred and BUSY while committing; otherwise the profiles,
reminder settings, t_retain, scan timing and calibration are the defaults, MAP, CALIBRATION and PROFILE
permitted and CLEAR as it was, the map is the empty invalid one for strap 00 and the valid preset of any other
strap, applied to every block (interval timer, probe report, summary, advisory pairs and mailbox included), the
six-section commit is in flight with the working copies and the map flag invalid, and the reply is OK with a
RESTART to follow. Speed, ignition, doors, lines, stored sections and waiting commands are kept.
The model's choices: The cells, buckle bit, row, gain and profile of unfitted seats of a preset are free
(assumption log 12); that steps 1 and 2 are separate handlings of the reminders is log 19; bits 4 to 7 of the
PROTECT SET byte, which are ignored, are log 28; the field values of the empty map for strap 00 are log 17; the
buckle and anchor in the fresh record of a seat that is UNMAPPED are log 18.
From spec/10_settings_store_and_protection.md 10.4 and 10.5; spec/01_cabin_map_and_seat_lifecycle.md 1.5, 1.6
and 1.8. -/
def Obligations.ProtectSetBarsSwitchesAndProtectionClearResets : Prop :=
  (∀ (s : State) (b : Byte),
    Ready s →
    ((s.store.switches.map = true ∧ b.getLsbD 0 = false) ∨ (s.store.switches.calibration = true ∧ b.getLsbD 1 = false) ∨ (s.store.switches.profile = true ∧ b.getLsbD 2 = false) ∨ (s.store.switches.clear = true ∧ b.getLsbD 3 = false)) →
    ∃ t, exec (.protectSet { body := [b], final := true }) s = .next t ∧ t = refusing 0x60 .barred s) ∧
  (∀ (s : State) (b : Byte),
    Ready s →
    s.store.switches = { map := b.getLsbD 0, calibration := b.getLsbD 1, profile := b.getLsbD 2, clear := b.getLsbD 3 } →
    ∃ t, exec (.protectSet { body := [b], final := true }) s = .next t ∧ t = answering 0x60 .ok [(b.toNat % 16 : Nat)] (closed s)) ∧
  (∀ (s : State) (b : Byte),
    Ready s →
    (s.store.switches.map = true → b.getLsbD 0 = true) →
    (s.store.switches.calibration = true → b.getLsbD 1 = true) →
    (s.store.switches.profile = true → b.getLsbD 2 = true) →
    (s.store.switches.clear = true → b.getLsbD 3 = true) →
    s.store.switches ≠ { map := b.getLsbD 0, calibration := b.getLsbD 1, profile := b.getLsbD 2, clear := b.getLsbD 3 } →
    s.store.commit ≠ .idle →
    ∃ t, exec (.protectSet { body := [b], final := true }) s = .next t ∧ t = refusing 0x60 .busy s) ∧
  (∀ (s : State) (b : Byte),
    Ready s →
    (s.store.switches.map = true → b.getLsbD 0 = true) →
    (s.store.switches.calibration = true → b.getLsbD 1 = true) →
    (s.store.switches.profile = true → b.getLsbD 2 = true) →
    (s.store.switches.clear = true → b.getLsbD 3 = true) →
    s.store.switches ≠ { map := b.getLsbD 0, calibration := b.getLsbD 1, profile := b.getLsbD 2, clear := b.getLsbD 3 } →
    s.store.commit = .idle →
    ∃ t, exec (.protectSet { body := [b], final := true }) s = .next t ∧ (
    t.store.switches = { map := b.getLsbD 0, calibration := b.getLsbD 1, profile := b.getLsbD 2, clear := b.getLsbD 3 } ∧
    t = answering 0x60 .ok [(b.toNat % 16 : Nat)] { closed s with
      store := { s.store with switches := t.store.switches, commit := .one (.protection t.store.switches) } })) ∧
  (∀ (s : State),
    Ready s →
    s.store.switches.clear = true →
    ∃ t, exec (.protectionClear { body := [], final := true }) s = .next t ∧ t = refusing 0x61 .barred s) ∧
  (∀ (s : State),
    Ready s →
    s.store.switches.clear = false →
    s.store.commit ≠ .idle →
    ∃ t, exec (.protectionClear { body := [], final := true }) s = .next t ∧ t = refusing 0x61 .busy s) ∧
  (∀ (s : State),
    Ready s →
    s.store.switches.clear = false →
    s.store.commit = .idle →
    ∃ t, exec (.protectionClear { body := [], final := true }) s = .next t ∧ (
    JustApplied t ∧ ApplyReached s t ∧ t.cmap.strap = s.cmap.strap ∧ (t.cmap.valid = true ↔ s.cmap.strap ≠ 0) ∧
    (s.cmap.strap = 0 → ∀ i : Seat, t.cmap.seats.get i =
      { cells := 0, fitted := false, tension := false, buckle := false, presume := false, row := 0, gain := 0
        profile := 0, advisory := 0xF, anchor := 0xFF }) ∧
    (s.cmap.strap ≠ 0 → ∀ i : Seat,
      ((t.cmap.seats.get i).fitted = true ↔ i.val < (presetSeatTable s.cmap.strap).length) ∧
      ((t.cmap.seats.get i).fitted = true →
        some (t.cmap.seats.get i) = ((presetSeatTable s.cmap.strap)[i.val]?).map (presetRecord i)) ∧
      ((t.cmap.seats.get i).fitted = false →
        (t.cmap.seats.get i).presume = false ∧ (t.cmap.seats.get i).tension = false ∧
        (t.cmap.seats.get i).anchor = 0xFF ∧ (t.cmap.seats.get i).advisory = 0xF)) ∧
    (∀ r : Row, t.cmap.rows.get r =
      (if s.cmap.strap = 0 then [] else presetRowTable s.cmap.strap).getD r.val { removable := false, presence := 0xFF, doors := 0 }) ∧
    (∀ k : ProfileIx, t.cmap.profiles.get k = defaultProfile k) ∧
    t.rem.settings = { vRemind := 20, vHold := 10, tStart := 60, tVisual := 8, tChime := 90 } ∧
    t.ret.tRetain = 600 ∧ t.scan.timing = { p := 1000, d := 50, settle := 100 } ∧
    (∀ (i : Seat) (n : Cell), (t.feat.cal.get i).get n = { z := 300, g := 256, mark := false }) ∧
    t.store = { s.store with
      switches := { map := false, calibration := false, profile := false, clear := false }
      valid := { s.store.valid with map := false }
      commit := .clear { profiles := t.cmap.profiles, settings := t.rem.settings, tRetain := t.ret.tRetain
                         timing := t.scan.timing, cal := t.feat.cal, switches := t.store.switches } } ∧
    t.lnk = { s.lnk with notices := t.lnk.notices, overflow := t.lnk.overflow, transfer := none
                         dispatch := .handling { code := 0x61, status := .ok, body := [] } true } ∧
    t.rem.speed = s.rem.speed ∧ t.rem.freshness = s.rem.freshness ∧ t.ret.ignition = s.ret.ignition ∧
    t.ret.doorOpen = s.ret.doorOpen ∧ t.pending = s.pending ∧
    t.pins = { s.pins with sup := t.pins.sup, attn := t.pins.attn }))

/-- For every image and profiles, the outcome of the validity test is the triple of the first failing test in the
list of all tests of R4: six of each row in row order, nine of each fitted seat in seat order (an unfitted seat
is not tested, and a line or position used twice fails at the later fitted record), that some seat is fitted,
and two of each profile in profile order; it is none exactly when every test passes.
Formalises R4. -/
def Obligations.TheFirstFailingTestOfAMapIsReported : Prop :=
  ∀ (m : MapRecs) (ps : Tab 4 Profile),
    mapFailure m ps = ((mapTests m ps).find? fun x => !x.2).map fun x => x.1

/-- For every command, queue and state, one step of the state whose queue is that command followed by the queue is
exec of the command on the state with the queue. The queue of waiting commands is the model's own field.
From spec/00_scope.md Terms and abbreviations (Event); spec/00_scope.md Block diagram (Host path). -/
def Obligations.AStepRunsTheCommandAtTheFront : Prop :=
  ∀ (c : Instr) (q : List Instr) (s : State),
    step { s with pending := c :: q } = exec c { s with pending := q }

/-- The model's choice, assumption log 5: with an empty queue a step answers a next state. While ignition is OFF, a
retention timer with more than one step left is one step lower; one with a step left has reached 0, and every
snapshot is discarded, with the timer stopped and RETENTION DISCARDED TIMER posted for the seats that held one.
With the timer stopped or ignition ON nothing changes. Nothing else changes.
From spec/08_ignition_doors_and_occupancy_retention.md 8.3. -/
def Obligations.AnEmptyQueueStepCountsTheRetentionTimer : Prop :=
  (∀ (s : State) (n : Nat), s.pending = [] → s.ret.ignition = .off → s.ret.timer = some n → 2 ≤ n →
    ∃ t, step s = .next t ∧ t = { s with ret := { s.ret with timer := some (n - 1) } }) ∧
  (∀ (s : State) (n : Nat), s.pending = [] → s.ret.ignition = .off → s.ret.timer = some n → n ≤ 1 →
    ∃ t, step s = .next t ∧
      t = { s with
        ret := { s.ret with snapshots := t.ret.snapshots, timer := none }
        lnk := enqueue (discardNotice .timer s t) s.lnk
        pins := { s.pins with attn := t.pins.attn } } ∧
      ∀ i : Seat, t.ret.snapshots.get i = none) ∧
  (∀ s : State, s.pending = [] → s.ret.ignition = .on ∨ s.ret.timer = none → step s = .next s)

/-- For every command and state exec answers a next state whose queue of waiting commands is as before: the part has
no fault and no refusal, every error the manual names being a reply or a flag.
From spec/00_scope.md Terms and abbreviations (Event). -/
def Obligations.EveryCommandAnswersANextStateAndKeepsTheQueue : Prop :=
  ∀ (c : Instr) (s : State), ∃ t, exec c s = .next t ∧ t.pending = s.pending

/-- State.reset, with the store load in flight, meets every law that the invariant statements show to be kept.
Values of the state that the manual does not give before the load (assumption log 2 to 4) are the model's.
From spec/01_cabin_map_and_seat_lifecycle.md 1.6 to 1.8; spec/02_mat_scanning.md 2.1 and 2.4;
spec/03_cell_correction_features_and_zero_capture.md 3.7 and 3.8; spec/04_verdicts.md 4.1;
spec/05_buckles_anchors_and_seat_faults.md 5.1 to 5.5; spec/06_belt_reminders.md 6.3 to 6.9;
spec/07_restraint_advisory.md 7.1 and 7.2; spec/08_ignition_doors_and_occupancy_retention.md 8.3;
spec/09_the_serial_link.md 9.2, 9.4 and 9.5; spec/10_settings_store_and_protection.md 10.2 and 10.3. -/
def Obligations.TheResetStateMeetsEveryLaw : Prop := Laws State.reset

/-- From every state that meets the laws, whatever command is at the front of the queue, a step leaves: row 0 not
removable and advisory seats in row 0 while the map is valid, a row FIXED exactly when it is not a removable row
of a valid map; a seat UNMAPPED exactly when unfitted or the map invalid and ABSENT exactly when its row is
REMOVED; confirmed UNKNOWN for every seat that is not ACTIVE; and every candidate, count, history and streak of
a record in its range.
From spec/01_cabin_map_and_seat_lifecycle.md 1.6 to 1.8; spec/04_verdicts.md 4.1 and 4.4;
spec/05_buckles_anchors_and_seat_faults.md 5.1 to 5.3 and 5.5. -/
def Obligations.EveryStepKeepsTheSeatLaws : Prop :=
  ∀ s t : State, Laws s → step s = .next t →
    MapLaw t ∧ LifecycleLaw t ∧ VerdictLaw t ∧ RecordsLaw t

/-- From every state that meets the laws, whatever command is at the front of the queue, a step leaves each position
mapped to the fitted seat of the working map that names it, its value ENABLE exactly when that seat is ACTIVE
and confirmed ADULT, SUPPRESS for any other ACTIVE seat and FAULT otherwise, its SUPA/SUPB pair showing that
value, and the superseded flag set only with a full mailbox.
From spec/07_restraint_advisory.md 7.1, 7.2 and 7.3; spec/00_scope.md General description. -/
def Obligations.EveryStepKeepsTheAdvisoryTrue : Prop :=
  ∀ s t : State, Laws s → step s = .next t →
    MappedLaw t ∧ AdvisoryLaw t ∧ MailboxLaw t

/-- From every state that meets the laws, whatever command is at the front of the queue, a step leaves every
reminder NONE with ignition OFF and in a state of the case of its seat with ignition ON; the visual timer 0
outside VISUAL and timers within the settings; a seat in VISUAL with some of its timer left and a seat in
AUDIBLE with some of its budget left; the start interval running, short of 0, or the flag set exactly with
ignition ON; and the cabin summary that of the reminder table and the Seat Table.
From spec/06_belt_reminders.md 6.2 to 6.9. -/
def Obligations.EveryStepKeepsTheRemindersInTheirCase : Prop :=
  ∀ s t : State, Laws s → step s = .next t →
    ReminderLaw t ∧ TimerLaw t ∧ StartLaw t ∧ SummaryLaw t

/-- From every state that meets the laws, whatever command is at the front of the queue, a step leaves SCAN in a
state that its timer, seat step, list, map validity and ignition agree with; at most 64 entries, an IDLE FEAT
with an empty queue and a BLOCKED one at a marker; Z and G of every cell in range, 300 and 256 where unmarked;
an open capture on an ACTIVE seat with ignition ON unless COMMITTING, its offsets in range while it waits and
the calibration commit in flight while it commits; and snapshots only with ignition OFF, the retention timer
running, short of 0, exactly while one is held.
From spec/02_mat_scanning.md 2.1, 2.2 and 2.4; spec/03_cell_correction_features_and_zero_capture.md 3.1, 3.7 and
3.8; spec/08_ignition_doors_and_occupancy_retention.md 8.3 and 8.5. -/
def Obligations.EveryStepKeepsTheScanCaptureAndRetentionLaws : Prop :=
  ∀ s t : State, Laws s → step s = .next t →
    ScanLaw t ∧ QueueLaw t ∧ CalibrationLaw t ∧ CaptureLaw t ∧ RetentionLaw t

/-- From every state that meets the laws, whatever command is at the front of the queue, a step leaves at most 32
notices, the level in 1..32 and ATTN high exactly when the notices reach it or the mailbox is full; the receiver
buffer fitting its state and the inter-byte timer running exactly outside HUNT; an open transfer with exactly
the parts below its expected index staged at their lengths; a reply of at most 55 body bytes; every setting in
its range and every working profile in range and ordered; and, while the load is in flight, the part as the full
reset left it.
From spec/09_the_serial_link.md 9.2, 9.4, 9.5 and 9.6; spec/10_settings_store_and_protection.md 10.1 to 10.3;
spec/06_belt_reminders.md 6.1; spec/02_mat_scanning.md 2.2; spec/01_cabin_map_and_seat_lifecycle.md 1.3;
spec/08_ignition_doors_and_occupancy_retention.md 8.6. -/
def Obligations.EveryStepKeepsTheLinkAndSettingsLaws : Prop :=
  ∀ s t : State, Laws s → step s = .next t →
    NoticeLaw t ∧ ReceiverLaw t ∧ TransferLaw t ∧ ReplyLaw t ∧ SettingsLaw t ∧ LoadingLaw t

/-- For every state, seat and command other than FRAME_HANDLING_COMPLETE and IGNITION_ON, the confirmed verdict of
the seat in the next state is the one before or UNKNOWN.
From spec/04_verdicts.md 4.5 and 4.9; spec/05_buckles_anchors_and_seat_faults.md 5.1;
spec/01_cabin_map_and_seat_lifecycle.md 1.8. -/
def Obligations.VerdictsAreConfirmedOnlyByFramesAndResumes : Prop :=
  ∀ (c : Instr) (s t : State) (i : Seat), exec c s = .next t → c ≠ .frameHandlingComplete → c ≠ .ignitionOn →
    (t.verd.seats.get i).confirmed = (s.verd.seats.get i).confirmed ∨ (t.verd.seats.get i).confirmed = .unknown

/-- For every state and command other than FULL_RESET, STORE_LOAD_COMPLETE, COMMIT_COMPLETE and
CLEAR_COMMIT_COMPLETE, the stored sections are unchanged, and a commit in flight stays in flight with what it
writes; so no request starts a second one. For every command other than FULL_RESET, STORE_LOAD_COMPLETE,
PROTECT_SET, PROTECTION_CLEAR, and RECEIVE_BYTE and UNKNOWN_REQUEST, which may carry one of those requests, the
four switches are unchanged.
From spec/10_settings_store_and_protection.md 10.3 and 10.4. -/
def Obligations.CommitsRunAloneAndSwitchesMoveOnlyByTheirRequests : Prop :=
  ∀ (c : Instr) (s t : State), exec c s = .next t →
    (touchesStore c = false → t.store.stored = s.store.stored ∧
      (s.store.commit ≠ .idle → t.store.commit = s.store.commit)) ∧
    (touchesSwitches c = false → t.store.switches = s.store.switches)
end

