-- ==== Sys2Proof/Laws/State.lean ====
section
/-! SUPPORT. One lemma per field per update of State and of the blocks, true by rfl, so that no later proof unfolds a
record update. -/

namespace Sys2Proof.Machine

variable (s : State)

/-! ### State.refreshAttn -/

@[simp] theorem State.refreshAttn_cmap : (s.refreshAttn).cmap = s.cmap := rfl
@[simp] theorem State.refreshAttn_scan : (s.refreshAttn).scan = s.scan := rfl
@[simp] theorem State.refreshAttn_feat : (s.refreshAttn).feat = s.feat := rfl
@[simp] theorem State.refreshAttn_verd : (s.refreshAttn).verd = s.verd := rfl
@[simp] theorem State.refreshAttn_rem : (s.refreshAttn).rem = s.rem := rfl
@[simp] theorem State.refreshAttn_adv : (s.refreshAttn).adv = s.adv := rfl
@[simp] theorem State.refreshAttn_ret : (s.refreshAttn).ret = s.ret := rfl
@[simp] theorem State.refreshAttn_lnk : (s.refreshAttn).lnk = s.lnk := rfl
@[simp] theorem State.refreshAttn_store : (s.refreshAttn).store = s.store := rfl
@[simp] theorem State.refreshAttn_pins : (s.refreshAttn).pins = { s.pins with attn := decide (s.lnk.level ≤ s.lnk.notices.length) || s.adv.mailbox.isSome } := rfl
@[simp] theorem State.refreshAttn_free : (s.refreshAttn).free = s.free := rfl
@[simp] theorem State.refreshAttn_pending : (s.refreshAttn).pending = s.pending := rfl

/-! ### post -/

@[simp] theorem post_cmap (n : Notice) : (post n s).cmap = s.cmap := rfl
@[simp] theorem post_scan (n : Notice) : (post n s).scan = s.scan := rfl
@[simp] theorem post_feat (n : Notice) : (post n s).feat = s.feat := rfl
@[simp] theorem post_verd (n : Notice) : (post n s).verd = s.verd := rfl
@[simp] theorem post_rem (n : Notice) : (post n s).rem = s.rem := rfl
@[simp] theorem post_adv (n : Notice) : (post n s).adv = s.adv := rfl
@[simp] theorem post_ret (n : Notice) : (post n s).ret = s.ret := rfl
@[simp] theorem post_lnk (n : Notice) : (post n s).lnk = s.lnk.post n := rfl
@[simp] theorem post_store (n : Notice) : (post n s).store = s.store := rfl
@[simp] theorem post_pins (n : Notice) : (post n s).pins = { s.pins with attn := decide ((s.lnk.post n).level ≤ (s.lnk.post n).notices.length) || s.adv.mailbox.isSome } := rfl
@[simp] theorem post_free (n : Notice) : (post n s).free = s.free := rfl
@[simp] theorem post_pending (n : Notice) : (post n s).pending = s.pending := rfl

/-! ### closeTransfer -/

@[simp] theorem closeTransfer_cmap : (closeTransfer s).cmap = s.cmap := rfl
@[simp] theorem closeTransfer_scan : (closeTransfer s).scan = s.scan := rfl
@[simp] theorem closeTransfer_feat : (closeTransfer s).feat = s.feat := rfl
@[simp] theorem closeTransfer_verd : (closeTransfer s).verd = s.verd := rfl
@[simp] theorem closeTransfer_rem : (closeTransfer s).rem = s.rem := rfl
@[simp] theorem closeTransfer_adv : (closeTransfer s).adv = s.adv := rfl
@[simp] theorem closeTransfer_ret : (closeTransfer s).ret = s.ret := rfl
@[simp] theorem closeTransfer_lnk : (closeTransfer s).lnk = { s.lnk with transfer := none } := rfl
@[simp] theorem closeTransfer_store : (closeTransfer s).store = s.store := rfl
@[simp] theorem closeTransfer_pins : (closeTransfer s).pins = s.pins := rfl
@[simp] theorem closeTransfer_free : (closeTransfer s).free = s.free := rfl
@[simp] theorem closeTransfer_pending : (closeTransfer s).pending = s.pending := rfl

/-! ### startCommit -/

@[simp] theorem startCommit_cmap (x : SectionImage) : (startCommit x s).cmap = s.cmap := rfl
@[simp] theorem startCommit_scan (x : SectionImage) : (startCommit x s).scan = s.scan := rfl
@[simp] theorem startCommit_feat (x : SectionImage) : (startCommit x s).feat = s.feat := rfl
@[simp] theorem startCommit_verd (x : SectionImage) : (startCommit x s).verd = s.verd := rfl
@[simp] theorem startCommit_rem (x : SectionImage) : (startCommit x s).rem = s.rem := rfl
@[simp] theorem startCommit_adv (x : SectionImage) : (startCommit x s).adv = s.adv := rfl
@[simp] theorem startCommit_ret (x : SectionImage) : (startCommit x s).ret = s.ret := rfl
@[simp] theorem startCommit_lnk (x : SectionImage) : (startCommit x s).lnk = s.lnk := rfl
@[simp] theorem startCommit_store (x : SectionImage) : (startCommit x s).store = { s.store with commit := .one x } := rfl
@[simp] theorem startCommit_pins (x : SectionImage) : (startCommit x s).pins = s.pins := rfl
@[simp] theorem startCommit_free (x : SectionImage) : (startCommit x s).free = s.free := rfl
@[simp] theorem startCommit_pending (x : SectionImage) : (startCommit x s).pending = s.pending := rfl

/-! ### State.withStep -/

@[simp] theorem State.withStep_cmap (st : SeatStep) : (s.withStep st).cmap = s.cmap := rfl
@[simp] theorem State.withStep_scan (st : SeatStep) : (s.withStep st).scan = { s.scan with step := some st } := rfl
@[simp] theorem State.withStep_feat (st : SeatStep) : (s.withStep st).feat = s.feat := rfl
@[simp] theorem State.withStep_verd (st : SeatStep) : (s.withStep st).verd = s.verd := rfl
@[simp] theorem State.withStep_rem (st : SeatStep) : (s.withStep st).rem = s.rem := rfl
@[simp] theorem State.withStep_adv (st : SeatStep) : (s.withStep st).adv = s.adv := rfl
@[simp] theorem State.withStep_ret (st : SeatStep) : (s.withStep st).ret = s.ret := rfl
@[simp] theorem State.withStep_lnk (st : SeatStep) : (s.withStep st).lnk = s.lnk := rfl
@[simp] theorem State.withStep_store (st : SeatStep) : (s.withStep st).store = s.store := rfl
@[simp] theorem State.withStep_pins (st : SeatStep) : (s.withStep st).pins = s.pins := rfl
@[simp] theorem State.withStep_free (st : SeatStep) : (s.withStep st).free = s.free := rfl
@[simp] theorem State.withStep_pending (st : SeatStep) : (s.withStep st).pending = s.pending := rfl

/-! ### State.withTable -/

@[simp] theorem State.withTable_cmap (t : Tab 16 ReminderRec) : (s.withTable t).cmap = s.cmap := rfl
@[simp] theorem State.withTable_scan (t : Tab 16 ReminderRec) : (s.withTable t).scan = s.scan := rfl
@[simp] theorem State.withTable_feat (t : Tab 16 ReminderRec) : (s.withTable t).feat = s.feat := rfl
@[simp] theorem State.withTable_verd (t : Tab 16 ReminderRec) : (s.withTable t).verd = s.verd := rfl
@[simp] theorem State.withTable_rem (t : Tab 16 ReminderRec) : (s.withTable t).rem = { s.rem with table := t } := rfl
@[simp] theorem State.withTable_adv (t : Tab 16 ReminderRec) : (s.withTable t).adv = s.adv := rfl
@[simp] theorem State.withTable_ret (t : Tab 16 ReminderRec) : (s.withTable t).ret = s.ret := rfl
@[simp] theorem State.withTable_lnk (t : Tab 16 ReminderRec) : (s.withTable t).lnk = s.lnk := rfl
@[simp] theorem State.withTable_store (t : Tab 16 ReminderRec) : (s.withTable t).store = s.store := rfl
@[simp] theorem State.withTable_pins (t : Tab 16 ReminderRec) : (s.withTable t).pins = s.pins := rfl
@[simp] theorem State.withTable_free (t : Tab 16 ReminderRec) : (s.withTable t).free = s.free := rfl
@[simp] theorem State.withTable_pending (t : Tab 16 ReminderRec) : (s.withTable t).pending = s.pending := rfl

/-! ### State.refreshSummary -/

@[simp] theorem State.refreshSummary_cmap : (s.refreshSummary).cmap = s.cmap := rfl
@[simp] theorem State.refreshSummary_scan : (s.refreshSummary).scan = s.scan := rfl
@[simp] theorem State.refreshSummary_feat : (s.refreshSummary).feat = s.feat := rfl
@[simp] theorem State.refreshSummary_verd : (s.refreshSummary).verd = s.verd := rfl
@[simp] theorem State.refreshSummary_rem : (s.refreshSummary).rem = { s.rem with summary := s.deriveSummary } := rfl
@[simp] theorem State.refreshSummary_adv : (s.refreshSummary).adv = s.adv := rfl
@[simp] theorem State.refreshSummary_ret : (s.refreshSummary).ret = s.ret := rfl
@[simp] theorem State.refreshSummary_lnk : (s.refreshSummary).lnk = s.lnk := rfl
@[simp] theorem State.refreshSummary_store : (s.refreshSummary).store = s.store := rfl
@[simp] theorem State.refreshSummary_pins : (s.refreshSummary).pins = s.pins := rfl
@[simp] theorem State.refreshSummary_free : (s.refreshSummary).free = s.free := rfl
@[simp] theorem State.refreshSummary_pending : (s.refreshSummary).pending = s.pending := rfl

/-! ### withFeat -/

@[simp] theorem withFeat_cmap (f : Feat) : (withFeat f s).cmap = s.cmap := rfl
@[simp] theorem withFeat_scan (f : Feat) : (withFeat f s).scan = s.scan := rfl
@[simp] theorem withFeat_feat (f : Feat) : (withFeat f s).feat = f := rfl
@[simp] theorem withFeat_verd (f : Feat) : (withFeat f s).verd = s.verd := rfl
@[simp] theorem withFeat_rem (f : Feat) : (withFeat f s).rem = s.rem := rfl
@[simp] theorem withFeat_adv (f : Feat) : (withFeat f s).adv = s.adv := rfl
@[simp] theorem withFeat_ret (f : Feat) : (withFeat f s).ret = s.ret := rfl
@[simp] theorem withFeat_lnk (f : Feat) : (withFeat f s).lnk = s.lnk := rfl
@[simp] theorem withFeat_store (f : Feat) : (withFeat f s).store = s.store := rfl
@[simp] theorem withFeat_pins (f : Feat) : (withFeat f s).pins = s.pins := rfl
@[simp] theorem withFeat_free (f : Feat) : (withFeat f s).free = s.free := rfl
@[simp] theorem withFeat_pending (f : Feat) : (withFeat f s).pending = s.pending := rfl

/-! ### verdFresh -/

@[simp] theorem verdFresh_cmap : (verdFresh s).cmap = s.cmap := rfl
@[simp] theorem verdFresh_scan : (verdFresh s).scan = s.scan := rfl
@[simp] theorem verdFresh_feat : (verdFresh s).feat = s.feat := rfl
@[simp] theorem verdFresh_verd : (verdFresh s).verd = { seats := s.cmap.freshSeats, slot := none } := rfl
@[simp] theorem verdFresh_rem : (verdFresh s).rem = s.rem := rfl
@[simp] theorem verdFresh_adv : (verdFresh s).adv = s.adv := rfl
@[simp] theorem verdFresh_ret : (verdFresh s).ret = s.ret := rfl
@[simp] theorem verdFresh_lnk : (verdFresh s).lnk = s.lnk := rfl
@[simp] theorem verdFresh_store : (verdFresh s).store = s.store := rfl
@[simp] theorem verdFresh_pins : (verdFresh s).pins = s.pins := rfl
@[simp] theorem verdFresh_free : (verdFresh s).free = s.free := rfl
@[simp] theorem verdFresh_pending : (verdFresh s).pending = s.pending := rfl

/-! ### closeCapture -/

@[simp] theorem closeCapture_cmap : (closeCapture s).cmap = s.cmap := rfl
@[simp] theorem closeCapture_scan : (closeCapture s).scan = s.scan := rfl
@[simp] theorem closeCapture_feat : (closeCapture s).feat = { s.feat with capture := none } := rfl
@[simp] theorem closeCapture_verd : (closeCapture s).verd = s.verd := rfl
@[simp] theorem closeCapture_rem : (closeCapture s).rem = s.rem := rfl
@[simp] theorem closeCapture_adv : (closeCapture s).adv = s.adv := rfl
@[simp] theorem closeCapture_ret : (closeCapture s).ret = s.ret := rfl
@[simp] theorem closeCapture_lnk : (closeCapture s).lnk = s.lnk := rfl
@[simp] theorem closeCapture_store : (closeCapture s).store = s.store := rfl
@[simp] theorem closeCapture_pins : (closeCapture s).pins = s.pins := rfl
@[simp] theorem closeCapture_free : (closeCapture s).free = s.free := rfl
@[simp] theorem closeCapture_pending : (closeCapture s).pending = s.pending := rfl

/-! ### cancelProbe -/

@[simp] theorem cancelProbe_cmap (c : CancelCause) : (cancelProbe c s).cmap = s.cmap := rfl
@[simp] theorem cancelProbe_scan (c : CancelCause) : (cancelProbe c s).scan = { s.scan with probe := .free (some c) } := rfl
@[simp] theorem cancelProbe_feat (c : CancelCause) : (cancelProbe c s).feat = s.feat := rfl
@[simp] theorem cancelProbe_verd (c : CancelCause) : (cancelProbe c s).verd = s.verd := rfl
@[simp] theorem cancelProbe_rem (c : CancelCause) : (cancelProbe c s).rem = s.rem := rfl
@[simp] theorem cancelProbe_adv (c : CancelCause) : (cancelProbe c s).adv = s.adv := rfl
@[simp] theorem cancelProbe_ret (c : CancelCause) : (cancelProbe c s).ret = s.ret := rfl
@[simp] theorem cancelProbe_lnk (c : CancelCause) : (cancelProbe c s).lnk = s.lnk := rfl
@[simp] theorem cancelProbe_store (c : CancelCause) : (cancelProbe c s).store = s.store := rfl
@[simp] theorem cancelProbe_pins (c : CancelCause) : (cancelProbe c s).pins = s.pins := rfl
@[simp] theorem cancelProbe_free (c : CancelCause) : (cancelProbe c s).free = s.free := rfl
@[simp] theorem cancelProbe_pending (c : CancelCause) : (cancelProbe c s).pending = s.pending := rfl

/-! ### endInIgnition -/

@[simp] theorem endInIgnition_cmap : (endInIgnition s).cmap = s.cmap := rfl
@[simp] theorem endInIgnition_scan : (endInIgnition s).scan = s.scan.settled true s.ret.ignition := rfl
@[simp] theorem endInIgnition_feat : (endInIgnition s).feat = s.feat := rfl
@[simp] theorem endInIgnition_verd : (endInIgnition s).verd = s.verd := rfl
@[simp] theorem endInIgnition_rem : (endInIgnition s).rem = s.rem := rfl
@[simp] theorem endInIgnition_adv : (endInIgnition s).adv = s.adv := rfl
@[simp] theorem endInIgnition_ret : (endInIgnition s).ret = s.ret := rfl
@[simp] theorem endInIgnition_lnk : (endInIgnition s).lnk = s.lnk := rfl
@[simp] theorem endInIgnition_store : (endInIgnition s).store = s.store := rfl
@[simp] theorem endInIgnition_pins : (endInIgnition s).pins = s.pins := rfl
@[simp] theorem endInIgnition_free : (endInIgnition s).free = s.free := rfl
@[simp] theorem endInIgnition_pending : (endInIgnition s).pending = s.pending := rfl

/-! ### evaluateHold -/

@[simp] theorem evaluateHold_cmap : (evaluateHold s).cmap = s.cmap := rfl
@[simp] theorem evaluateHold_scan : (evaluateHold s).scan = s.scan := rfl
@[simp] theorem evaluateHold_feat : (evaluateHold s).feat = s.feat := rfl
@[simp] theorem evaluateHold_verd : (evaluateHold s).verd = { s.verd with seats := Tab.ofFn fun i => { s.verd.seats.get i with motionHold := nextHold s i } } := rfl
@[simp] theorem evaluateHold_rem : (evaluateHold s).rem = s.rem := rfl
@[simp] theorem evaluateHold_adv : (evaluateHold s).adv = s.adv := rfl
@[simp] theorem evaluateHold_ret : (evaluateHold s).ret = s.ret := rfl
@[simp] theorem evaluateHold_lnk : (evaluateHold s).lnk = s.lnk := rfl
@[simp] theorem evaluateHold_store : (evaluateHold s).store = s.store := rfl
@[simp] theorem evaluateHold_pins : (evaluateHold s).pins = s.pins := rfl
@[simp] theorem evaluateHold_free : (evaluateHold s).free = s.free := rfl
@[simp] theorem evaluateHold_pending : (evaluateHold s).pending = s.pending := rfl

/-! ### emptyMailbox -/

@[simp] theorem emptyMailbox_cmap : (emptyMailbox s).cmap = s.cmap := rfl
@[simp] theorem emptyMailbox_scan : (emptyMailbox s).scan = s.scan := rfl
@[simp] theorem emptyMailbox_feat : (emptyMailbox s).feat = s.feat := rfl
@[simp] theorem emptyMailbox_verd : (emptyMailbox s).verd = s.verd := rfl
@[simp] theorem emptyMailbox_rem : (emptyMailbox s).rem = s.rem := rfl
@[simp] theorem emptyMailbox_adv : (emptyMailbox s).adv = { s.adv with mailbox := none, superseded := false } := rfl
@[simp] theorem emptyMailbox_ret : (emptyMailbox s).ret = s.ret := rfl
@[simp] theorem emptyMailbox_lnk : (emptyMailbox s).lnk = s.lnk := rfl
@[simp] theorem emptyMailbox_store : (emptyMailbox s).store = s.store := rfl
@[simp] theorem emptyMailbox_pins : (emptyMailbox s).pins = { s.pins with attn := decide (s.lnk.level ≤ s.lnk.notices.length) || false } := rfl
@[simp] theorem emptyMailbox_free : (emptyMailbox s).free = s.free := rfl
@[simp] theorem emptyMailbox_pending : (emptyMailbox s).pending = s.pending := rfl

/-! ### clearCommit -/

@[simp] theorem clearCommit_cmap : (clearCommit s).cmap = s.cmap := rfl
@[simp] theorem clearCommit_scan : (clearCommit s).scan = s.scan := rfl
@[simp] theorem clearCommit_feat : (clearCommit s).feat = s.feat := rfl
@[simp] theorem clearCommit_verd : (clearCommit s).verd = s.verd := rfl
@[simp] theorem clearCommit_rem : (clearCommit s).rem = s.rem := rfl
@[simp] theorem clearCommit_adv : (clearCommit s).adv = s.adv := rfl
@[simp] theorem clearCommit_ret : (clearCommit s).ret = s.ret := rfl
@[simp] theorem clearCommit_lnk : (clearCommit s).lnk = s.lnk := rfl
@[simp] theorem clearCommit_pins : (clearCommit s).pins = s.pins := rfl
@[simp] theorem clearCommit_free : (clearCommit s).free = s.free := rfl
@[simp] theorem clearCommit_pending : (clearCommit s).pending = s.pending := rfl

/-! ### beginSeat -/

@[simp] theorem beginSeat_cmap (i : Seat) : (beginSeat i s).cmap = s.cmap := rfl
@[simp] theorem beginSeat_feat (i : Seat) : (beginSeat i s).feat = s.feat := rfl
@[simp] theorem beginSeat_verd (i : Seat) : (beginSeat i s).verd = s.verd := rfl
@[simp] theorem beginSeat_rem (i : Seat) : (beginSeat i s).rem = s.rem := rfl
@[simp] theorem beginSeat_adv (i : Seat) : (beginSeat i s).adv = s.adv := rfl
@[simp] theorem beginSeat_ret (i : Seat) : (beginSeat i s).ret = s.ret := rfl
@[simp] theorem beginSeat_lnk (i : Seat) : (beginSeat i s).lnk = s.lnk := rfl
@[simp] theorem beginSeat_store (i : Seat) : (beginSeat i s).store = s.store := rfl
@[simp] theorem beginSeat_pins (i : Seat) : (beginSeat i s).pins = s.pins := rfl
@[simp] theorem beginSeat_free (i : Seat) : (beginSeat i s).free = s.free := rfl
@[simp] theorem beginSeat_pending (i : Seat) : (beginSeat i s).pending = s.pending := rfl

/-! ### beginProbePass -/

@[simp] theorem beginProbePass_cmap (i : Seat) : (beginProbePass i s).cmap = s.cmap := rfl
@[simp] theorem beginProbePass_feat (i : Seat) : (beginProbePass i s).feat = s.feat := rfl
@[simp] theorem beginProbePass_verd (i : Seat) : (beginProbePass i s).verd = s.verd := rfl
@[simp] theorem beginProbePass_rem (i : Seat) : (beginProbePass i s).rem = s.rem := rfl
@[simp] theorem beginProbePass_adv (i : Seat) : (beginProbePass i s).adv = s.adv := rfl
@[simp] theorem beginProbePass_ret (i : Seat) : (beginProbePass i s).ret = s.ret := rfl
@[simp] theorem beginProbePass_lnk (i : Seat) : (beginProbePass i s).lnk = s.lnk := rfl
@[simp] theorem beginProbePass_store (i : Seat) : (beginProbePass i s).store = s.store := rfl
@[simp] theorem beginProbePass_pins (i : Seat) : (beginProbePass i s).pins = s.pins := rfl
@[simp] theorem beginProbePass_free (i : Seat) : (beginProbePass i s).free = s.free := rfl
@[simp] theorem beginProbePass_pending (i : Seat) : (beginProbePass i s).pending = s.pending := rfl

/-! ### scanApply -/

@[simp] theorem scanApply_cmap : (scanApply s).cmap = s.cmap := rfl
@[simp] theorem scanApply_feat : (scanApply s).feat = s.feat := rfl
@[simp] theorem scanApply_verd : (scanApply s).verd = s.verd := rfl
@[simp] theorem scanApply_rem : (scanApply s).rem = s.rem := rfl
@[simp] theorem scanApply_adv : (scanApply s).adv = s.adv := rfl
@[simp] theorem scanApply_ret : (scanApply s).ret = s.ret := rfl
@[simp] theorem scanApply_lnk : (scanApply s).lnk = s.lnk := rfl
@[simp] theorem scanApply_store : (scanApply s).store = s.store := rfl
@[simp] theorem scanApply_pins : (scanApply s).pins = s.pins := rfl
@[simp] theorem scanApply_free : (scanApply s).free = s.free := rfl
@[simp] theorem scanApply_pending : (scanApply s).pending = s.pending := rfl

/-! ### scanRestart -/

@[simp] theorem scanRestart_cmap : (scanRestart s).cmap = s.cmap := rfl
@[simp] theorem scanRestart_feat : (scanRestart s).feat = s.feat := rfl
@[simp] theorem scanRestart_verd : (scanRestart s).verd = s.verd := rfl
@[simp] theorem scanRestart_rem : (scanRestart s).rem = s.rem := rfl
@[simp] theorem scanRestart_adv : (scanRestart s).adv = s.adv := rfl
@[simp] theorem scanRestart_ret : (scanRestart s).ret = s.ret := rfl
@[simp] theorem scanRestart_lnk : (scanRestart s).lnk = s.lnk := rfl
@[simp] theorem scanRestart_store : (scanRestart s).store = s.store := rfl
@[simp] theorem scanRestart_pins : (scanRestart s).pins = s.pins := rfl
@[simp] theorem scanRestart_free : (scanRestart s).free = s.free := rfl
@[simp] theorem scanRestart_pending : (scanRestart s).pending = s.pending := rfl

/-! ### captureCommits -/

@[simp] theorem captureCommits_cmap (c : Capture) (o : Tab 16 Nat) : (captureCommits c o s).cmap = s.cmap := rfl
@[simp] theorem captureCommits_scan (c : Capture) (o : Tab 16 Nat) : (captureCommits c o s).scan = s.scan := rfl
@[simp] theorem captureCommits_verd (c : Capture) (o : Tab 16 Nat) : (captureCommits c o s).verd = s.verd := rfl
@[simp] theorem captureCommits_rem (c : Capture) (o : Tab 16 Nat) : (captureCommits c o s).rem = s.rem := rfl
@[simp] theorem captureCommits_adv (c : Capture) (o : Tab 16 Nat) : (captureCommits c o s).adv = s.adv := rfl
@[simp] theorem captureCommits_ret (c : Capture) (o : Tab 16 Nat) : (captureCommits c o s).ret = s.ret := rfl
@[simp] theorem captureCommits_lnk (c : Capture) (o : Tab 16 Nat) : (captureCommits c o s).lnk = s.lnk := rfl
@[simp] theorem captureCommits_pins (c : Capture) (o : Tab 16 Nat) : (captureCommits c o s).pins = s.pins := rfl
@[simp] theorem captureCommits_free (c : Capture) (o : Tab 16 Nat) : (captureCommits c o s).free = s.free := rfl
@[simp] theorem captureCommits_pending (c : Capture) (o : Tab 16 Nat) : (captureCommits c o s).pending = s.pending := rfl

/-! ### loadSections -/

@[simp] theorem loadSections_verd : (loadSections s).verd = s.verd := rfl
@[simp] theorem loadSections_adv : (loadSections s).adv = s.adv := rfl
@[simp] theorem loadSections_lnk : (loadSections s).lnk = s.lnk := rfl
@[simp] theorem loadSections_pins : (loadSections s).pins = s.pins := rfl
@[simp] theorem loadSections_free : (loadSections s).free = s.free := rfl
@[simp] theorem loadSections_pending : (loadSections s).pending = s.pending := rfl

/-! ### Lnk.hunting -/

@[simp] theorem Lnk.hunting_rxState (l : Lnk) : (l.hunting).rxState = .hunt := rfl
@[simp] theorem Lnk.hunting_rxLen (l : Lnk) : (l.hunting).rxLen = l.rxLen := rfl
@[simp] theorem Lnk.hunting_rxBuf (l : Lnk) : (l.hunting).rxBuf = l.rxBuf := rfl
@[simp] theorem Lnk.hunting_rxCheck (l : Lnk) : (l.hunting).rxCheck = l.rxCheck := rfl
@[simp] theorem Lnk.hunting_interByte (l : Lnk) : (l.hunting).interByte = false := rfl
@[simp] theorem Lnk.hunting_dispatch (l : Lnk) : (l.hunting).dispatch = l.dispatch := rfl
@[simp] theorem Lnk.hunting_transfer (l : Lnk) : (l.hunting).transfer = l.transfer := rfl
@[simp] theorem Lnk.hunting_notices (l : Lnk) : (l.hunting).notices = l.notices := rfl
@[simp] theorem Lnk.hunting_overflow (l : Lnk) : (l.hunting).overflow = l.overflow := rfl
@[simp] theorem Lnk.hunting_level (l : Lnk) : (l.hunting).level = l.level := rfl

/-! ### Lnk.emptied -/

@[simp] theorem Lnk.emptied_rxState (l : Lnk) : (l.emptied).rxState = l.rxState := rfl
@[simp] theorem Lnk.emptied_rxLen (l : Lnk) : (l.emptied).rxLen = l.rxLen := rfl
@[simp] theorem Lnk.emptied_rxBuf (l : Lnk) : (l.emptied).rxBuf = l.rxBuf := rfl
@[simp] theorem Lnk.emptied_rxCheck (l : Lnk) : (l.emptied).rxCheck = l.rxCheck := rfl
@[simp] theorem Lnk.emptied_interByte (l : Lnk) : (l.emptied).interByte = l.interByte := rfl
@[simp] theorem Lnk.emptied_dispatch (l : Lnk) : (l.emptied).dispatch = l.dispatch := rfl
@[simp] theorem Lnk.emptied_transfer (l : Lnk) : (l.emptied).transfer = l.transfer := rfl
@[simp] theorem Lnk.emptied_notices (l : Lnk) : (l.emptied).notices = [] := rfl
@[simp] theorem Lnk.emptied_overflow (l : Lnk) : (l.emptied).overflow = false := rfl
@[simp] theorem Lnk.emptied_level (l : Lnk) : (l.emptied).level = l.level := rfl

/-! ### Scan.atRest -/

@[simp] theorem Scan.atRest_state (c : Scan) (st : ScanState) (n : Option Nat) : (c.atRest st n).state = st := rfl
@[simp] theorem Scan.atRest_closing (c : Scan) (st : ScanState) (n : Option Nat) : (c.atRest st n).closing = false := rfl
@[simp] theorem Scan.atRest_visited (c : Scan) (st : ScanState) (n : Option Nat) : (c.atRest st n).visited = [] := rfl
@[simp] theorem Scan.atRest_step (c : Scan) (st : ScanState) (n : Option Nat) : (c.atRest st n).step = none := rfl
@[simp] theorem Scan.atRest_rest (c : Scan) (st : ScanState) (n : Option Nat) : (c.atRest st n).rest = [] := rfl
@[simp] theorem Scan.atRest_gain (c : Scan) (st : ScanState) (n : Option Nat) : (c.atRest st n).gain = c.gain := rfl
@[simp] theorem Scan.atRest_interval (c : Scan) (st : ScanState) (n : Option Nat) : (c.atRest st n).interval = n := rfl
@[simp] theorem Scan.atRest_queue (c : Scan) (st : ScanState) (n : Option Nat) : (c.atRest st n).queue = c.queue := rfl
@[simp] theorem Scan.atRest_probe (c : Scan) (st : ScanState) (n : Option Nat) : (c.atRest st n).probe = c.probe := rfl
@[simp] theorem Scan.atRest_overrun (c : Scan) (st : ScanState) (n : Option Nat) : (c.atRest st n).overrun = c.overrun := rfl
@[simp] theorem Scan.atRest_tornFlag (c : Scan) (st : ScanState) (n : Option Nat) : (c.atRest st n).tornFlag = c.tornFlag := rfl
@[simp] theorem Scan.atRest_timing (c : Scan) (st : ScanState) (n : Option Nat) : (c.atRest st n).timing = c.timing := rfl

/-! ### Scan.flushed -/

@[simp] theorem Scan.flushed_state (c : Scan) : (c.flushed).state = c.state := rfl
@[simp] theorem Scan.flushed_closing (c : Scan) : (c.flushed).closing = c.closing := rfl
@[simp] theorem Scan.flushed_visited (c : Scan) : (c.flushed).visited = c.visited := rfl
@[simp] theorem Scan.flushed_step (c : Scan) : (c.flushed).step = c.step := rfl
@[simp] theorem Scan.flushed_rest (c : Scan) : (c.flushed).rest = c.rest := rfl
@[simp] theorem Scan.flushed_gain (c : Scan) : (c.flushed).gain = c.gain := rfl
@[simp] theorem Scan.flushed_interval (c : Scan) : (c.flushed).interval = c.interval := rfl
@[simp] theorem Scan.flushed_queue (c : Scan) : (c.flushed).queue = [] := rfl
@[simp] theorem Scan.flushed_probe (c : Scan) : (c.flushed).probe = c.probe := rfl
@[simp] theorem Scan.flushed_overrun (c : Scan) : (c.flushed).overrun = c.overrun := rfl
@[simp] theorem Scan.flushed_tornFlag (c : Scan) : (c.flushed).tornFlag = c.tornFlag := rfl
@[simp] theorem Scan.flushed_timing (c : Scan) : (c.flushed).timing = c.timing := rfl

/-! ### Ret.watch -/

@[simp] theorem Ret.watch_ignition (r : Ret) (p : Pins) : (r.watch p).ignition = r.ignition := rfl
@[simp] theorem Ret.watch_ignDebounce (r : Ret) (p : Pins) : (r.watch p).ignDebounce = decide (p.ign ≠ decide (r.ignition = .on)) := rfl
@[simp] theorem Ret.watch_doorOpen (r : Ret) (p : Pins) : (r.watch p).doorOpen = r.doorOpen := rfl
@[simp] theorem Ret.watch_doorDebounce (r : Ret) (p : Pins) : (r.watch p).doorDebounce = Tab.ofFn fun d => decide (p.door.get d ≠ r.doorOpen.get d) := rfl
@[simp] theorem Ret.watch_snapshots (r : Ret) (p : Pins) : (r.watch p).snapshots = r.snapshots := rfl
@[simp] theorem Ret.watch_timer (r : Ret) (p : Pins) : (r.watch p).timer = r.timer := rfl
@[simp] theorem Ret.watch_tRetain (r : Ret) (p : Pins) : (r.watch p).tRetain = r.tRetain := rfl

/-! ### Ret.doorSettles -/

@[simp] theorem Ret.doorSettles_ignition (r : Ret) (d : Door) (o : Bool) : (r.doorSettles d o).ignition = r.ignition := rfl
@[simp] theorem Ret.doorSettles_ignDebounce (r : Ret) (d : Door) (o : Bool) : (r.doorSettles d o).ignDebounce = r.ignDebounce := rfl
@[simp] theorem Ret.doorSettles_doorOpen (r : Ret) (d : Door) (o : Bool) : (r.doorSettles d o).doorOpen = r.doorOpen.set d o := rfl
@[simp] theorem Ret.doorSettles_doorDebounce (r : Ret) (d : Door) (o : Bool) : (r.doorSettles d o).doorDebounce = r.doorDebounce.set d false := rfl
@[simp] theorem Ret.doorSettles_snapshots (r : Ret) (d : Door) (o : Bool) : (r.doorSettles d o).snapshots = r.snapshots := rfl
@[simp] theorem Ret.doorSettles_timer (r : Ret) (d : Door) (o : Bool) : (r.doorSettles d o).timer = r.timer := rfl
@[simp] theorem Ret.doorSettles_tRetain (r : Ret) (d : Door) (o : Bool) : (r.doorSettles d o).tRetain = r.tRetain := rfl

/-! ### Ret.drop -/

@[simp] theorem Ret.drop_ignition (r : Ret) (which : Seat → Bool) : (r.drop which).ignition = r.ignition := rfl
@[simp] theorem Ret.drop_ignDebounce (r : Ret) (which : Seat → Bool) : (r.drop which).ignDebounce = r.ignDebounce := rfl
@[simp] theorem Ret.drop_doorOpen (r : Ret) (which : Seat → Bool) : (r.drop which).doorOpen = r.doorOpen := rfl
@[simp] theorem Ret.drop_doorDebounce (r : Ret) (which : Seat → Bool) : (r.drop which).doorDebounce = r.doorDebounce := rfl
@[simp] theorem Ret.drop_snapshots (r : Ret) (which : Seat → Bool) : (r.drop which).snapshots = Tab.ofFn fun i => if which i then none else r.snapshots.get i := rfl
@[simp] theorem Ret.drop_timer (r : Ret) (which : Seat → Bool) : (r.drop which).timer = if anySnapshot (Tab.ofFn fun i => if which i then none else r.snapshots.get i) then r.timer else none := rfl
@[simp] theorem Ret.drop_tRetain (r : Ret) (which : Seat → Bool) : (r.drop which).tRetain = r.tRetain := rfl

/-! ### Adv.mail -/

@[simp] theorem Adv.mail_positions (a : Adv) (r : AdvisoryRec) : (a.mail r).positions = a.positions := rfl
@[simp] theorem Adv.mail_mailbox (a : Adv) (r : AdvisoryRec) : (a.mail r).mailbox = some r := rfl
@[simp] theorem Adv.mail_superseded (a : Adv) (r : AdvisoryRec) : (a.mail r).superseded = (a.superseded || a.mailbox.isSome) := rfl

/-! ### ReminderRec.to -/

@[simp] theorem ReminderRec.to_state (r : ReminderRec) (st : ReminderState) : (r.to st).state = st := rfl
@[simp] theorem ReminderRec.to_visual (r : ReminderRec) (st : ReminderState) : (r.to st).visual = 0 := rfl
@[simp] theorem ReminderRec.to_budget (r : ReminderRec) (st : ReminderState) : (r.to st).budget = r.budget := rfl

/-! ### CMap.applied -/

@[simp] theorem CMap.applied_rows (c : CMap) (p : Pins) (m : MapRecs) (v : Bool) : (c.applied p m v).rows = m.rows := rfl
@[simp] theorem CMap.applied_seats (c : CMap) (p : Pins) (m : MapRecs) (v : Bool) : (c.applied p m v).seats = m.seats := rfl
@[simp] theorem CMap.applied_profiles (c : CMap) (p : Pins) (m : MapRecs) (v : Bool) : (c.applied p m v).profiles = c.profiles := rfl
@[simp] theorem CMap.applied_valid (c : CMap) (p : Pins) (m : MapRecs) (v : Bool) : (c.applied p m v).valid = v := rfl
@[simp] theorem CMap.applied_strap (c : CMap) (p : Pins) (m : MapRecs) (v : Bool) : (c.applied p m v).strap = c.strap := rfl

/-! ### CMap.rowBecomes -/

@[simp] theorem CMap.rowBecomes_rows (c : CMap) (i : Row) (st : RowState) : (c.rowBecomes i st).rows = c.rows := rfl
@[simp] theorem CMap.rowBecomes_seats (c : CMap) (i : Row) (st : RowState) : (c.rowBecomes i st).seats = c.seats := rfl
@[simp] theorem CMap.rowBecomes_profiles (c : CMap) (i : Row) (st : RowState) : (c.rowBecomes i st).profiles = c.profiles := rfl
@[simp] theorem CMap.rowBecomes_valid (c : CMap) (i : Row) (st : RowState) : (c.rowBecomes i st).valid = c.valid := rfl
@[simp] theorem CMap.rowBecomes_strap (c : CMap) (i : Row) (st : RowState) : (c.rowBecomes i st).strap = c.strap := rfl
@[simp] theorem CMap.rowBecomes_rowState (c : CMap) (i : Row) (st : RowState) : (c.rowBecomes i st).rowState = c.rowState.set i st := rfl
@[simp] theorem CMap.rowBecomes_rowDebounce (c : CMap) (i : Row) (st : RowState) : (c.rowBecomes i st).rowDebounce = c.rowDebounce.set i false := rfl

/-! ### CMap.lineChanged -/

@[simp] theorem CMap.lineChanged_rows (c : CMap) (l : Line) (v : Bool) : (c.lineChanged l v).rows = c.rows := rfl
@[simp] theorem CMap.lineChanged_seats (c : CMap) (l : Line) (v : Bool) : (c.lineChanged l v).seats = c.seats := rfl
@[simp] theorem CMap.lineChanged_profiles (c : CMap) (l : Line) (v : Bool) : (c.lineChanged l v).profiles = c.profiles := rfl
@[simp] theorem CMap.lineChanged_valid (c : CMap) (l : Line) (v : Bool) : (c.lineChanged l v).valid = c.valid := rfl
@[simp] theorem CMap.lineChanged_strap (c : CMap) (l : Line) (v : Bool) : (c.lineChanged l v).strap = c.strap := rfl
@[simp] theorem CMap.lineChanged_rowState (c : CMap) (l : Line) (v : Bool) : (c.lineChanged l v).rowState = c.rowState := rfl

/-! ### SeatRec.faulted -/

@[simp] theorem SeatRec.faulted_lifecycle (r : SeatRec) : (r.faulted).lifecycle = .faulted := rfl
@[simp] theorem SeatRec.faulted_confirmed (r : SeatRec) : (r.faulted).confirmed = .unknown := rfl
@[simp] theorem SeatRec.faulted_candidate (r : SeatRec) : (r.faulted).candidate = none := rfl
@[simp] theorem SeatRec.faulted_candidateCount (r : SeatRec) : (r.faulted).candidateCount = 0 := rfl
@[simp] theorem SeatRec.faulted_history (r : SeatRec) : (r.faulted).history = [] := rfl
@[simp] theorem SeatRec.faulted_evicted (r : SeatRec) : (r.faulted).evicted = none := rfl
@[simp] theorem SeatRec.faulted_unstable (r : SeatRec) : (r.faulted).unstable = false := rfl
@[simp] theorem SeatRec.faulted_motionHold (r : SeatRec) : (r.faulted).motionHold = r.motionHold := rfl
@[simp] theorem SeatRec.faulted_features (r : SeatRec) : (r.faulted).features = r.features := rfl
@[simp] theorem SeatRec.faulted_buckle (r : SeatRec) : (r.faulted).buckle = r.buckle := rfl
@[simp] theorem SeatRec.faulted_agree (r : SeatRec) : (r.faulted).agree = r.agree := rfl
@[simp] theorem SeatRec.faulted_buckleStreak (r : SeatRec) : (r.faulted).buckleStreak = r.buckleStreak := rfl
@[simp] theorem SeatRec.faulted_anchor (r : SeatRec) : (r.faulted).anchor = r.anchor := rfl
@[simp] theorem SeatRec.faulted_tensionFault (r : SeatRec) : (r.faulted).tensionFault = r.tensionFault := rfl
@[simp] theorem SeatRec.faulted_tensionStreak (r : SeatRec) : (r.faulted).tensionStreak = r.tensionStreak := rfl
@[simp] theorem SeatRec.faulted_matStreak (r : SeatRec) : (r.faulted).matStreak = r.matStreak := rfl
@[simp] theorem SeatRec.faulted_cleanStreak (r : SeatRec) : (r.faulted).cleanStreak = r.cleanStreak := rfl
@[simp] theorem SeatRec.faulted_latchedEmpty (r : SeatRec) : (r.faulted).latchedEmpty = r.latchedEmpty := rfl

/-! ### SeatRec.resumed -/

@[simp] theorem SeatRec.resumed_lifecycle (r : SeatRec) (m : SeatMap) (v : Verdict) : (r.resumed m v).lifecycle = r.lifecycle := rfl
@[simp] theorem SeatRec.resumed_confirmed (r : SeatRec) (m : SeatMap) (v : Verdict) : (r.resumed m v).confirmed = v := rfl
@[simp] theorem SeatRec.resumed_candidate (r : SeatRec) (m : SeatMap) (v : Verdict) : (r.resumed m v).candidate = none := rfl
@[simp] theorem SeatRec.resumed_candidateCount (r : SeatRec) (m : SeatMap) (v : Verdict) : (r.resumed m v).candidateCount = 0 := rfl
@[simp] theorem SeatRec.resumed_history (r : SeatRec) (m : SeatMap) (v : Verdict) : (r.resumed m v).history = [] := rfl
@[simp] theorem SeatRec.resumed_evicted (r : SeatRec) (m : SeatMap) (v : Verdict) : (r.resumed m v).evicted = none := rfl
@[simp] theorem SeatRec.resumed_unstable (r : SeatRec) (m : SeatMap) (v : Verdict) : (r.resumed m v).unstable = false := rfl
@[simp] theorem SeatRec.resumed_motionHold (r : SeatRec) (m : SeatMap) (v : Verdict) : (r.resumed m v).motionHold = r.motionHold := rfl
@[simp] theorem SeatRec.resumed_features (r : SeatRec) (m : SeatMap) (v : Verdict) : (r.resumed m v).features = r.features := rfl
@[simp] theorem SeatRec.resumed_buckle (r : SeatRec) (m : SeatMap) (v : Verdict) : (r.resumed m v).buckle = if m.fitted && m.buckle then .unknown else r.buckle := rfl
@[simp] theorem SeatRec.resumed_agree (r : SeatRec) (m : SeatMap) (v : Verdict) : (r.resumed m v).agree = .zero := rfl
@[simp] theorem SeatRec.resumed_buckleStreak (r : SeatRec) (m : SeatMap) (v : Verdict) : (r.resumed m v).buckleStreak = 0 := rfl
@[simp] theorem SeatRec.resumed_anchor (r : SeatRec) (m : SeatMap) (v : Verdict) : (r.resumed m v).anchor = r.anchor := rfl
@[simp] theorem SeatRec.resumed_tensionFault (r : SeatRec) (m : SeatMap) (v : Verdict) : (r.resumed m v).tensionFault = r.tensionFault := rfl
@[simp] theorem SeatRec.resumed_tensionStreak (r : SeatRec) (m : SeatMap) (v : Verdict) : (r.resumed m v).tensionStreak = r.tensionStreak := rfl
@[simp] theorem SeatRec.resumed_matStreak (r : SeatRec) (m : SeatMap) (v : Verdict) : (r.resumed m v).matStreak = r.matStreak := rfl
@[simp] theorem SeatRec.resumed_cleanStreak (r : SeatRec) (m : SeatMap) (v : Verdict) : (r.resumed m v).cleanStreak = r.cleanStreak := rfl
@[simp] theorem SeatRec.resumed_latchedEmpty (r : SeatRec) (m : SeatMap) (v : Verdict) : (r.resumed m v).latchedEmpty = false := rfl

/-! ### TXD -/

theorem State.txd_idle (h : s.lnk.dispatch = .idle) : s.txd = .high := by unfold State.txd; rw [h]
theorem State.txd_handling (r : Reply) (b : Bool) (h : s.lnk.dispatch = .handling r b) : s.txd = .sending r.frame := by
  unfold State.txd; rw [h]

end Sys2Proof.Machine
end

