-- ==== Sys2Proof/Laws/Notices.lean ====
section
/-! SUPPORT. What posting does (R159, R161): notices in a list, and notices of several blocks in a free order. -/

namespace Sys2Proof.Machine

open Sys2Proof.Safety

/-! ## One list -/

/-- Posting keeps everything but the notice queue and ATTN. -/
theorem postAll_frame (ns : List Notice) (s : State) :
    postAll ns s = { s with lnk := (postAll ns s).lnk, pins := { s.pins with attn := (postAll ns s).pins.attn } } := by
  induction ns generalizing s with
  | nil => rfl
  | cons n ns ih => rw [postAll, ih]; rfl

@[simp] theorem postAll_nil (s : State) : postAll [] s = s := rfl

@[simp] theorem postAll_cmap (ns : List Notice) (s : State) : (postAll ns s).cmap = s.cmap := by rw [postAll_frame]
@[simp] theorem postAll_scan (ns : List Notice) (s : State) : (postAll ns s).scan = s.scan := by rw [postAll_frame]
@[simp] theorem postAll_feat (ns : List Notice) (s : State) : (postAll ns s).feat = s.feat := by rw [postAll_frame]
@[simp] theorem postAll_verd (ns : List Notice) (s : State) : (postAll ns s).verd = s.verd := by rw [postAll_frame]
@[simp] theorem postAll_rem (ns : List Notice) (s : State) : (postAll ns s).rem = s.rem := by rw [postAll_frame]
@[simp] theorem postAll_adv (ns : List Notice) (s : State) : (postAll ns s).adv = s.adv := by rw [postAll_frame]
@[simp] theorem postAll_ret (ns : List Notice) (s : State) : (postAll ns s).ret = s.ret := by rw [postAll_frame]
@[simp] theorem postAll_store (ns : List Notice) (s : State) : (postAll ns s).store = s.store := by rw [postAll_frame]
@[simp] theorem postAll_free (ns : List Notice) (s : State) : (postAll ns s).free = s.free := by rw [postAll_frame]
@[simp] theorem postAll_pending (ns : List Notice) (s : State) : (postAll ns s).pending = s.pending := by
  rw [postAll_frame]

/-- LNK after one notice is LNK with a list of one posted. -/
theorem Lnk.post_eq_enqueue (l : Lnk) (n : Notice) : l.post n = enqueue [n] l := by
  unfold Lnk.post enqueue
  by_cases h : l.notices.length < 32
  · have h1 : ¬ 32 < l.notices.length + 1 := by omega
    have h2 : List.take (32 - l.notices.length) [n] = [n] := List.take_of_length_le (by simp; omega)
    simp [h, h1, h2]
  · have h1 : 32 < l.notices.length + 1 := by omega
    have h2 : 32 - l.notices.length = 0 := by omega
    simp [h, h1, h2]

/-- Posting a list and then another is posting both. -/
theorem enqueue_append (xs ys : List Notice) (l : Lnk) : enqueue ys (enqueue xs l) = enqueue (xs ++ ys) l := by
  have hlen : (List.take (32 - l.notices.length) xs).length = min (32 - l.notices.length) xs.length := by simp
  cases l with
  | mk a b c d e f g notices overflow level =>
    simp only [enqueue, Lnk.mk.injEq, true_and, and_true, List.append_assoc, List.append_cancel_left_eq,
      List.length_append, hlen]
    constructor
    · rw [List.take_append]
      congr 2
      omega
    · rcases xs with _ | ⟨x, xs⟩ <;> rcases ys with _ | ⟨y, ys⟩ <;> simp
      simp only [Bool.or_assoc, ← Bool.decide_or]
      congr 1
      apply decide_eq_decide.mpr
      omega

/-- LNK after a list of notices is posted (R159). -/
@[simp] theorem postAll_lnk (ns : List Notice) (s : State) : (postAll ns s).lnk = enqueue ns s.lnk := by
  induction ns generalizing s with
  | nil => simp [enqueue]
  | cons n ns ih =>
    rw [postAll, ih, post_lnk, Lnk.post_eq_enqueue, enqueue_append]
    rfl

/-- The pins after posting: ATTN alone may differ, and it follows the queue once something is posted (R161). -/
theorem postAll_pins (ns : List Notice) (s : State) (h : ns ≠ []) :
    (postAll ns s).pins = { s.pins with
      attn := decide (s.lnk.level ≤ (enqueue ns s.lnk).notices.length) || s.adv.mailbox.isSome } := by
  induction ns generalizing s with
  | nil => exact absurd rfl h
  | cons n ns ih =>
    rw [postAll]
    rcases ns with _ | ⟨m, ms⟩
    · simp [Lnk.post_eq_enqueue, enqueue]
    · rw [ih _ (by simp)]
      simp only [post_pins, post_lnk, post_adv, Lnk.post_eq_enqueue, enqueue_append]
      rfl

/-- Posting never touches a pin but ATTN. -/
theorem postAll_pins_frame (ns : List Notice) (s : State) :
    (postAll ns s).pins = { s.pins with attn := (postAll ns s).pins.attn } := by
  conv_lhs => rw [postAll_frame]

@[simp] theorem postAll_pins_ign (ns : List Notice) (s : State) : (postAll ns s).pins.ign = s.pins.ign := by
  rw [postAll_pins_frame]
@[simp] theorem postAll_pins_door (ns : List Notice) (s : State) : (postAll ns s).pins.door = s.pins.door := by
  rw [postAll_pins_frame]
@[simp] theorem postAll_pins_rowp (ns : List Notice) (s : State) : (postAll ns s).pins.rowp = s.pins.rowp := by
  rw [postAll_pins_frame]
@[simp] theorem postAll_pins_anch (ns : List Notice) (s : State) : (postAll ns s).pins.anch = s.pins.anch := by
  rw [postAll_pins_frame]
@[simp] theorem postAll_pins_sup (ns : List Notice) (s : State) : (postAll ns s).pins.sup = s.pins.sup := by
  rw [postAll_pins_frame]

/-! ## ATTN -/

/-- ATTN is high exactly when the notices reach the level or the mailbox is full (R161). -/
abbrev AttnTrue (s : State) : Prop :=
  s.pins.attn = true ↔ s.lnk.level ≤ s.lnk.notices.length ∨ s.adv.mailbox.isSome = true

theorem refreshAttn_attnTrue (s : State) : AttnTrue s.refreshAttn := by simp [AttnTrue]

/-- Posting keeps ATTN true. -/
theorem postAll_attnTrue (ns : List Notice) (s : State) (h : AttnTrue s) : AttnTrue (postAll ns s) := by
  induction ns generalizing s with
  | nil => exact h
  | cons n ns ih => exact ih _ (refreshAttn_attnTrue _)

/-- A queue of at most 32 notices stays one (R159). -/
theorem enqueue_length (ns : List Notice) (l : Lnk) (h : l.notices.length ≤ 32) :
    (enqueue ns l).notices.length ≤ 32 := by
  simp [enqueue]; omega

/-- The notices held before stay first, in order. -/
theorem enqueue_prefix (ns : List Notice) (l : Lnk) : l.notices <+: (enqueue ns l).notices :=
  ⟨_, rfl⟩

/-! ## A free order -/

/-- An interleaving holds both lists' entries. -/
theorem interleave_perm {α : Type} (c : Nat) (xs ys : List α) : (interleave c xs ys).Perm (xs ++ ys) := by
  induction xs generalizing c ys with
  | nil => simp [interleave]
  | cons x xs ih =>
    cases ys with
    | nil => simp [interleave]
    | cons y ys =>
      simp only [interleave]
      generalize hk : c % (ys.length + 2) = k
      have h1 := ih (c / (ys.length + 2)) ((y :: ys).drop k)
      calc ((y :: ys).take k ++ x :: interleave (c / (ys.length + 2)) xs ((y :: ys).drop k)).Perm
            ((y :: ys).take k ++ x :: (xs ++ (y :: ys).drop k)) := (h1.cons x).append_left _
        _ |>.Perm ((x :: (xs ++ (y :: ys).drop k)) ++ (y :: ys).take k) := List.perm_append_comm
        _ |>.Perm (x :: xs ++ (y :: ys)) := by
            have h2 : ((y :: ys).drop k ++ (y :: ys).take k).Perm (y :: ys) :=
              List.perm_append_comm.trans (by rw [List.take_append_drop])
            simpa using (h2.append_left xs).cons x

/-- The merge of several blocks' notices holds the notices of all. -/
theorem mergeNotices_perm (k : Nat) (gs : List (List Notice)) : (mergeNotices k gs).Perm gs.flatten := by
  induction gs generalizing k with
  | nil => exact List.Perm.refl _
  | cons g gs ih =>
    exact (interleave_perm _ g _).trans ((ih (k + 1)).append_left g)

@[simp] theorem interleave_nil_left {α : Type} (c : Nat) (ys : List α) : interleave c [] ys = ys := rfl

@[simp] theorem interleave_nil_right {α : Type} (c : Nat) (xs : List α) : interleave c xs [] = xs := by
  cases xs <;> rfl

/-- Each list keeps its own order in an interleaving. -/
theorem interleave_sublist_left {α : Type} (c : Nat) (xs ys : List α) : xs.Sublist (interleave c xs ys) := by
  induction xs generalizing c ys with
  | nil => simp
  | cons x xs ih =>
    cases ys with
    | nil => simp [interleave]
    | cons y ys =>
      simp only [interleave]
      exact ((ih _ _).cons_cons x).trans (List.sublist_append_right _ _)

/-- What a merged posting does: a permutation of the notices is posted, the counter of free values moves on. -/
theorem postMerged_spec (gs : List (List Notice)) (s : State) :
    ∃ ns, ns.Perm gs.flatten ∧ postMerged gs s = postAll ns { s with free := s.free + gs.length } :=
  ⟨_, mergeNotices_perm _ _, rfl⟩

@[simp] theorem postMerged_cmap (gs : List (List Notice)) (s : State) : (postMerged gs s).cmap = s.cmap := by
  simp [postMerged]
@[simp] theorem postMerged_scan (gs : List (List Notice)) (s : State) : (postMerged gs s).scan = s.scan := by
  simp [postMerged]
@[simp] theorem postMerged_feat (gs : List (List Notice)) (s : State) : (postMerged gs s).feat = s.feat := by
  simp [postMerged]
@[simp] theorem postMerged_verd (gs : List (List Notice)) (s : State) : (postMerged gs s).verd = s.verd := by
  simp [postMerged]
@[simp] theorem postMerged_rem (gs : List (List Notice)) (s : State) : (postMerged gs s).rem = s.rem := by
  simp [postMerged]
@[simp] theorem postMerged_adv (gs : List (List Notice)) (s : State) : (postMerged gs s).adv = s.adv := by
  simp [postMerged]
@[simp] theorem postMerged_ret (gs : List (List Notice)) (s : State) : (postMerged gs s).ret = s.ret := by
  simp [postMerged]
@[simp] theorem postMerged_store (gs : List (List Notice)) (s : State) : (postMerged gs s).store = s.store := by
  simp [postMerged]
@[simp] theorem postMerged_pending (gs : List (List Notice)) (s : State) : (postMerged gs s).pending = s.pending := by
  simp [postMerged]
@[simp] theorem postMerged_lnk (gs : List (List Notice)) (s : State) :
    (postMerged gs s).lnk = enqueue (mergeNotices s.free gs) s.lnk := by
  simp [postMerged]

end Sys2Proof.Machine
end

