-- ==== Sys2Proof/Laws/Tab.lean ====
section
/-! SUPPORT. Reading a table after it was built or changed. -/

namespace Sys2Proof

variable {n : Nat} {α : Type}

/-- Two tables with the same entries are equal. -/
theorem Tab.ext_get {t u : Tab n α} (h : ∀ i : Fin n, t.get i = u.get i) : t = u := by
  obtain ⟨a, ha⟩ := t
  obtain ⟨b, hb⟩ := u
  have : a = b := by
    apply List.ext_getElem (by rw [ha, hb])
    intro k hk _
    exact h ⟨k, ha ▸ hk⟩
  subst this
  rfl

@[simp] theorem Tab.get_ofFn (f : Fin n → α) (i : Fin n) : (Tab.ofFn f).get i = f i := by
  simp [Tab.get, Tab.ofFn]

@[simp] theorem Tab.get_const (a : α) (i : Fin n) : (Tab.const n a).get i = a := by
  simp [Tab.get, Tab.const]

/-- Reading a table after one entry was replaced. -/
theorem Tab.get_set (t : Tab n α) (i j : Fin n) (a : α) : (t.set i a).get j = if j = i then a else t.get j := by
  simp only [Tab.get, Tab.set, List.getElem_set]
  by_cases h : i = j
  · subst h; simp
  · have h1 : i.val ≠ j.val := fun e => h (Fin.ext e)
    have h2 : ¬ j = i := fun e => h e.symm
    simp [h1, h2]

@[simp] theorem Tab.get_set_same (t : Tab n α) (i : Fin n) (a : α) : (t.set i a).get i = a := by
  simp [Tab.get_set]

@[simp] theorem Tab.get_set_other (t : Tab n α) {i j : Fin n} (a : α) (h : j ≠ i) : (t.set i a).get j = t.get j := by
  simp [Tab.get_set, h]

/-- A table rebuilt from its own entries is itself. -/
@[simp] theorem Tab.ofFn_get (t : Tab n α) : Tab.ofFn (fun i => t.get i) = t := Tab.ext_get fun i => by simp

/-- Writing the entry a table holds leaves the table. -/
@[simp] theorem Tab.set_get (t : Tab n α) (i : Fin n) : t.set i (t.get i) = t :=
  Tab.ext_get fun j => by rw [Tab.get_set]; split <;> simp_all

/-- Equal tables are those whose entries are equal. -/
theorem Tab.eq_iff {t u : Tab n α} : t = u ↔ ∀ i : Fin n, t.get i = u.get i :=
  ⟨fun h _ => by rw [h], Tab.ext_get⟩

end Sys2Proof
end

