-- ==== Sys2Proof/Laws/Advisory.lean ====
section
/-! SUPPORT. What an evaluation of an advisory position does (R123 to R128). -/

namespace Sys2Proof.Machine

open Sys2Proof.Safety

/-- The value of a position from the record of its mapped seat (R123). -/
theorem advisoryValue_none (seats : Tab 16 SeatRec) : advisoryValue seats none = .fault := rfl

theorem advisoryValue_some (seats : Tab 16 SeatRec) (i : Seat) :
    advisoryValue seats (some i) =
      if (seats.get i).lifecycle = .active then
        if (seats.get i).confirmed = .adult then .enable else .suppress
      else .fault := by
  cases h : (seats.get i).lifecycle <;> simp [advisoryValue, h]

/-- Only ADV, the pair of the position and ATTN can change. -/
theorem evaluatePosition_frame (p : Pos) (s : State) :
    evaluatePosition p s = { s with
      adv := (evaluatePosition p s).adv
      pins := { s.pins with sup := (evaluatePosition p s).pins.sup, attn := (evaluatePosition p s).pins.attn } } := by
  simp only [evaluatePosition]; split <;> rfl

/-- After its evaluation a position has the value of its mapped seat, and every mapped seat is kept (R124). -/
theorem evaluatePosition_value (p : Pos) (s : State) :
    ((evaluatePosition p s).adv.positions.get p).value = advisoryValue s.verd.seats (s.adv.positions.get p).seat := by
  simp only [evaluatePosition]
  split
  · rename_i h; exact h.symm
  · simp

theorem evaluatePosition_seat (p q : Pos) (s : State) :
    ((evaluatePosition p s).adv.positions.get q).seat = (s.adv.positions.get q).seat := by
  simp only [evaluatePosition]
  split
  · rfl
  · simp only [State.refreshAttn_adv, Adv.mail_positions, Tab.get_set]
    split
    · rename_i h; subst h; rfl
    · rfl

/-- The other position is untouched. -/
theorem evaluatePosition_other (p q : Pos) (s : State) (h : q ≠ p) :
    (evaluatePosition p s).adv.positions.get q = s.adv.positions.get q ∧
      (evaluatePosition p s).pins.sup.get q = s.pins.sup.get q := by
  simp only [evaluatePosition]
  split
  · exact ⟨rfl, rfl⟩
  · simp [h]

/-- A position whose value already follows from its record is left alone: no record, no move of the pair (R124). -/
theorem evaluatePosition_same (p : Pos) (s : State)
    (h : advisoryValue s.verd.seats (s.adv.positions.get p).seat = (s.adv.positions.get p).value) :
    evaluatePosition p s = s := by simp [evaluatePosition, h]

/-- The pair shows the value after the evaluation when it did before (R125). -/
theorem evaluatePosition_pair (p : Pos) (s : State)
    (h : s.pins.sup.get p = (s.adv.positions.get p).value.pair) :
    (evaluatePosition p s).pins.sup.get p = ((evaluatePosition p s).adv.positions.get p).value.pair := by
  simp only [evaluatePosition]
  split
  · exact h
  · simp

/-- The mailbox of ADV never loses its record to an evaluation (R128). -/
theorem evaluatePosition_mailbox (p : Pos) (s : State) (h : s.adv.superseded = true → s.adv.mailbox.isSome = true) :
    (evaluatePosition p s).adv.superseded = true → (evaluatePosition p s).adv.mailbox.isSome = true := by
  simp only [evaluatePosition]
  split
  · exact h
  · simp

/-- ATTN stays true. -/
theorem evaluatePosition_attnTrue (p : Pos) (s : State) (h : AttnTrue s) : AttnTrue (evaluatePosition p s) := by
  simp only [evaluatePosition]
  split
  · exact h
  · exact refreshAttn_attnTrue _

@[simp] theorem evaluatePosition_verd (p : Pos) (s : State) : (evaluatePosition p s).verd = s.verd := by
  rw [evaluatePosition_frame]
@[simp] theorem evaluatePosition_cmap (p : Pos) (s : State) : (evaluatePosition p s).cmap = s.cmap := by
  rw [evaluatePosition_frame]
@[simp] theorem evaluatePosition_scan (p : Pos) (s : State) : (evaluatePosition p s).scan = s.scan := by
  rw [evaluatePosition_frame]
@[simp] theorem evaluatePosition_feat (p : Pos) (s : State) : (evaluatePosition p s).feat = s.feat := by
  rw [evaluatePosition_frame]
@[simp] theorem evaluatePosition_rem (p : Pos) (s : State) : (evaluatePosition p s).rem = s.rem := by
  rw [evaluatePosition_frame]
@[simp] theorem evaluatePosition_ret (p : Pos) (s : State) : (evaluatePosition p s).ret = s.ret := by
  rw [evaluatePosition_frame]
@[simp] theorem evaluatePosition_lnk (p : Pos) (s : State) : (evaluatePosition p s).lnk = s.lnk := by
  rw [evaluatePosition_frame]
@[simp] theorem evaluatePosition_store (p : Pos) (s : State) : (evaluatePosition p s).store = s.store := by
  rw [evaluatePosition_frame]
@[simp] theorem evaluatePosition_free (p : Pos) (s : State) : (evaluatePosition p s).free = s.free := by
  rw [evaluatePosition_frame]
@[simp] theorem evaluatePosition_pending (p : Pos) (s : State) : (evaluatePosition p s).pending = s.pending := by
  rw [evaluatePosition_frame]

/-- An evaluation limited to seats concerned either evaluates the position or leaves everything. -/
theorem evaluateIf_cases (g : Seat → Bool) (p : Pos) (s : State) :
    evaluateIf g p s = evaluatePosition p s ∨ evaluateIf g p s = s := by
  unfold evaluateIf
  split
  · split
    · exact .inl rfl
    · exact .inr rfl
  · exact .inr rfl

/-- The advisory value in the words of the law (R123). -/
theorem advisoryValue_eq_law (seats : Tab 16 SeatRec) (x : Option Seat) :
    advisoryValue seats x =
      (match x with
        | none => .fault
        | some i =>
            if (seats.get i).lifecycle = .active then
              if (seats.get i).confirmed = .adult then .enable else .suppress
            else .fault) := by
  cases x with
  | none => rfl
  | some i => exact advisoryValue_some seats i

end Sys2Proof.Machine
end

