-- ==== Sys2Proof/Laws/Reminders.lean ====
section
/-! SUPPORT. What the operations of REM do: the move of a record (R110 to R114), an evaluation (R107), the end of an event
(R119, R120). -/

namespace Sys2Proof.Machine

open Sys2Proof.Safety

/-! ## One record -/

theorem enterAudible_state (r : ReminderRec) :
    (enterAudible r).state = (if r.budget = 0 then .capped else .audible) := by
  unfold enterAudible; split <;> rfl

@[simp] theorem enterAudible_visual (r : ReminderRec) : (enterAudible r).visual = 0 := by
  unfold enterAudible; split <;> rfl

@[simp] theorem enterAudible_budget (r : ReminderRec) : (enterAudible r).budget = r.budget := by
  unfold enterAudible; split <;> rfl

theorem enterAudible_eq_audibleFrom (r : ReminderRec) : enterAudible r = audibleFrom r := by
  unfold enterAudible audibleFrom ReminderRec.to; split <;> rfl

/-- A record counted down is the one of the statements (R105, R108, R109). -/
theorem countDown_eq (r : ReminderRec) : countDown r = countedFrom r := by
  unfold countDown countedFrom
  cases r.state <;> simp [enterAudible_eq_audibleFrom, ReminderRec.to]

/-- A count leaves the state, or goes on to AUDIBLE or CAPPED, and only out of VISUAL or AUDIBLE (R105). -/
theorem countDown_state (r : ReminderRec) :
    (countDown r).state = r.state ∨
      ((r.state = .visual ∨ r.state = .audible) ∧ ((countDown r).state = .audible ∨ (countDown r).state = .capped)) := by
  unfold countDown
  split
  · rename_i h
    split
    · right; refine ⟨.inl h, ?_⟩; rw [enterAudible_state]; split <;> simp
    · exact .inl rfl
  · rename_i h
    split
    · exact .inr ⟨.inr h, .inr rfl⟩
    · exact .inl rfl
  · exact .inl rfl

/-- Entry to VISUAL ends in VISUAL, AUDIBLE or CAPPED, and keeps the budget (R108, R109). -/
theorem enterVisual_cases (c : ReminderContext) (r : ReminderRec) :
    (enterVisual c r = { r with state := .visual, visual := c.visual } ∧ c.visual ≠ 0) ∨
      (enterVisual c r = enterAudible r ∧ c.visual = 0) := by
  unfold enterVisual
  split
  · rename_i h; exact .inr ⟨rfl, h⟩
  · rename_i h; exact .inl ⟨rfl, h⟩

@[simp] theorem enterVisual_budget (c : ReminderContext) (r : ReminderRec) : (enterVisual c r).budget = r.budget := by
  rcases enterVisual_cases c r with ⟨h, -⟩ | ⟨h, -⟩ <;> simp [h]

/-- After an evaluation the record stands in a state of its case (R110 to R114). -/
theorem moveReminder_fits (c : ReminderContext) (k : ReminderCase) (r : ReminderRec) :
    fitsCase k (moveReminder c k r).state = true := by
  have hv : fitsCase .unbelted (enterVisual c r).state = true := by
    rcases enterVisual_cases c r with ⟨h, -⟩ | ⟨h, -⟩
    · rw [h]; rfl
    · rw [h, enterAudible_state]; split <;> rfl
  have hs : fitsCase .unbelted (enterStages c r).state = true := by
    unfold enterStages; split
    · exact hv
    · rfl
  cases k
  · rfl
  · simp only [moveReminder]; split
    · rename_i h; simp [fitsCase, h]
    · rfl
  · simp only [moveReminder, moveUnbelted]
    split
    · exact hs
    · exact hs
    · rename_i h; split
      · exact hv
      · simp [fitsCase, h]
    · rename_i h; simp [fitsCase, h]
    · rename_i h; simp [fitsCase, h]
    · rename_i h; simp [fitsCase, h]
    · split
      · rw [enterAudible_state]; split <;> rfl
      · exact hs
  · simp only [moveReminder]; split
    · rename_i h; simp [fitsCase, h]
    · rfl
  · simp only [moveReminder]; split
    · rename_i h; simp [fitsCase, h]
    · rfl

/-- An evaluation keeps the budget, or sets it full on entry to LATCHED (R110). -/
theorem moveReminder_budget (c : ReminderContext) (k : ReminderCase) (r : ReminderRec) :
    (moveReminder c k r).budget = r.budget ∨
      ((moveReminder c k r).budget = c.budget ∧ (moveReminder c k r).state = .latched) := by
  cases k
  · exact .inl rfl
  · simp only [moveReminder]; split
    · exact .inl rfl
    · exact .inr ⟨rfl, rfl⟩
  · left
    simp only [moveReminder, moveUnbelted, enterStages]
    split
    · split <;> simp
    · split <;> simp
    · split <;> simp
    · rfl
    · rfl
    · rfl
    · split
      · simp
      · split <;> simp
  · left; simp only [moveReminder]; split <;> rfl
  · left; simp only [moveReminder]; split <;> rfl

/-- A record already in VISUAL, AUDIBLE or CAPPED is left by an evaluation in the unbelted case (R111). -/
theorem moveReminder_unbelted_stays (c : ReminderContext) (r : ReminderRec)
    (h : r.state = .visual ∨ r.state = .audible ∨ r.state = .capped) : moveReminder c .unbelted r = r := by
  rcases h with h | h | h <;> simp [moveReminder, moveUnbelted, h]

/-- The move of an evaluation is the table of the statements (R110 to R114). -/
theorem moveReminder_eq (s : State) (k : ReminderCase) (r : ReminderRec) :
    moveReminder s.reminderContext k r = movedTo s k r := by
  have ht : s.trigger = triggerHolds s := by
    unfold State.trigger triggerHolds speedAtLeast
    cases s.rem.speed <;> simp
  have hf : speedAtLeast s.rem.speed s.rem.settings.vRemind =
      s.rem.speed.any fun v => decide (s.rem.settings.vRemind ≤ v) := by
    unfold speedAtLeast; cases s.rem.speed <;> rfl
  have hv : enterVisual s.reminderContext r = visualFrom s r := by
    simp only [enterVisual, visualFrom, State.reminderContext, steps, enterAudible_eq_audibleFrom]
    by_cases h : s.rem.settings.tVisual = 0
    · simp [h]
    · simp [h, Nat.mul_comm]
  have hs : enterStages s.reminderContext r = stagesFrom s r := by
    simp only [enterStages, stagesFrom, hv, ReminderRec.to]
    simp only [State.reminderContext, ht]
  obtain ⟨st, v, b⟩ := r
  cases k <;> cases st <;>
    simp [moveReminder, moveUnbelted, movedTo, hs, hv, enterAudible_eq_audibleFrom, ReminderRec.to] <;>
    simp [State.reminderContext, ht, hf, steps, Nat.mul_comm]

/-! ## Evaluations and events -/

/-- An evaluation touches nothing but the reminder table. -/
@[simp] theorem evaluateReminders_state (g : Seat → Bool) (s : State) :
    (evaluateReminders g s).1 = s.withTable (s.evaluatedTable g) := rfl

theorem evaluatedTable_off (g : Seat → Bool) (s : State) (h : s.ret.ignition = .off) :
    s.evaluatedTable g = s.rem.table :=
  Tab.ext_get fun i => by simp [State.evaluatedTable, h]

theorem evaluatedTable_on (g : Seat → Bool) (s : State) (h : s.ret.ignition = .on) (i : Seat) :
    (s.evaluatedTable g).get i =
      if g i = true then moveReminder s.reminderContext (caseOf (s.cmap.seats.get i) (s.verd.seats.get i)) (s.rem.table.get i)
      else s.rem.table.get i := by
  simp [State.evaluatedTable, h]

/-- The end of an event touches nothing but the summary. -/
@[simp] theorem endRemEvent_state (r : State × List Notice) : (endRemEvent r).1 = r.1.refreshSummary := rfl

@[simp] theorem endRemEvent_notices (r : State × List Notice) :
    (endRemEvent r).2 = r.2 ++ cabinNotices r.1.rem.summary r.1.deriveSummary := rfl

/-- The trigger evaluation moves the table of every seat, or nothing (R103). -/
theorem evaluateTrigger_cases (b : Bool) (s : State) :
    (b = false ∧ s.trigger = true ∧ evaluateTrigger b s = evaluateReminders (fun _ => true) s) ∨
      ((b = true ∨ s.trigger = false) ∧ evaluateTrigger b s = (s, [])) := by
  unfold evaluateTrigger
  cases b <;> cases h : s.trigger <;> simp

/-! ## A step of the timers -/

/-- The table after a step (R105). -/
theorem countedTable_get (s : State) (i : Seat) :
    s.countedTable.get i =
      if s.countCondition = true then countedFrom (s.rem.table.get i) else s.rem.table.get i := by
  simp [State.countedTable, countDown_eq]

/-- A step with ignition OFF does nothing (R105). -/
theorem timerStep_off (s : State) (h : s.ret.ignition = .off) : timerStep s = (s, []) := by
  simp [timerStep, h]

/-- A step with ignition ON: the stages counted, then the start interval, then the end of the event (R105, R120). -/
theorem timerStep_on (s : State) (h : s.ret.ignition = .on) :
    timerStep s = endRemEvent ((countStart (s.withTable s.countedTable)).1,
      reminderNotices s.rem.table (countStart (s.withTable s.countedTable)).1.rem.table) := by
  simp [timerStep, h]

/-- The start interval at a step: stopped, lowered, or expired with the trigger evaluated (R102, R105). -/
theorem countStart_cases (s : State) :
    (s.rem.startTimer = none ∧ countStart s = (s, [])) ∨
    (∃ n, s.rem.startTimer = some n ∧ 2 ≤ n ∧
      countStart s = ({ s with rem := { s.rem with startTimer := some (n - 1) } }, [])) ∨
    (∃ n, s.rem.startTimer = some n ∧ n ≤ 1 ∧ countStart s = startElapses s) := by
  unfold countStart
  cases h : s.rem.startTimer with
  | none => exact .inl ⟨rfl, rfl⟩
  | some n =>
    by_cases hn : n ≤ 1
    · exact .inr (.inr ⟨n, rfl, hn, by simp [hn]⟩)
    · exact .inr (.inl ⟨n, rfl, by omega, by simp [hn]⟩)

/-- While the trigger holds the expiry of the start interval moves no seat (R102, R103). -/
theorem startElapses_triggered (s : State) (h : s.trigger = true) :
    startElapses s = ({ s with rem := { s.rem with startTimer := none, startElapsed := true } }, []) := by
  simp [startElapses, evaluateTrigger, h]

/-- The summary of a state is the one the law describes (R119). -/
theorem refreshSummary_law (s : State) : SummaryLaw s.refreshSummary := by
  refine ⟨?_, ?_, ?_, rfl, rfl⟩
  · simp [State.deriveSummary, allSeats]
  · intro i
    simp only [State.refreshSummary_rem, State.deriveSummary, seatSet, Tab.get_ofFn]
    cases (s.rem.table.get i).state <;> simp [ReminderState.shown]
  · intro i
    simp [State.deriveSummary, seatSet]

/-- The trigger in the words of the statements (R103). -/
theorem trigger_eq (s : State) : s.trigger = triggerHolds s := by
  unfold State.trigger triggerHolds speedAtLeast
  cases s.rem.speed <;> simp

/-- The REMINDER notices of an event in the words of the statements (R107). -/
theorem reminderNotices_eq (s t : State) : reminderNotices s.rem.table t.rem.table = remindersOf s t := by
  unfold reminderNotices remindersOf allSeats
  induction List.finRange 16 with
  | nil => rfl
  | cons i is ih => by_cases h : (s.rem.table.get i).state = (t.rem.table.get i).state <;> simp [h, ih]

end Sys2Proof.Machine
end

