-- ==== Sys2Proof/Laws/Retention.lean ====
section
/-! SUPPORT. What the operations of RET over snapshots do (R138 to R145). -/

namespace Sys2Proof.Machine

open Sys2Proof.Safety

theorem anySnapshot_iff (t : Tab 16 (Option Snapshot)) :
    anySnapshot t = true ↔ ∃ i : Seat, (t.get i).isSome = true := by
  simp [anySnapshot, allSeats]

/-- The snapshots left after a class of seats lost theirs. -/
theorem drop_get (r : Ret) (g : Seat → Bool) (i : Seat) :
    (r.drop g).snapshots.get i = if g i = true then none else r.snapshots.get i := by simp

/-- The timer after a discarding: as before while a snapshot is left, else stopped (R140). -/
theorem drop_timer (r : Ret) (g : Seat → Bool) :
    (r.drop g).timer = if ∃ i : Seat, ((r.drop g).snapshots.get i).isSome = true then r.timer else none := by
  by_cases h : ∃ i : Seat, ((r.drop g).snapshots.get i).isSome = true
  · rw [if_pos h, Ret.drop_timer]; exact if_pos ((anySnapshot_iff _).2 h)
  · rw [if_neg h, Ret.drop_timer]; exact if_neg fun e => h ((anySnapshot_iff _).1 e)

/-- A discarding touches nothing but the snapshots and their timer. -/
@[simp] theorem discardSnapshots_state (c : DiscardCause) (g : Seat → Bool) (s : State) :
    (discardSnapshots c g s).1 = { s with ret := s.ret.drop g } := rfl

theorem noSeats_iff (x : SeatSet) : noSeats x = true ↔ ∀ i : Seat, x.get i = false := by
  simp [noSeats, allSeats]

/-- The RETENTION notice in the words of the statements (R144). -/
theorem retentionNotices_eq (c : Option DiscardCause) (p : Seat → Bool) :
    retentionNotices c (seatSet p) = retentionOf c p := by
  unfold retentionNotices retentionOf seatSet
  by_cases h : ∃ i : Seat, p i = true
  · have hn : noSeats (Tab.ofFn p) = false := by
      rw [Bool.eq_false_iff, Ne, noSeats_iff]
      rintro hall
      obtain ⟨i, hi⟩ := h
      simpa [hi] using hall i
    simp [h, hn]
  · have hn : noSeats (Tab.ofFn p) = true := by
      rw [noSeats_iff]
      intro i
      simp only [Tab.get_ofFn]
      exact Bool.eq_false_iff.2 fun hi => h ⟨i, hi⟩
    rw [if_pos hn, if_neg h]

/-- The expiry of the retention timer: every snapshot gone, the timer stopped, the notice posted (R140). -/
theorem retentionExpires_eq (s : State) :
    retentionExpires s = postAll (retentionNotices (some .timer) (heldSnapshots s.ret fun _ => true))
      { s with ret := { s.ret with snapshots := Tab.const 16 none, timer := none } } := by
  have hd : s.ret.drop (fun _ => true) = { s.ret with snapshots := Tab.const 16 none, timer := none } := by
    have ht : (Tab.ofFn fun _ => none : Tab 16 (Option Snapshot)) = Tab.const 16 none :=
      Tab.ext_get fun i => by simp
    have hn : anySnapshot (Tab.const 16 none) = false := by
      rw [Bool.eq_false_iff, Ne, anySnapshot_iff]; simp
    simp [Ret.drop, ht, hn]
  simp [retentionExpires, discardSnapshots, hd]

/-- RET's 0.1 s: nothing, a step of the count, or the expiry (R140). -/
theorem retentionTick_cases (s : State) :
    ((s.ret.ignition = .on ∨ s.ret.timer = none) ∧ retentionTick s = s) ∨
    (∃ n, s.ret.ignition = .off ∧ s.ret.timer = some n ∧ 2 ≤ n ∧
      retentionTick s = { s with ret := { s.ret with timer := some (n - 1) } }) ∨
    (∃ n, s.ret.ignition = .off ∧ s.ret.timer = some n ∧ n ≤ 1 ∧ retentionTick s = retentionExpires s) := by
  unfold retentionTick
  cases ht : s.ret.timer with
  | none => exact .inl ⟨.inr rfl, rfl⟩
  | some n =>
    cases hi : s.ret.ignition with
    | on => exact .inl ⟨.inl rfl, by simp⟩
    | off =>
      by_cases hn : n ≤ 1
      · exact .inr (.inr ⟨n, rfl, rfl, hn, by simp [hn]⟩)
      · exact .inr (.inl ⟨n, rfl, rfl, by omega, by simp [hn]⟩)

end Sys2Proof.Machine
end

