-- ==== Sys2Proof/Laws/Scan.lean ====
section
/-! SUPPORT. What the shared operations of SCAN and of FEAT's intake do (R22 to R35, R40, R43), in the words of the
statements. -/

namespace Sys2Proof.Machine

open Sys2Proof.Safety

theorem cellList_eq (m : SeatMap) : m.cellList = cellsOf m := rfl

theorem channels_eq (m : SeatMap) : m.channels = channelsOf m := rfl

theorem full_iff (c : Scan) : c.full = true ↔ 64 ≤ c.queue.length := decide_eq_true_iff

theorem full_false_iff (c : Scan) : c.full = false ↔ c.queue.length < 64 := by
  rw [← Bool.not_eq_true, full_iff]; omega

/-- FEAT's look at the head, when IDLE, sets its intake and the queue and nothing else (R40, R43). -/
theorem featLook_idle (s : State) (h : s.feat.intake = .idle) :
    featLook s = { s with feat := { s.feat with intake := (looked s s.scan.queue).1 }
                          scan := { s.scan with queue := (looked s s.scan.queue).2 } } := by
  unfold featLook
  rw [h]
  rcases hq : s.scan.queue with _ | ⟨e | m, q⟩
  · rcases s with ⟨cmap, ⟨_, _, _, _, _, _, _, _, _, _, _, _⟩, ⟨_, _, _, _⟩, verd, rem, adv, ret, lnk, store, pins, fr, pe⟩
    simp_all [looked]
  · simp only [looked, calibrationAt]
    cases e.channel <;> rfl
  · simp only [looked]
    cases hs : s.verd.slot <;> simp [← hq]

/-- A FEAT that is not IDLE does not look at the head. -/
theorem featLook_busy (s : State) (h : s.feat.intake ≠ .idle) : featLook s = s := by
  unfold featLook
  split <;> first | rfl | (rename_i h1 _; exact absurd h1 h)

/-- A push sets FEAT's intake and the queue and nothing else (R26, R40). -/
theorem push_eq (e : Entry) (s : State) :
    push e s = { s with feat := { s.feat with intake := (pushed e s).1 }
                        scan := { s.scan with queue := (pushed e s).2 } } := by
  unfold push pushed
  by_cases h : s.feat.intake = .idle
  · rw [featLook_idle _ (by simpa using h), if_pos h]; rfl
  · rw [featLook_busy _ (by simpa using h), if_neg h]

/-- SCAN between passes with the map valid. -/
theorem settled_valid (c : Scan) (i : Ignition) :
    c.settled true i = c.atRest (if i = .on then .waiting else .stopped) (if i = .on then some c.timing.interval else none) := by
  cases i <;> rfl

theorem clamp_eq (lo hi x : Nat) (h : lo ≤ hi) : clamp lo hi x = max lo (min hi x) := by
  unfold clamp; split
  · omega
  · split <;> omega

theorem interval_eq (t : Timing) : t.interval = max 10000 (min 1000000 (t.p * t.d)) :=
  clamp_eq _ _ _ (by decide)

theorem endInIgnition_eq (s : State) : endInIgnition s = { s with scan := settledScan s } := by
  unfold endInIgnition settledScan
  rw [settled_valid]
  simp only [Scan.atRest, interval_eq]

theorem beginProbePass_eq (i : Seat) (s : State) : beginProbePass i s = { s with scan := probePassOf s i } := rfl

/-- SCAN going on after a marker touches SCAN only (R25, R28, R35). -/
theorem afterMarker_eq (st : SeatStep) (s : State) : afterMarker st s = { s with scan := proceeds st s } := by
  unfold afterMarker proceeds
  by_cases hp : s.scan.state = .probing
  · rw [hp]
    simp only [nextProbe]
    cases s.scan.probe with
    | armed i t =>
      by_cases h : i = st.seat <;> cases hl : st.lost <;> simp [h, endInIgnition_eq, beginProbePass_eq]
    | free r => simp [endInIgnition_eq]
    | filled b => simp [endInIgnition_eq]
  · have hm : afterMarker st s = if s.scan.closing then closePass s else nextSeat st s := by
      unfold afterMarker
      cases h : s.scan.state <;> first | rfl | exact absurd h hp
    unfold afterMarker at hm
    rw [hm, if_neg hp]
    by_cases hc : s.scan.closing = true
    · simp only [hc, if_true, closePass]
      cases s.scan.probe with
      | armed i t => cases t <;> simp [endInIgnition_eq, beginProbePass_eq, probePassOf, stepAt]
      | free r => simp [endInIgnition_eq]
      | filled b => simp [endInIgnition_eq]
    · simp only [Bool.not_eq_true] at hc
      simp only [hc, nextSeat]
      cases hr : s.scan.rest <;> simp [Scan.atRest, beginSeat, stepAt, channels_eq]

/-- The marker pushed, and SCAN going on. -/
theorem afterMarker_push (st : SeatStep) (m : Marker) (s : State) :
    afterMarker st (push (.marker m) s) = markerIn st m s := by
  rw [push_eq, afterMarker_eq]
  unfold markerIn proceeds
  by_cases h1 : s.scan.state = .probing
  · simp only [h1, if_true]
    cases hq : s.scan.probe with
    | armed i t => by_cases h : i ≠ st.seat ∨ st.lost = true <;> simp [h, hq, probePassOf, settledScan, stepAt]
    | free r => simp [hq, settledScan]
    | filled b => simp [hq, settledScan]
  · simp only [h1, if_false]
    by_cases h2 : s.scan.closing = true
    · simp only [h2, if_true]
      cases hq : s.scan.probe with
      | armed i t => cases t <;> simp [hq, probePassOf, settledScan, stepAt]
      | free r => simp [hq, settledScan]
      | filled b => simp [hq, settledScan]
    · simp only [h2, Bool.false_eq_true, if_false]
      cases s.scan.rest <;> simp [stepAt]

/-- The anchor level that a marker carries (R25). -/
theorem anchor_eq (m : SeatMap) (p : Pins) :
    m.anchorLine.map p.anchLevel = if m.anchor.toNat < 8 then some (p.anch.getLsbD m.anchor.toNat) else none := by
  unfold SeatMap.anchorLine; split <;> rfl

/-- The marker of a seat step is formed and pushed, or waits in MARK (R25, R27). -/
theorem formMarker_eq (st : SeatStep) (s : State) : formMarker st s = marked st s := by
  unfold formMarker marked markerOf
  rw [anchor_eq]
  by_cases h : s.scan.queue.length < 64
  · rw [if_neg (by rw [full_iff]; omega), if_pos h, afterMarker_push]
  · rw [if_pos (by rw [full_iff]; omega), if_neg h]; rfl

/-- Cutting the current frame short (R28, R31). -/
theorem cutShort_eq (s : State) : cutShort s = cutNow s := by
  unfold cutShort cutNow
  rcases s.scan.step with _ | st
  · rfl
  · cases h : st.phase <;> simp [h, formMarker_eq, State.withStep]

/-- A completed conversion's sample is pushed or lost (R23, R26). -/
theorem deliver_eq (st : SeatStep) (ch : Channel) (raw : BitVec 12) (s : State) :
    deliver st ch raw s =
      ({ st with lost := st.lost || decide (64 ≤ s.scan.queue.length) }, sampled st ch raw s) := by
  unfold deliver sampled
  by_cases h : s.scan.queue.length < 64
  · have h1 : ¬ 64 ≤ s.scan.queue.length := by omega
    rw [if_neg (by rw [full_iff]; exact h1), if_pos h, push_eq]
    simp [h1]
  · have h1 : 64 ≤ s.scan.queue.length := by omega
    rw [if_pos (by rw [full_iff]; exact h1), if_neg h]
    simp [h1]

/-! ## Probes and the frame in finishing (R34, R45, R60) -/

@[simp] theorem probeArmed_finishing (m : Marker) (p c : Bool) :
    (Intake.finishing m p c).probeArmed = .finishing m true c := rfl
@[simp] theorem captureOpened_finishing (m : Marker) (p c : Bool) :
    (Intake.finishing m p c).captureOpened = .finishing m p true := rfl
@[simp] theorem probeArmed_idle : Intake.idle.probeArmed = .idle := rfl
@[simp] theorem captureOpened_idle : Intake.idle.captureOpened = .idle := rfl
@[simp] theorem probeArmed_blocked : Intake.blocked.probeArmed = .blocked := rfl
@[simp] theorem captureOpened_blocked : Intake.blocked.captureOpened = .blocked := rfl
@[simp] theorem probeArmed_entry (e : Sample) (c : CellCal) : (Intake.entry e c).probeArmed = .entry e c := rfl
@[simp] theorem captureOpened_entry (e : Sample) (c : CellCal) : (Intake.entry e c).captureOpened = .entry e c := rfl

/-- The probe slot offered a complete frame, in the words of the statements (R34, R45; assumption log 24). -/
theorem offer_eq (p : ProbeSlot) (before : Bool) (b : ProbeBuffer) :
    p.offer before b =
      (match p with
        | .armed i how => if i = b.seat ∧ ¬ (how = .timed ∧ before = true) then .filled b else .armed i how
        | .free report => .free report
        | .filled x => .filled x) := by
  cases p with
  | armed i how => cases how <;> cases before <;> simp [ProbeSlot.offer]
  | free r => rfl
  | filled x => rfl

/-- What a probe is accepted for, state by state (R34). -/
theorem serviceOf_eq (c : Scan) :
    c.serviceOf = (if c.state = .waiting ∨ (c.state = .pass ∧ c.closing = false) then .timed
      else if c.state = .pass then .closing else .probePass) := by
  unfold Scan.serviceOf
  cases c.state <;> cases c.closing <;> simp

end Sys2Proof.Machine
end

