-- ==== Sys2Proof/Laws/Apply.lean ====
section
/-! SUPPORT. What a map apply leaves, field by field (R7, R8), what the abort of a capture does (R61), and what an
evaluation of motion hold does (R76). -/

namespace Sys2Proof.Machine

open Sys2Proof.Safety

/-! ## FEAT at an event -/

/-- The abort closes a capture unless it is COMMITTING, and touches nothing else of FEAT (R61). -/
theorem abortCapture_feat (f : Feat) :
    (abortCapture f).1 = { f with capture := if f.capture.map Capture.state = some .committing then f.capture else none } := by
  rcases f with ⟨intake, acc, cal, capture⟩
  rcases capture with _ | c
  · rfl
  · by_cases h : c.state = .committing <;> simp [abortCapture, h]

/-- The abort posts ABORTED exactly for a capture it closes (R61). -/
theorem abortCapture_notices (f : Feat) :
    (abortCapture f).2 = (f.capture.toList.filter fun c => decide (c.state ≠ .committing)).map
      fun c => .calibration c.seat .aborted := by
  rcases f with ⟨intake, acc, cal, capture⟩
  rcases capture with _ | c
  · rfl
  · by_cases h : c.state = .committing <;> simp [abortCapture, h]

/-- FEAT at a map apply or RESTART: intake and accumulator emptied, no capture, the calibration kept (R47, R61). -/
theorem featFlush_feat (f : Feat) :
    (featFlush f).1 = { intake := .idle, acc := none, cal := f.cal, capture := none } := by
  unfold featFlush; simp [abortCapture_feat]

/-! ## Motion hold -/

theorem evaluateHold_get (s : State) (i : Seat) :
    (evaluateHold s).verd.seats.get i = { s.verd.seats.get i with motionHold := nextHold s i } := by simp

/-- The motion hold flag that an evaluation leaves, in the words of the statements (R76). -/
theorem nextHold_eq (s : State) (i : Seat) :
    nextHold s i =
      if (s.verd.seats.get i).lifecycle ≠ .active then false
      else if ∃ d : Door, (s.cmap.rows.get (s.cmap.seats.get i).rowIx).doors.getLsbD d.val = true ∧
          s.ret.doorOpen.get d = true then false
      else if s.rem.speed = none then (s.verd.seats.get i).motionHold
      else decide (s.rem.settings.vHold ≤ s.rem.speed.getD 0) := by
  have hd : s.doorOpenAt i = true ↔ ∃ d : Door,
      (s.cmap.rows.get (s.cmap.seats.get i).rowIx).doors.getLsbD d.val = true ∧ s.ret.doorOpen.get d = true := by
    simp [State.doorOpenAt, CMap.behindDoor, CMap.rowOf, RowRec.hasDoor]
  simp only [nextHold]
  by_cases h1 : (s.verd.seats.get i).lifecycle ≠ .active
  · rw [if_pos h1, if_pos h1]
  · rw [if_neg h1, if_neg h1]
    by_cases h2 : s.doorOpenAt i = true
    · rw [if_pos h2, if_pos (hd.1 h2)]
    · rw [if_neg h2, if_neg fun e => h2 (hd.2 e)]
      cases s.rem.speed <;> simp

/-! ## The map apply, field by field -/

variable (recs : MapRecs) (valid : Bool) (s : State)

@[simp] theorem advBoth_frame_fields (s : State) :
    (advBoth s).cmap = s.cmap ∧ (advBoth s).scan = s.scan ∧ (advBoth s).feat = s.feat ∧ (advBoth s).verd = s.verd ∧
    (advBoth s).rem = s.rem ∧ (advBoth s).ret = s.ret ∧ (advBoth s).lnk = s.lnk ∧ (advBoth s).store = s.store ∧
    (advBoth s).free = s.free ∧ (advBoth s).pending = s.pending := by simp [advBoth]

theorem mapApply_cmap : (mapApply recs valid s).cmap = s.cmap.applied s.pins recs valid := by
  simp [mapApply, advApply, remApply]

theorem mapApply_scan :
    (mapApply recs valid s).scan = { s.scan.flushed.settled valid s.ret.ignition with
      probe := match s.scan.probe with
        | .free report => .free report
        | _ => .free (some .map) } := by
  simp only [mapApply, postMerged_scan, advApply, advBoth_frame_fields, discardSnapshots_state, remApply,
    endRemEvent_state, State.refreshSummary_scan, evaluateReminders_state, State.withTable_scan, withFeat_scan]
  rfl

theorem mapApply_verd : (mapApply recs valid s).verd =
    { seats := (s.cmap.applied s.pins recs valid).freshSeats, slot := none } := by
  simp [mapApply, advApply, remApply]

theorem mapApply_feat : (mapApply recs valid s).feat =
    { intake := .idle, acc := none, cal := s.feat.cal, capture := none } := by
  simp [mapApply, advApply, remApply, featFlush_feat]

theorem mapApply_ret : (mapApply recs valid s).ret = s.ret.drop everySeat := by
  simp [mapApply, advApply, remApply]

theorem mapApply_store : (mapApply recs valid s).store = s.store := by
  simp [mapApply, advApply, remApply]

theorem mapApply_pending : (mapApply recs valid s).pending = s.pending := by
  simp [mapApply, advApply, remApply]

/-- REM after a map apply: only its table and its summary have changed. -/
theorem mapApply_rem_frame : (mapApply recs valid s).rem =
    { s.rem with table := (mapApply recs valid s).rem.table, summary := (mapApply recs valid s).rem.summary } := by
  simp [mapApply, advApply, remApply]

/-- LNK after a map apply: only notices were posted. -/
theorem mapApply_lnk : ∃ ns, (mapApply recs valid s).lnk = enqueue ns s.lnk := by
  have h : ∀ gs u, ∃ ns, (postMerged gs u).lnk = enqueue ns u.lnk := fun gs u => ⟨_, postMerged_lnk gs u⟩
  unfold mapApply
  exact (h _ _).imp fun ns e => e.trans (congrArg (enqueue ns) (by simp [advApply, remApply]))

/-- The mapped seats after a map apply are those of the applied map (R122). -/
theorem mapApply_mapped (p : Pos) : ((mapApply recs valid s).adv.positions.get p).seat =
    (s.cmap.applied s.pins recs valid).advisorySeat p := by
  simp [mapApply, advApply, advBoth, evaluatePosition_seat, remApply]

end Sys2Proof.Machine
end

