-- ==== Sys2Proof/Laws/Layouts.lean ====
section
/-! SUPPORT. A profile record read back from its bytes and its N_child is the profile (R14, R173). -/

namespace Sys2Proof.Machine

/-- A packed group is its three bytes. -/
theorem group_bytes (g : BitVec 24) :
    (g.extractLsb' 16 8 ++ (g.extractLsb' 8 8 ++ g.extractLsb' 0 8) : BitVec 24) = g := by
  rw [BitVec.extractLsb'_append_extractLsb'_eq_extractLsb' (by omega),
    BitVec.extractLsb'_append_extractLsb'_eq_extractLsb' (by omega)]
  exact BitVec.extractLsb'_eq_self

/-- The Tc of a packed group. -/
theorem Profile.group_tc (p : Profile) : p.group.extractLsb' 0 12 = p.tc := by
  apply BitVec.eq_of_getLsbD_eq
  intro i hi
  show (((0 : BitVec 2) ++ (p.k ++ p.tc) : BitVec (2 + (10 + 12))).extractLsb' 0 12).getLsbD i = _
  simp only [BitVec.getLsbD_extractLsb', BitVec.getLsbD_append]
  simp [hi]
  intro _
  omega

/-- The K of a packed group. -/
theorem Profile.group_k (p : Profile) : p.group.extractLsb' 12 10 = p.k := by
  apply BitVec.eq_of_getLsbD_eq
  intro i hi
  show (((0 : BitVec 2) ++ (p.k ++ p.tc) : BitVec (2 + (10 + 12))).extractLsb' 12 10).getLsbD i = _
  simp only [BitVec.getLsbD_extractLsb', BitVec.getLsbD_append]
  simp [hi]
  intro _
  omega

/-- What a profile's record and N_child give when they are read is the profile. -/
theorem Profile.ofBytes_bytes (p : Profile) : Profile.ofBytes p.nChild p.bytes = p := by
  have h : Profile.ofBytes p.nChild p.bytes = { p with tc := p.group.extractLsb' 0 12, k := p.group.extractLsb' 12 10 } :=
    congrArg (fun g : BitVec 24 => { p with tc := g.extractLsb' 0 12, k := g.extractLsb' 12 10 }) (group_bytes p.group)
  rw [h, p.group_tc, p.group_k]

end Sys2Proof.Machine
end

