-- ==== Sys2Proof/Laws/Requests.lean ====
section
/-! SUPPORT. What taking a request does (R153, R154, R158): once for the taking, once for each form check, once for the
refusals of a request that starts a commit. -/

namespace Sys2Proof.Machine

open Sys2Proof.Safety

theorem canTake_iff (s : State) : s.canTake = true ↔ Ready s := by simp [State.canTake, Ready]

@[simp] theorem closeTransfer_eq_closed (s : State) : closeTransfer s = closed s := rfl

/-- A frame that dispatch cannot take is discarded without effect (R153). -/
theorem takeRequest_discarded (code : Byte) (owner : State → Answer) (s : State) (h : ¬ Ready s) :
    takeRequest code owner s = s := by
  rw [takeRequest, if_neg]; rwa [canTake_iff]

/-- A request other than MAP WRITE that is taken: its transfer is closed, its owner answers, dispatch is handling. -/
theorem takeRequest_taken (code : Byte) (owner : State → Answer) (s : State) (h : Ready s) (hc : code ≠ mapWriteCode) :
    takeRequest code owner s =
      { (owner (closed s)).state with lnk := { (owner (closed s)).state.lnk with
          dispatch := .handling { code := code, status := (owner (closed s)).status, body := (owner (closed s)).body
                                  nChild := (owner (closed s)).nChild }
            (owner (closed s)).restart } } := by
  rw [takeRequest, if_pos ((canTake_iff s).2 h)]
  simp [hc]

/-- A MAP WRITE that is taken: its own rule decides about the transfer (R158). -/
theorem takeRequest_mapWrite (owner : State → Answer) (s : State) (h : Ready s) :
    takeRequest mapWriteCode owner s =
      { (owner s).state with lnk := { (owner s).state.lnk with
          dispatch := .handling { code := mapWriteCode, status := (owner s).status, body := (owner s).body
                                  nChild := (owner s).nChild }
            (owner s).restart } } := by
  rw [takeRequest, if_pos ((canTake_iff s).2 h)]
  simp

/-- An owner that refuses has no effect but the reply (R154). -/
theorem takeRequest_refused (code : Byte) (owner : State → Answer) (s : State) (st : Status) (h : Ready s)
    (hc : code ≠ mapWriteCode) (ho : owner (closed s) = Answer.refuse st (closed s)) :
    takeRequest code owner s = refusing code st s := by
  rw [takeRequest_taken code owner s h hc, ho]; rfl

/-- An owner that answers OK from a state `t`. -/
theorem takeRequest_ok (code : Byte) (owner : State → Answer) (s t : State) (body : List Byte) (h : Ready s)
    (hc : code ≠ mapWriteCode) (ho : owner (closed s) = Answer.ok t body) :
    takeRequest code owner s = answering code .ok body t := by
  rw [takeRequest_taken code owner s h hc, ho]; rfl

/-! ## Form checks -/

@[simp] theorem formEmpty_good (owner : State → Answer) (s : State) :
    formEmpty { body := [], final := true } owner s = owner s := rfl

theorem formEmpty_bad (f : ReqFrame) (owner : State → Answer) (s : State) (h : f.body ≠ [] ∨ f.final = false) :
    formEmpty f owner s = Answer.refuse .badArg s := by
  rcases f with ⟨body, final⟩
  cases final <;> cases body <;> simp_all [formEmpty]

@[simp] theorem formByte_good (b : Byte) (owner : Byte → State → Answer) (s : State) :
    formByte { body := [b], final := true } owner s = owner b s := rfl

theorem formByte_bad (f : ReqFrame) (owner : Byte → State → Answer) (s : State)
    (h : f.body.length ≠ 1 ∨ f.final = false) : formByte f owner s = Answer.refuse .badArg s := by
  rcases f with ⟨body, final⟩
  rcases body with _ | ⟨x, _ | ⟨y, ys⟩⟩ <;> cases final <;> simp_all [formByte]

theorem seatArg_seat (i : Seat) (owner : Seat → State → Answer) (s : State) :
    seatArg (BitVec.ofNat 8 i.val) owner s = owner i s := by
  have h : (BitVec.ofNat 8 i.val).toNat = i.val := by
    rw [BitVec.toNat_ofNat]; have := i.isLt; omega
  have h2 : (BitVec.ofNat 8 i.val).toNat < 16 := by rw [h]; exact i.isLt
  rw [seatArg, dif_pos h2]
  congr 1
  exact Fin.ext h

theorem seatArg_good (b : Byte) (owner : Seat → State → Answer) (s : State) (h : b.toNat < 16) :
    seatArg b owner s = owner ⟨b.toNat, h⟩ s := dif_pos h

theorem seatArg_bad (b : Byte) (owner : Seat → State → Answer) (s : State) (h : 15 < b.toNat) :
    seatArg b owner s = Answer.refuse .badArg s := dif_neg (by omega)

/-! ## The refusals of a request that starts a commit -/

theorem committing_iff (st : Store) : st.committing = true ↔ st.commit ≠ .idle := by
  rcases st with ⟨_, _, _, _, c⟩; cases c <;> simp [Store.committing]

theorem committing_false_iff (st : Store) : st.committing = false ↔ st.commit = .idle := by
  rcases st with ⟨_, _, _, _, c⟩; cases c <;> simp [Store.committing]

theorem guardCommit_barred (owner : State → Answer) (s : State) :
    guardCommit true owner s = Answer.refuse .barred s := rfl

theorem guardCommit_busy (owner : State → Answer) (s : State) (h : s.store.commit ≠ .idle) :
    guardCommit false owner s = Answer.refuse .busy s := by
  simp [guardCommit, (committing_iff s.store).2 h]

theorem guardCommit_free (owner : State → Answer) (s : State) (h : s.store.commit = .idle) :
    guardCommit false owner s = owner s := by
  simp [guardCommit, (committing_false_iff s.store).2 h]

end Sys2Proof.Machine
end

