-- ==== Sys2Proof/Laws/Sections.lean ====
section
/-! SUPPORT. What reading a section of the store gives after each write (R164, R166, R170). -/

namespace Sys2Proof.Machine

open Sys2Proof.Safety

theorem sectionPasses_iff (x : SectionImage) (b : Byte) :
    sectionPasses x b = true ↔ Config.contentSum x + b = 0 := decide_eq_true_iff

/-- A section with the integrity byte chosen for it passes its test. -/
@[simp] theorem sectionPasses_integrityOf (x : SectionImage) : sectionPasses x (integrityOf x) = true := by
  rw [sectionPasses_iff, integrityOf]; simp

/-- A damaged section fails its test. -/
@[simp] theorem sectionPasses_damagedByte (x : SectionImage) : sectionPasses x (damagedByte x) = false := by
  unfold damagedByte
  split
  · rename_i h
    refine Bool.eq_false_iff.2 fun h1 => ?_
    rw [sectionPasses_iff] at h h1
    rw [← BitVec.add_assoc, h] at h1
    exact absurd h1 (by decide)
  · rename_i h; exact Bool.eq_false_iff.2 h

/-- A section reads as what was written when its read-back passes, and as failing when it does not (R166). -/
@[simp] theorem Sect.read_written {α : Type} (image : α → SectionImage) (a : α) (passes : Bool) :
    (Sect.written image a passes).read image = if passes = true then some a else none := by
  cases passes <;> simp [Sect.read, Sect.written]

@[simp] theorem clearedStore_map (m : MapRecs) (c : ClearImages) (p : BitVec 6) :
    (clearedStore m c p).map = if p.getLsbD 0 = true then some m else none := Sect.read_written ..
@[simp] theorem clearedStore_profiles (m : MapRecs) (c : ClearImages) (p : BitVec 6) :
    (clearedStore m c p).profiles = if p.getLsbD 1 = true then some c.profiles else none := Sect.read_written ..
@[simp] theorem clearedStore_reminder (m : MapRecs) (c : ClearImages) (p : BitVec 6) :
    (clearedStore m c p).reminder = if p.getLsbD 2 = true then some (c.settings, c.tRetain) else none :=
  Sect.read_written ..
@[simp] theorem clearedStore_timing (m : MapRecs) (c : ClearImages) (p : BitVec 6) :
    (clearedStore m c p).timing = if p.getLsbD 3 = true then some c.timing else none := Sect.read_written ..
@[simp] theorem clearedStore_calibration (m : MapRecs) (c : ClearImages) (p : BitVec 6) :
    (clearedStore m c p).calibration = if p.getLsbD 4 = true then some c.cal else none := Sect.read_written ..
@[simp] theorem clearedStore_protection (m : MapRecs) (c : ClearImages) (p : BitVec 6) :
    (clearedStore m c p).protection = if p.getLsbD 5 = true then some c.switches else none := Sect.read_written ..

@[simp] theorem blankStore_map : blankStore.map = none := clearedStore_map ..
@[simp] theorem blankStore_profiles : blankStore.profiles = none := clearedStore_profiles ..
@[simp] theorem blankStore_reminder : blankStore.reminder = none := clearedStore_reminder ..
@[simp] theorem blankStore_timing : blankStore.timing = none := clearedStore_timing ..
@[simp] theorem blankStore_calibration : blankStore.calibration = none := clearedStore_calibration ..
@[simp] theorem blankStore_protection : blankStore.protection = none := clearedStore_protection ..

/-! ## In the words of the statements -/

/-- The test of the model and the byte sum of the statements are one (R164). -/
theorem sumAt_zero_iff (d : Stored) (x : Section) :
    sumAt d x = 0 ↔ sectionPasses (sectOf d x).1 (sectOf d x).2 = true := by
  rw [sectionPasses_iff, ← BitVec.toNat_inj, BitVec.toNat_add]
  rfl

/-- A write of one section leaves every other as it stands, integrity byte included (R166). -/
theorem sectOf_write_other (d : Stored) (image : SectionImage) (p : Bool) (x : Section) (h : image.sec ≠ x) :
    sectOf (d.write image p) x = sectOf d x := by
  cases image <;> cases x <;> first | rfl | exact absurd rfl h

/-- The section written reads as the image when its read-back passes, and as failing when it does not (R166). -/
theorem contentOf_write (d : Stored) (image : SectionImage) (p : Bool) :
    contentOf (d.write image p) image.sec = if p = true then some image else none := by
  unfold contentOf
  simp only [sumAt_zero_iff]
  cases image <;> cases p <;> simp [Stored.write, sectOf, SectionImage.sec, Sect.written, reminderOf]

/-- A section that a full reset cuts off fails its test; every other is as it stood (R166, R170). -/
theorem cutOff_sections (d : Stored) (c : Commit) (x : Section) :
    (writes c x = false → sectOf (d.cutOff c) x = sectOf d x) ∧ (writes c x = true → contentOf (d.cutOff c) x = none) := by
  cases c with
  | idle => simp [writes, Stored.cutOff]
  | one image =>
    refine ⟨fun h => sectOf_write_other d image false x (by simpa [writes] using h), fun h => ?_⟩
    have hx : image.sec = x := by simpa [writes] using h
    subst hx
    exact contentOf_write d image false
  | clear images =>
    refine ⟨fun h => by simp [writes] at h, fun _ => ?_⟩
    unfold contentOf
    simp only [sumAt_zero_iff]
    cases x <;> simp [Stored.cutOff, clearedStore, sectOf, Sect.written, reminderOf]

end Sys2Proof.Machine
end

