-- ==== Sys2Proof/Tests/Slice0.lean ====
section
/-! SUPPORT. Tests on small states: the checks of WellFormed, one or two effects of each command, worked out by hand from
the rules named, and for each statement that has hypotheses states and operands that meet them. -/

namespace Sys2Proof.Tests

open Sys2Proof.Machine Sys2Proof.Safety

/-! ## WellFormed refuses -/

theorem test_wf_code_of_a_request : (Instr.unknownRequest 0x21 ⟨[], true⟩).wellFormed = false := by decide
theorem test_wf_unknown_body_too_long :
    (Instr.unknownRequest 0x7F ⟨List.replicate 57 0, true⟩).wellFormed = false := by decide
theorem test_wf_request_body_too_long : (Instr.status ⟨List.replicate 57 0, true⟩).wellFormed = false := by decide
theorem test_wf_open_too_long : (Instr.mapWriteOpen (List.replicate 56 0) false).wellFormed = false := by decide
theorem test_wf_continue_too_long :
    (Instr.mapWriteContinue 1 (List.replicate 56 0) false).wellFormed = false := by decide
theorem test_wf_continue_part_0 : (Instr.mapWriteContinue 0 [] false).wellFormed = false := by decide
theorem test_wf_continue_final_part_3 : (Instr.mapWriteContinue 3 [] true).wellFormed = false := by decide
theorem test_wf_final_too_long : (Instr.mapWriteFinal ⟨List.replicate 56 0, none⟩).wellFormed = false := by decide
theorem test_wf_retention_set_empty : (Instr.retentionSet ⟨[], true⟩).wellFormed = false := by decide
theorem test_wf_retention_set_too_long :
    (Instr.retentionSet ⟨List.replicate 57 0, true⟩).wellFormed = false := by decide
theorem test_wf_longest_body : (Instr.calWrite ⟨List.replicate 56 0, true⟩).wellFormed = true := by decide

/-- The table gives its rows no bits. -/
theorem test_no_word_spells_a_command : decodeTableWord 8 1 = none := by decide

/-! ## Small states -/

/-- The state a command leaves. -/
def run (c : Instr) (s : State) : State :=
  match exec c s with
  | .next t => t
  | .fault _ => s
  | .refused _ => s

/-- A final request frame. -/
def req (body : List Byte) : ReqFrame := ⟨body, true⟩

/-- The status of the reply under way. -/
def statusOf (s : State) : Option Status :=
  match s.lnk.dispatch with
  | .idle => none
  | .handling r _ => some r.status

/-- The part with the load over, the map invalid. -/
def awake : State := { State.reset with store := { State.reset.store with loading := false } }

/-- The 12-position preset just applied, ignition OFF. -/
def van : State := mapApply (preset 1) true awake

/-- `van` with ignition ON, SCAN in WAITING, the driver's reminder ARMED. -/
def trip : State := { van with
  ret := { van.ret with ignition := .on }
  scan := { van.scan with state := .waiting, interval := some 50000 }
  rem := { van.rem with
    startTimer := some 600, table := van.rem.table.set 0 { state := .armed, visual := 0, budget := 900 } } }

/-- Row 1 of `van` INSTALLED. -/
def bench : State := { van with
  cmap := { van.cmap with rowState := van.cmap.rowState.set 1 .installed }
  verd := { van.verd with seats := van.verd.seats.set 2 { van.verd.seats.get 2 with lifecycle := .active } } }

/-- A queue that holds 64 entries. -/
def fullQueue : List Entry := List.replicate 64 (.sample { seat := 0, channel := .buckle, raw := 0 })

/-- A seat step of the driver's seat. -/
def stepOf (todo : List Channel) (phase : ScanPhase) (cut : Bool) : SeatStep :=
  { seat := 0, todo := todo, phase := phase, lost := false, cut := cut }

/-- A timed pass of `trip` at a seat step. -/
def passing (st : SeatStep) (gain : Gain) (queue : List Entry) : State := { trip with
  scan := { trip.scan with state := .pass, step := some st, gain := gain, queue := queue } }

/-- FEAT of `trip` in an intake, over an accumulator. -/
def intake (x : Intake) (acc : Option Accumulator) : State := { trip with
  feat := { trip.feat with intake := x, acc := acc } }

/-- A marker of the driver's seat. -/
def plainMarker : Marker := { seat := 0, anchor := none, torn := false, probeOnly := false }

/-- A complete frame of the driver's seat: each cell at raw 400, so P = 100, and the buckle UNLATCHED. -/
def wholeFrame : Accumulator := { openFrame 0 with
  cells := Tab.const 16 (some { raw := 400, p := 100, isOpen := false }), buckle := some (1000, .unlatched) }

/-- `trip` with a capture of the driver's seat and a finishing of a complete frame. -/
def capturing (c : Capture) (commit : Commit) : State := { trip with
  feat := { trip.feat with intake := .finishing plainMarker false false, acc := some wholeFrame, capture := some c }
  store := { trip.store with commit := commit } }

/-- A capture of the driver's seat. -/
def captureAt (st : CaptureState) (count sum : Nat) : Capture :=
  { newCapture 0 with state := st, count := count, sums := Tab.const 16 sum }

/-- A frame of a seat, of mass `mass` on 16 cells, with or without a bad cell. -/
def matFrame (i : Seat) (mass : Nat) (bad : Bool) : MatFrame :=
  { seat := i, contacts := 16, load := 10000, mass := mass, rail := 20, tension := none, band := some .unlatched,
    anchor := none
    conditions := { zero := false, saturated := false, open_ := bad, allOpen := false, uncalibrated := false,
                    rail := false, cinched := false } }

/-- A frame in the handover slot. -/
def handed (f : MatFrame) (s : State) : State := { s with verd := { s.verd with slot := some f } }

/-- A seat record changed. -/
def seatWith (i : Seat) (g : SeatRec → SeatRec) (s : State) : State :=
  { s with verd := { s.verd with seats := s.verd.seats.set i (g (s.verd.seats.get i)) } }

/-- The driver's reminder in a state. -/
def reminding (r : ReminderRec) : State := { trip with rem := { trip.rem with table := trip.rem.table.set 0 r } }

/-- The store of a state with a commit in flight. -/
def writing (c : Commit) (s : State) : State := { s with store := { s.store with commit := c } }

/-- Every switch barred, or none. -/
def switched (b : Bool) (s : State) : State :=
  { s with store := { s.store with switches := { map := b, calibration := b, profile := b, clear := b } } }

/-- The receiver of `awake` in a state with a buffer. -/
def receiving (st : RxState) (len check : Byte) (buf : List Byte) : State := { awake with
  lnk := { awake.lnk with rxState := st, rxLen := len, rxCheck := check, rxBuf := buf, interByte := true } }

/-- A reply under way. -/
def replying (restart : Bool) (s : State) : State :=
  { s with lnk := { s.lnk with dispatch := .handling { code := 3, status := .ok, body := [] } restart } }

/-- An open transfer. -/
def transferring (t : Transfer) (s : State) : State := { s with lnk := { s.lnk with transfer := some t } }

/-- The transfer with its first parts, all zeros, staged. -/
def zeros (expected : Nat) : Transfer :=
  { expected := expected, part0 := some (List.replicate 15 0)
    part1 := if 2 ≤ expected then some (List.replicate 48 0) else none
    part2 := if 3 ≤ expected then some (List.replicate 48 0) else none }

/-- A probe slot. -/
def probing (p : ProbeSlot) (s : State) : State := { s with scan := { s.scan with probe := p } }

/-- The images PROTECTION CLEAR writes. -/
def images : ClearImages :=
  { profiles := defaultProfiles, settings := defaultSettings, tRetain := 600, timing := defaultTiming,
    cal := uncalibrated, switches := permitted }

/-- A snapshot of an ADULT. -/
def aSnapshot : Snapshot := { confirmed := .adult, buckle := .latched, budget := 500 }

/-- `van` with a snapshot of seat 1 and the retention timer running. -/
def retaining : State := { van with
  ret := { van.ret with snapshots := van.ret.snapshots.set 1 (some aSnapshot), timer := some 6000 } }

/-- `retaining` with the last step of the retention timer left. -/
def expiring : State := { retaining with ret := { retaining.ret with timer := some 1 } }

/-- The driver's reminder in a state, the van at 20 km/h. -/
def moving (r : ReminderRec) : State := { reminding r with rem := { (reminding r).rem with speed := some 20 } }

/-- A closing pass of `trip` whose last marker waits, with a probe of seat 1 in the slot. -/
def closingWith (how : ProbeService) : State :=
  let s := passing (stepOf [] (.mark plainMarker) false) .x1 []
  { s with scan := { s.scan with closing := true, interval := none, probe := .armed 1 how } }

/-! ## One or two effects of each command -/

/-- R165: the part stands at reset with the load in flight. -/
theorem test_full_reset : (run .fullReset trip).store.loading = true ∧ (run .fullReset trip).ret.ignition = .off := by
  decide
/-- R166: a section that a full reset cuts off fails its test. -/
theorem test_full_reset_cuts_a_commit :
    contentOf (run .fullReset (writing (.one (.timing defaultTiming)) awake)).store.stored .timing = none :=
  (cutOff_sections blankStore (.one (.timing defaultTiming)) .timing).2 rfl
/-- R6: strap 01 seats 12, its row 3 named by doors 2 and 3. -/
theorem test_load_preset :
    ((run (.storeLoadComplete 1) State.reset).cmap.rows.get 3).doors = 0b1100 ∧
    ((run (.storeLoadComplete 1) State.reset).verd.seats.get 2).lifecycle = .absent := by decide
/-- R5: strap 00 with a failing map section gives the empty map, invalid. -/
theorem test_load_empty : (run (.storeLoadComplete 0) State.reset).cmap.valid = false := by
  have h : (run (.storeLoadComplete 0) State.reset).cmap.valid =
      mapValid (blankStore.map.getD emptyMap) (loadSections State.reset).cmap.profiles := by
    change (mapApply (blankStore.map.getD emptyMap) _ _).cmap.valid = _
    rw [mapApply_cmap]
    rfl
  rw [h, blankStore_map]
  decide
theorem test_ign_line : (run (.ignLineChange true) van).ret.ignDebounce = true := by decide
theorem test_ign_line_returns : (run (.ignLineChange true) trip).ret.ignDebounce = false := by decide
/-- R28, R115. -/
theorem test_ignition_off :
    (run .ignitionOff { trip with ret := { trip.ret with ignDebounce := true } }).scan.state = .stopped ∧
    ((run .ignitionOff { trip with ret := { trip.ret with ignDebounce := true } }).rem.table.get 0).state = .none := by
  decide
/-- R116, R29: the start interval is 60 s, the presumed driver ARMED. -/
theorem test_ignition_on :
    (run .ignitionOn { van with ret := { van.ret with ignDebounce := true } }).rem.startTimer = some 600 ∧
    ((run .ignitionOn { van with ret := { van.ret with ignDebounce := true } }).rem.table.get 0).state = .armed := by
  decide
/-- R145: an ACTIVE seat with a snapshot is resumed. -/
theorem test_ignition_on_resumes :
    ((run .ignitionOn { retaining with ret := { retaining.ret with ignDebounce := true } }).verd.seats.get 1).confirmed
      = .adult := by decide
theorem test_door_line : (run (.doorLineChange 3 true) van).ret.doorDebounce.get 3 = true := by decide
/-- R76: an open door ends the hold of the seats of its row. -/
theorem test_door_open :
    ((run (.doorOpen 0) (seatWith 1 (fun r => { r with motionHold := true })
      { trip with ret := { trip.ret with doorDebounce := Tab.const 4 true } })).verd.seats.get 1).motionHold = false := by
  decide
/-- R76: with the doors closed a speed of v_hold sets the hold. -/
theorem test_door_closed :
    ((run (.doorClosed 0) { trip with
      rem := { trip.rem with speed := some 10 }
      ret := { trip.ret with doorDebounce := Tab.const 4 true, doorOpen := Tab.const 4 false |>.set 0 true }
      }).verd.seats.get 1).motionHold = true := by decide
/-- R9: row 1 of the preset is on ROWP0. -/
theorem test_rowp_line : (run (.rowpLineChange 0 true) van).cmap.rowDebounce.get 1 = true := by decide
/-- R10. -/
theorem test_row_installed :
    ((run (.rowInstalled 1) (run (.rowpLineChange 0 true) van)).verd.seats.get 2).lifecycle = .active ∧
    (run (.rowInstalled 1) (run (.rowpLineChange 0 true) van)).lnk.notices.head? = some (.row 1 .installed) := by decide
/-- R11. -/
theorem test_row_removed :
    ((run (.rowRemoved 1) { bench with
      cmap := { bench.cmap with rowDebounce := Tab.const 5 true } }).verd.seats.get 2).lifecycle = .absent := by decide
/-- R20, R21: a pass starts at the driver's seat, 1000 × 50 µs to the next. -/
theorem test_interval_starts_a_pass :
    (run .intervalExpiry trip).scan.step.map SeatStep.seat = some 0 ∧
    (run .intervalExpiry trip).scan.rest = [1] ∧ (run .intervalExpiry trip).scan.interval = some 50000 := by decide
theorem test_interval_overrun :
    (run .intervalExpiry (passing (stepOf [] .convert false) .x1 [])).scan.overrun = true := by decide
theorem test_settle_end :
    (run .settleEnd (passing (stepOf [.buckle] (.settle 100) false) .x1 [])).scan.step.map SeatStep.phase =
      some .convert := by decide
/-- R26: a sample that finds 64 entries is lost. -/
theorem test_conversion_lost :
    (run (.conversionComplete 7 0) (passing (stepOf [.cell 0, .cell 1] .convert false) .x1 fullQueue)).scan.step.map
      SeatStep.lost = some true := by decide
/-- R24: the tension channel is converted at ×1, after a fresh settle wait. -/
theorem test_conversion_resets_gain :
    (run (.conversionComplete 7 0) (passing (stepOf [.cell 0, .tension] .convert false) .x4 [])).scan.gain = .x1 := by
  decide
theorem test_marker_waits :
    (run .markerPushed (passing (stepOf [] (.mark plainMarker) false) .x1 fullQueue)).scan.queue = fullQueue := by decide
/-- R28, R29: only a probe accepted while the pass was closing sends SCAN to PROBING. -/
theorem test_closing_pass_ends :
    (run .markerPushed (closingWith .closing)).scan.state = .probing ∧
    (run .markerPushed (closingWith .probePass)).scan.state = .waiting := by decide
/-- R48: (1000 - 200) × 512 ÷ 256 = 1600. -/
theorem test_entry_corrects :
    ((run .entryComplete (intake (.entry { seat := 0, channel := .cell 3, raw := 1000 }
      { z := 200, g := 512, mark := true }) none)).feat.acc.bind fun a => (a.cells.get 3).map CellReading.p)
      = some 1600 := by decide
/-- R49: a raw code below 32 marks the cell open. -/
theorem test_entry_open :
    ((run .entryComplete (intake (.entry { seat := 0, channel := .cell 3, raw := 31 }
      { z := 200, g := 512, mark := true }) none)).feat.acc.bind fun a => (a.cells.get 3).map CellReading.isOpen)
      = some true := by decide
theorem test_blocked_marker_taken :
    (run .blockedMarkerTake { intake .blocked none with
      scan := { trip.scan with queue := [.marker plainMarker] } }).feat.intake = .finishing plainMarker false false := by
  decide
/-- R51, R52: L = 16 × 100, M = 1600 × 40 ÷ 4096 = 15, S = 800 × 64 ÷ 1600 = 32. -/
theorem test_frame_finish :
    (run .frameFinish (intake (.finishing plainMarker false false) (some wholeFrame))).verd.slot.map
      (fun f => (f.load, f.mass, f.contacts, f.rail)) = some (1600, 15, 16, 32) := by decide
/-- R60: the fourth frame's offsets, (1200 + 400) ÷ 4 = 400. -/
theorem test_fourth_capture_frame :
    (((run .frameFinish (capturing (captureAt .collecting 3 1200) .idle)).feat.cal.get 0).get 5).z = 400 := by decide
/-- R68, R69, R72: M = 100 is at or above m_adult 94: ADULT is the candidate, its count 1. -/
theorem test_frame_makes_a_candidate :
    ((run .frameHandlingComplete (handed (matFrame 0 100 false) trip)).verd.seats.get 0).candidate = some .adult ∧
    ((run .frameHandlingComplete (handed (matFrame 0 100 false) trip)).verd.seats.get 0).candidateCount = 1 := by decide
/-- R86: the third frame with OPEN faults the seat. -/
theorem test_third_bad_frame_faults :
    ((run .frameHandlingComplete (handed (matFrame 0 100 true)
      (seatWith 0 (fun r => { r with matStreak := 2 }) trip))).verd.seats.get 0).lifecycle = .faulted := by decide
theorem test_rem_timer_step : (run .remTimerStep trip).rem.startTimer = some 599 := by decide
/-- R105, R109: a budget that reaches 0 at the step caps the seat there and then. -/
theorem test_rem_timer_step_expires :
    (run .remTimerStep (moving { state := .audible, visual := 0, budget := 1 })).rem.table.get 0 =
      { state := .capped, visual := 0, budget := 0 } := by decide
/-- R102, R103, R108: the unbelted driver's visual stage lasts 8 s. -/
theorem test_start_interval_expiry :
    ((run .startIntervalExpiry (seatWith 0 (fun r => { r with buckle := .unlatched })
      { trip with rem := { trip.rem with startTimer := some 1 } })).rem.table.get 0) =
      { state := .visual, visual := 80, budget := 900 } := by decide
theorem test_visual_expiry :
    ((run (.visualTimerExpiry 0) (moving { state := .visual, visual := 1, budget := 900 })).rem.table.get 0).state =
      .audible := by decide
theorem test_budget_expiry :
    ((run (.chimeBudgetExpiry 0) (moving { state := .audible, visual := 0, budget := 1 })).rem.table.get 0).state =
      .capped := by decide
theorem test_freshness_expiry :
    (run .freshnessExpiry { trip with rem := { trip.rem with speed := some 50, freshness := true } }).rem.speed = none := by
  decide
theorem test_retention_timer_expiry :
    (run .retentionTimerExpiry expiring).lnk.notices =
      [.retention (some .timer) ((Tab.const 16 false).set 1 true)] := by decide
theorem test_commit_complete :
    (run (.commitComplete false) (writing (.one (.timing defaultTiming)) van)).lnk.notices = [.store .timing false] := by
  decide
/-- R170: six notices, the map's OK when the section reads back failing. -/
theorem test_clear_commit_complete :
    (run (.clearCommitComplete 0b111110) (writing (.clear images) van)).lnk.notices.head? = some (.store .map true) ∧
    (run (.clearCommitComplete 0b111110) (writing (.clear images) van)).lnk.notices.length = 6 := by decide
theorem test_receive_start : (run (.receiveByte 0x3C) awake).lnk.rxState = .length := by decide
/-- R149, R162: the frame 3C 01 01 FE 0D is IDENTIFY. -/
theorem test_receive_identify :
    bodyOf (run (.receiveByte 0x0D) (receiving .end_ 1 0xFE [1])) = [0x1C, 0x6A, 0x16, 0x03, 1, 4, 16, 5] := by decide
theorem test_inter_byte_timeout : (run .interByteTimeout (receiving .body 3 0 [1])).lnk.rxState = .hunt := by decide
theorem test_reply_complete : (run .replyComplete (replying false trip)).lnk.dispatch = .idle := by decide
/-- R18: RESTART leaves SCAN in STOPPED with ignition OFF, its queue empty. -/
theorem test_restart_reaches_scan :
    (run .replyComplete (replying true { van with scan := { van.scan with queue := fullQueue } })).scan.queue = [] ∧
    (run .replyComplete (replying true { van with scan := { van.scan with queue := fullQueue } })).scan.state = .stopped := by
  decide
theorem test_transfer_expiry :
    (run .transferInactivityExpiry (transferring (zeros 2) awake)).lnk.transfer = none := by decide
theorem test_unknown_request : statusOf (run (.unknownRequest 0x7F (req [])) awake) = some .unknownRequest := by decide
theorem test_identify : bodyOf (run (.identify (req [])) awake) = [0x1C, 0x6A, 0x16, 0x03, 1, 4, 16, 5] := by decide
/-- R178: map invalid, strap 0, SCAN HALTED, ignition OFF, no section valid, idle, permitted, no notice, level 1. -/
theorem test_status_map_invalid : bodyOf (run (.status (req [])) awake) = [0, 0, 0, 0, 0, 0, 0, 0, 0, 0, 1] := by decide
theorem test_restart_follows :
    (run (.restart (req [])) awake).lnk.dispatch = .handling { code := 3, status := .ok, body := [] } true := by decide
/-- R160: one notice returned, none left, no overflow; ROW is type 7. -/
theorem test_notice_fetch :
    (run (.noticeFetch (req [8])) { awake with
      lnk := { awake.lnk with notices := [.row 1 .installed] } }).lnk.notices = [] ∧
    (bodyOf (run (.noticeFetch (req [8])) { awake with
      lnk := { awake.lnk with notices := [.row 1 .installed] } })).take 3 = [1, 0, 0] := by decide
theorem test_notice_level_clamped : (run (.noticeLevelSet (req [200])) awake).lnk.level = 32 := by decide
theorem test_map_open : statusOf (run (.mapWriteOpen (List.replicate 15 0) false) awake) = some .accepted := by decide
theorem test_map_continue :
    statusOf (run (.mapWriteContinue 2 (List.replicate 48 0) false) (transferring (zeros 1) awake)) = some .badArg := by
  decide
theorem test_map_final_without_transfer :
    statusOf (run (.mapWriteFinal ⟨List.replicate 48 0, none⟩) awake) = some .noTransfer := by decide
/-- R4: in an image of zeros row 0 fails for a presence byte other than none. -/
theorem test_map_final_invalid :
    statusOf (run (.mapWriteFinal ⟨List.replicate 48 0, none⟩) (transferring (zeros 3) awake)) = some .mapInvalid := by decide
/-- R14: flag, strap, part, five rows of three bytes and five row states. -/
theorem test_map_read : (bodyOf (run (.mapRead (req [0])) van)).length = 23 := by decide
theorem test_profile_write_order :
    statusOf (run (.profileWrite ⟨req (0 :: List.replicate 12 0), none⟩) awake) = some .badArg := by decide
/-- R15: an N_child of 200 is clamped to 30, stored and echoed. -/
theorem test_profile_write_n_child :
    let t := run (.profileWrite ⟨req [0, 40, 128, 2, 8, 30, 94, 4, 40, 120, 6, 3, 10], some 200⟩) awake
    (t.cmap.profiles.get 0).nChild = 30 ∧ t.lnk.dispatch = .handling
      { code := 0x12, status := .ok, body := [0, 40, 128, 2, 8, 30, 94, 4, 40, 120, 6, 3, 10], nChild := [30] } false := by
  decide
/-- R19, R38: P = 1 is clamped to 2, and the interval to 10 000 µs. -/
theorem test_scan_timing_set :
    (run (.scanTimingSet (req [1, 0, 50, 0, 100, 0])) awake).scan.timing = { p := 2, d := 50, settle := 100 } ∧
    bodyOf (run (.scanTimingSet (req [1, 0, 50, 0, 100, 0])) awake) = [2, 0, 50, 0, 100, 0, 0x10, 0x27, 0] := by decide
theorem test_scan_status_clears :
    (run (.scanStatus (req [])) { awake with scan := { awake.scan with overrun := true } }).scan.overrun = false := by
  decide
theorem test_seat_probe_arms : (run (.seatProbe (req [1])) trip).scan.probe = .armed 1 .timed := by decide
theorem test_probe_read_not_ready :
    statusOf (run (.probeRead (req [])) (probing (.armed 1 .timed) trip)) = some .notReady := by decide
/-- R174: cell 2 with Z = 100 and G = 256 is the group 100 + 256 × 2^10 + 2 × 2^20 = 0x240064. -/
theorem test_cal_write :
    ((run (.calWrite (req [0, 1, 0x64, 0x00, 0x24])) van).feat.cal.get 0).get 2 =
      { z := 100, g := 256, mark := true } := by decide
theorem test_cal_read : (bodyOf (run (.calRead (req [0])) van)).length = 51 := by decide
theorem test_zero_capture_needs_ignition : statusOf (run (.zeroCapture (req [0])) van) = some .state := by decide
theorem test_zero_capture : (run (.zeroCapture (req [0])) trip).feat.capture = some (newCapture 0) := by decide
theorem test_seat_summary : (bodyOf (run (.seatSummary (req [])) van)).length = 32 := by decide
theorem test_seat_detail : (bodyOf (run (.seatDetail (req [0])) van)).length = 35 := by decide
/-- R171: a condition set that is absent is 0xFF. -/
theorem test_seat_detail_without_features : (bodyOf (run (.seatDetail (req [0])) van)).getD 27 0 = 0xFF := by decide
/-- R100: 251 is UNKNOWN. -/
theorem test_vehicle_state_unknown : (run (.vehicleState (req [251])) trip).rem.speed = none := by decide
/-- R103: at v_remind 20 the trigger holds; the driver's UNKNOWN buckle keeps ARMED. -/
theorem test_vehicle_state_armed :
    ((run (.vehicleState (req [20])) trip).rem.table.get 0).state = .armed ∧
    (run (.vehicleState (req [20])) trip).trigger = true := by decide
/-- R99: v_remind 4 is clamped to 5, t_start 301 to 300. -/
theorem test_reminder_set :
    bodyOf (run (.reminderSet (req [4, 10, 0x2D, 0x01, 8, 90])) awake) = [5, 10, 0x2C, 0x01, 8, 90] := by decide
theorem test_cabin_reminder : statusOf (run (.cabinReminder (req [2])) trip) = some .badArg := by decide
theorem test_advisory_read_empties :
    (run (.advisoryRead (req [])) { van with adv := { van.adv with superseded := true } }).adv.mailbox = none := by decide
/-- R147: 3601 s is clamped to 3600. -/
theorem test_retention_set : (run (.retentionSet (req [0x11, 0x0E])) awake).ret.tRetain = 3600 := by decide
theorem test_retention_read : (bodyOf (run (.retentionRead true) van)).length = 53 := by decide
theorem test_protect_set_bars : (run (.protectSet (req [1])) awake).store.switches.map = true := by decide
theorem test_protect_set_never_permits : statusOf (run (.protectSet (req [0])) (switched true awake)) = some .barred := by
  decide
/-- R170: the map section's flag is invalid at once and a RESTART follows. -/
theorem test_protection_clear :
    (run (.protectionClear (req [])) van).store.valid.map = false ∧
    (run (.protectionClear (req [])) van).lnk.dispatch =
      .handling { code := 0x61, status := .ok, body := [] } true := by decide


/-! ## Images of a map transfer -/

/-- The image of a transfer of zeros. -/
def zeroImage : MapRecs :=
  { rows := Tab.const 5 { removable := false, presence := 0, doors := 0 }
    seats := Tab.const 16 { cells := 0, fitted := false, tension := false, buckle := false, presume := false, row := 0,
                            gain := 0, profile := 0, advisory := 0, anchor := 0 } }

/-- A transfer of a valid map of one seat: five plain rows, seat 15 with four cells on line 7 and position 1. -/
def smallTransfer : Transfer :=
  { expected := 3
    part0 := some [0, 0xFF, 0, 0, 0xFF, 0, 0, 0xFF, 0, 0, 0xFF, 0, 0, 0xFF, 0x0F]
    part1 := some (List.replicate 48 0)
    part2 := some (List.replicate 42 0 ++ [0x0F, 0x00, 0x01, 0x30, 0x13, 0x07]) }

/-- Part 3 of that transfer: four default profiles. -/
def smallPart3 : List Byte :=
  [40, 128, 2, 8, 30, 94, 4, 40, 120, 6, 3, 10] ++ [40, 128, 2, 8, 30, 90, 6, 40, 120, 6, 3, 10] ++
  [40, 128, 2, 8, 30, 90, 6, 40, 120, 6, 3, 10] ++ [40, 128, 2, 8, 30, 90, 6, 40, 120, 6, 3, 10]

/-- The image that transfer carries. -/
def smallImage : MapRecs :=
  { rows := (Tab.const 5 { removable := false, presence := 0xFF, doors := 0 }).set 4
      { removable := false, presence := 0xFF, doors := 0x0F }
    seats := zeroImage.seats.set 15
      { cells := 0x000F, fitted := true, tension := false, buckle := false, presume := false, row := 0, gain := 3,
        profile := 3, advisory := 1, anchor := 7 } }

/-! ## States and operands that meet the hypotheses of the statements, clause by clause -/


theorem witness_LoadFillsTheWorkingCopiesFromTheSections :
    (∃ (s : State),
      s.store.loading = true) ∧
    (∃ (s : State),
      s.store.loading = false) :=
  ⟨⟨State.reset, by decide⟩,
   ⟨awake, by decide⟩⟩

theorem witness_LoadAppliesTheMapThatTheStrapsChoose :
    (∃ (s : State),
      s.store.loading = true) :=
  ⟨State.reset, by decide⟩

theorem witness_CommitCompletionSetsTheFlagAndPostsStore :
    (∃ (s : State),
      isOne s.store.commit = true ∧
      s.feat.capture.all (fun x => decide (x.state = .collecting)) = true) ∧
    (∃ (s : State),
      isOne s.store.commit = true ∧
      target s.store.commit = .calibration ∧
      (s.feat.capture.map Capture.state) = some .committing) ∧
    (∃ (s : State) (c : Capture) (offsets : Tab 16 Nat),
      isOne s.store.commit = true ∧
      s.feat.capture = some c ∧
      c.state = .waitingStore ∧
      c.offsets = some offsets) ∧
    (∃ (s : State),
      isOne s.store.commit = false) :=
  ⟨⟨(writing (.one (.calibration uncalibrated)) { trip with feat := { trip.feat with capture := some (captureAt .collecting 0 0) } }), by decide⟩,
   ⟨(writing (.one (.calibration uncalibrated)) { trip with feat := { trip.feat with capture := some (captureAt .committing 3 0) } }), by decide⟩,
   ⟨(writing (.one (.timing defaultTiming)) { trip with feat := { trip.feat with capture := some { captureAt .waitingStore 4 1600 with offsets := some (Tab.const 16 400) } } }),
     { captureAt .waitingStore 4 1600 with offsets := some (Tab.const 16 400) },
     (Tab.const 16 400), by decide⟩,
   ⟨(writing (.clear images) van), by decide⟩⟩

theorem witness_ClearCommitCompletionReadsBackSixSections :
    (∃ (s : State) (c : ClearImages),
      s.store.commit = .clear c ∧
      s.feat.capture.all (fun x => decide (x.state ≠ .waitingStore)) = true) ∧
    (∃ (s : State),
      isClear s.store.commit = false) :=
  ⟨⟨(writing (.clear images) { trip with feat := { trip.feat with capture := some (captureAt .committing 3 0) } }),
     images, by decide⟩,
   ⟨(writing (.one (.timing defaultTiming)) van), by decide⟩⟩

theorem witness_IgnitionOffEventSnapshotsAndQuietsTheCabin :
    (∃ (s : State),
      s.ret.ignDebounce = true ∧
      s.ret.ignition = .on) ∧
    (∃ (s : State),
      (s.ret.ignDebounce = false ∨ s.ret.ignition = .off)) :=
  ⟨⟨{ trip with ret := { trip.ret with ignDebounce := true } }, by decide⟩,
   ⟨{ van with ret := { van.ret with ignDebounce := true } }, by decide⟩⟩

theorem witness_IgnitionOnEventResumesSnapshotsAndStartsTheTrip :
    (∃ (s : State),
      s.ret.ignDebounce = true ∧
      s.ret.ignition = .off) ∧
    (∃ (s : State),
      (s.ret.ignDebounce = false ∨ s.ret.ignition = .on)) :=
  ⟨⟨{ retaining with ret := { retaining.ret with ignDebounce := true } }, by decide⟩,
   ⟨{ trip with ret := { trip.ret with ignDebounce := true } }, by decide⟩⟩

theorem witness_DoorEventsEvaluateMotionHoldAndDiscardSnapshots :
    (∃ (s : State) (d : Door),
      s.ret.doorDebounce.get d = true ∧
      s.ret.doorOpen.get d = false ∧
      s.ret.ignition = .off) ∧
    (∃ (s : State) (d : Door),
      s.ret.doorDebounce.get d = true ∧
      s.ret.doorOpen.get d = false ∧
      s.ret.ignition = .on) ∧
    (∃ (s : State) (d : Door),
      s.ret.doorDebounce.get d = true ∧
      s.ret.doorOpen.get d = true) :=
  ⟨⟨{ retaining with ret := { retaining.ret with doorDebounce := Tab.const 4 true, doorOpen := Tab.const 4 false } },
     3, by decide⟩,
   ⟨{ trip with ret := { trip.ret with doorDebounce := Tab.const 4 true, doorOpen := Tab.const 4 false } },
     0, by decide⟩,
   ⟨{ van with ret := { van.ret with doorDebounce := Tab.const 4 true, doorOpen := Tab.const 4 true } },
     3, by decide⟩⟩

theorem witness_RetentionTimerExpiryDiscardsEverySnapshot :
    (∃ (s : State),
      s.ret.timer.any (fun n => decide (n ≤ 1)) = true) ∧
    (∃ (s : State),
      s.ret.timer.any (fun n => decide (n ≤ 1)) = false) :=
  ⟨⟨expiring, by decide⟩,
   ⟨retaining, by decide⟩⟩

theorem witness_RowInstallationMakesItsSeatsActiveAndFresh :
    (∃ (s : State) (r : Row),
      s.cmap.valid = true ∧
      s.cmap.rowDebounce.get r = true ∧
      s.cmap.rowState.get r = .removed) ∧
    (∃ (s : State) (r : Row),
      (s.cmap.valid = false ∨ s.cmap.rowDebounce.get r = false ∨ s.cmap.rowState.get r ≠ .removed)) :=
  ⟨⟨{ van with cmap := { van.cmap with rowDebounce := Tab.const 5 true } }, 3, by decide⟩,
   ⟨van, 4, by decide⟩⟩

theorem witness_RowRemovalMakesItsSeatsAbsentEverywhere :
    (∃ (s : State) (r : Row),
      s.cmap.valid = true ∧
      s.cmap.rowDebounce.get r = true ∧
      s.cmap.rowState.get r = .installed) ∧
    (∃ (s : State) (r : Row),
      (s.cmap.valid = false ∨ s.cmap.rowDebounce.get r = false ∨ s.cmap.rowState.get r ≠ .installed)) :=
  ⟨⟨{ bench with cmap := { bench.cmap with rowDebounce := Tab.const 5 true } }, 1, by decide⟩,
   ⟨{ van with cmap := { van.cmap with rowDebounce := Tab.const 5 true } }, 1, by decide⟩⟩

theorem witness_IntervalExpiryStartsAPassOrCountsAnOverrun :
    (∃ (s : State) (i : Seat),
      s.scan.interval.isSome = true ∧
      s.scan.state = .waiting ∧
      ((s.verd.seats.get i).lifecycle = .active ∨ (s.verd.seats.get i).lifecycle = .faulted) ∧
      (∀ j : Seat, j < i → (s.verd.seats.get j).lifecycle ≠ .active ∧ (s.verd.seats.get j).lifecycle ≠ .faulted)) ∧
    (∃ (s : State),
      s.scan.interval.isSome = true ∧
      s.scan.state = .waiting ∧
      (∀ j : Seat, (s.verd.seats.get j).lifecycle ≠ .active ∧ (s.verd.seats.get j).lifecycle ≠ .faulted)) ∧
    (∃ (s : State),
      s.scan.interval.isSome = true ∧
      s.scan.state = .pass) ∧
    (∃ (s : State),
      s.scan.interval = none) :=
  ⟨⟨trip, 0, by decide⟩,
   ⟨{ awake with scan := { awake.scan with state := .waiting, interval := some 10000 } }, by decide⟩,
   ⟨{ (passing (stepOf [] .convert false) .x1 []) with scan := { (passing (stepOf [] .convert false) .x1 []).scan with interval := some 1000000 } }, by decide⟩,
   ⟨awake, by decide⟩⟩

theorem witness_SettleEndBeginsTheConversionOrFormsTheMarker :
    (∃ (s : State) (st : SeatStep) (w : Nat) (ch : Channel) (more : List Channel),
      s.scan.step = some st ∧
      st.phase = .settle w ∧
      st.todo = ch :: more) ∧
    (∃ (s : State) (st : SeatStep) (w : Nat),
      s.scan.step = some st ∧
      st.phase = .settle w ∧
      st.todo = []) ∧
    (∃ (s : State),
      s.scan.step.all (fun x => match x.phase with | .settle _ => false | _ => true) = true) :=
  ⟨⟨(passing (stepOf [.buckle] (.settle 20) false) .x1 []),
     (stepOf [.buckle] (.settle 20) false),
     20,
     .buckle,
     [], by decide⟩,
   ⟨(passing (stepOf [] (.settle 500) true) .x1 fullQueue), (stepOf [] (.settle 500) true), 500, by decide⟩,
   ⟨awake, by decide⟩⟩

theorem witness_ConversionCompletePushesOrLosesItsSample :
    (∃ (s : State) (st : SeatStep) (ch : Channel) (next : Channel) (more : List Channel),
      s.scan.step = some st ∧
      st.phase = .convert ∧
      st.cut = false ∧
      st.todo = ch :: next :: more ∧
      (s.scan.gain = .x1 ∨ (∃ n : Cell, next = .cell n))) ∧
    (∃ (s : State) (st : SeatStep) (ch : Channel) (next : Channel) (more : List Channel),
      s.scan.step = some st ∧
      st.phase = .convert ∧
      st.cut = false ∧
      st.todo = ch :: next :: more ∧
      s.scan.gain ≠ .x1 ∧
      (next = .tension ∨ next = .buckle)) ∧
    (∃ (s : State) (st : SeatStep) (ch : Channel),
      s.scan.step = some st ∧
      st.phase = .convert ∧
      st.cut = false ∧
      st.todo = [ch]) ∧
    (∃ (s : State) (st : SeatStep) (ch : Channel) (rest : List Channel),
      s.scan.step = some st ∧
      st.phase = .convert ∧
      st.cut = true ∧
      st.todo = ch :: rest) ∧
    (∃ (s : State),
      s.scan.step.all (fun x => decide (x.phase ≠ .convert)) = true) :=
  ⟨⟨(passing (stepOf [.cell 14, .cell 15] .convert false) .x8 fullQueue),
     (stepOf [.cell 14, .cell 15] .convert false),
     .cell 14,
     .cell 15,
     [], by decide⟩,
   ⟨(passing (stepOf [.cell 15, .tension] .convert false) .x8 fullQueue),
     (stepOf [.cell 15, .tension] .convert false),
     .cell 15,
     .tension,
     [], by decide⟩,
   ⟨(passing (stepOf [.buckle] .convert false) .x1 []), (stepOf [.buckle] .convert false), .buckle, by decide⟩,
   ⟨(passing (stepOf [.buckle] .convert true) .x1 []), (stepOf [.buckle] .convert true), .buckle, [], by decide⟩,
   ⟨awake, by decide⟩⟩

theorem witness_MarkerPushedWaitsForRoomAndThenGoesOn :
    (∃ (s : State) (st : SeatStep) (m : Marker),
      s.scan.step = some st ∧
      st.phase = .mark m ∧
      s.scan.queue.length < 64) ∧
    (∃ (s : State) (st : SeatStep) (m : Marker),
      s.scan.step = some st ∧
      st.phase = .mark m ∧
      64 ≤ s.scan.queue.length) ∧
    (∃ (s : State),
      s.scan.step.all (fun x => match x.phase with | .mark _ => false | _ => true) = true) :=
  ⟨⟨(passing (stepOf [] (.mark plainMarker) false) .x1 (fullQueue.drop 1)),
     (stepOf [] (.mark plainMarker) false),
     plainMarker, by decide⟩,
   ⟨(passing (stepOf [] (.mark plainMarker) false) .x1 fullQueue),
     (stepOf [] (.mark plainMarker) false),
     plainMarker, by decide⟩,
   ⟨awake, by decide⟩⟩

theorem witness_EntryCompletionRecordsOrTearsTheFrame :
    (∃ (s : State) (e : Sample) (c : CellCal) (n : Cell),
      s.feat.intake = .entry e c ∧
      (frameFor s.feat.acc e.seat).torn = false ∧
      readingOf (frameFor s.feat.acc e.seat) e.channel = false ∧
      fits (s.cmap.seats.get e.seat) e.channel = true ∧
      e.channel = .cell n ∧
      c.mark = true) ∧
    (∃ (s : State) (e : Sample) (c : CellCal) (n : Cell),
      s.feat.intake = .entry e c ∧
      (frameFor s.feat.acc e.seat).torn = false ∧
      readingOf (frameFor s.feat.acc e.seat) e.channel = false ∧
      fits (s.cmap.seats.get e.seat) e.channel = true ∧
      e.channel = .cell n ∧
      c.mark = false) ∧
    (∃ (s : State) (e : Sample) (c : CellCal),
      s.feat.intake = .entry e c ∧
      (frameFor s.feat.acc e.seat).torn = false ∧
      readingOf (frameFor s.feat.acc e.seat) e.channel = false ∧
      fits (s.cmap.seats.get e.seat) e.channel = true ∧
      e.channel = .tension) ∧
    (∃ (s : State) (e : Sample) (c : CellCal),
      s.feat.intake = .entry e c ∧
      (frameFor s.feat.acc e.seat).torn = false ∧
      readingOf (frameFor s.feat.acc e.seat) e.channel = false ∧
      fits (s.cmap.seats.get e.seat) e.channel = true ∧
      e.channel = .buckle) ∧
    (∃ (s : State) (e : Sample) (c : CellCal),
      s.feat.intake = .entry e c ∧
      ((frameFor s.feat.acc e.seat).torn = true ∨ readingOf (frameFor s.feat.acc e.seat) e.channel = true ∨ fits (s.cmap.seats.get e.seat) e.channel = false)) ∧
    (∃ (s : State),
      (s.feat.intake = .idle ∨ s.feat.intake = .blocked)) :=
  ⟨⟨(intake (.entry { seat := 0, channel := (.cell 15), raw := 4095 } { z := 64, g := 1023, mark := true }) none),
     { seat := 0, channel := (.cell 15), raw := 4095 },
     { z := 64, g := 1023, mark := true },
     15, by decide⟩,
   ⟨(intake (.entry { seat := 0, channel := (.cell 0), raw := 4095 } { z := 300, g := 256, mark := false }) none),
     { seat := 0, channel := (.cell 0), raw := 4095 },
     { z := 300, g := 256, mark := false },
     0, by decide⟩,
   ⟨{ (intake (.entry { seat := 0, channel := .tension, raw := 4095 } { z := 300, g := 256, mark := false }) none) with cmap := { (intake (.entry { seat := 0, channel := .tension, raw := 4095 } { z := 300, g := 256, mark := false }) none).cmap with seats := (intake (.entry { seat := 0, channel := .tension, raw := 4095 } { z := 300, g := 256, mark := false }) none).cmap.seats.set 0 { (intake (.entry { seat := 0, channel := .tension, raw := 4095 } { z := 300, g := 256, mark := false }) none).cmap.seats.get 0 with tension := true } } },
     { seat := 0, channel := .tension, raw := 4095 },
     { z := 300, g := 256, mark := false }, by decide⟩,
   ⟨(intake (.entry { seat := 0, channel := .buckle, raw := 4095 } { z := 300, g := 256, mark := false }) none),
     { seat := 0, channel := .buckle, raw := 4095 },
     { z := 300, g := 256, mark := false }, by decide⟩,
   ⟨(intake (.entry { seat := 0, channel := .tension, raw := 4095 } { z := 300, g := 256, mark := false }) none),
     { seat := 0, channel := .tension, raw := 4095 },
     { z := 300, g := 256, mark := false }, by decide⟩,
   ⟨awake, by decide⟩⟩

theorem witness_BlockedMarkersAndTornFrames :
    (∃ (s : State),
      s.feat.intake = .blocked ∧
      s.verd.slot = none) ∧
    (∃ (s : State),
      (s.feat.intake ≠ .blocked ∨ s.verd.slot.isSome = true)) ∧
    (∃ (s : State) (mk : Marker) (bp : Bool) (bc : Bool),
      s.feat.intake = .finishing mk bp bc ∧
      tornAt s mk = true) ∧
    (∃ (s : State),
      (s.feat.intake = .idle ∨ s.feat.intake = .blocked)) :=
  ⟨⟨(intake .blocked none), by decide⟩,
   ⟨(handed (matFrame 0 0 false) (intake .blocked none)), by decide⟩,
   ⟨(intake (.finishing plainMarker true true) none), plainMarker, true, true, by decide⟩,
   ⟨(intake .blocked none), by decide⟩⟩

theorem witness_CompleteFramesReachTheSlotAndTheProbe :
    (∃ (s : State) (mk : Marker) (a : Accumulator) (bp : Bool) (bc : Bool),
      s.feat.intake = .finishing mk bp bc ∧
      s.feat.acc = some a ∧
      tornAt s mk = false) ∧
    (∃ (s : State) (mk : Marker) (a : Accumulator) (bp : Bool) (bc : Bool),
      s.feat.intake = .finishing mk bp bc ∧
      s.feat.acc = some a ∧
      tornAt s mk = false ∧
      counts s mk bc = false) :=
  ⟨⟨(intake (.finishing plainMarker false false) (some wholeFrame)),
     plainMarker,
     wholeFrame,
     false,
     false, by decide⟩,
   ⟨(intake (.finishing { plainMarker with probeOnly := true } true true) (some wholeFrame)),
     { plainMarker with probeOnly := true },
     wholeFrame,
     true,
     true, by decide⟩⟩

theorem witness_ZeroCaptureCountsFramesAndEndsAtTheFourth :
    (∃ (s : State) (mk : Marker) (a : Accumulator) (c : Capture) (bp : Bool) (bc : Bool),
      s.feat.intake = .finishing mk bp bc ∧
      s.feat.acc = some a ∧
      tornAt s mk = false ∧
      counts s mk bc = true ∧
      s.feat.capture = some c ∧
      c.count < 3) ∧
    (∃ (s : State) (mk : Marker) (a : Accumulator) (c : Capture) (bp : Bool) (bc : Bool),
      s.feat.intake = .finishing mk bp bc ∧
      s.feat.acc = some a ∧
      tornAt s mk = false ∧
      counts s mk bc = true ∧
      s.feat.capture = some c ∧
      c.count = 3 ∧
      (¬ (∀ n : Cell, ((s.cmap.seats.get mk.seat).fitted = true ∧ (s.cmap.seats.get mk.seat).cells.getLsbD n.val = true) → 64 ≤ (c.sums.get n + (((a.cells.get n).map fun x => x.raw.toNat).getD 0)) / 4 ∧ (c.sums.get n + (((a.cells.get n).map fun x => x.raw.toNat).getD 0)) / 4 ≤ 1023))) ∧
    (∃ (s : State) (mk : Marker) (a : Accumulator) (c : Capture) (bp : Bool) (bc : Bool),
      s.feat.intake = .finishing mk bp bc ∧
      s.feat.acc = some a ∧
      tornAt s mk = false ∧
      counts s mk bc = true ∧
      s.feat.capture = some c ∧
      c.count = 3 ∧
      ((∀ n : Cell, ((s.cmap.seats.get mk.seat).fitted = true ∧ (s.cmap.seats.get mk.seat).cells.getLsbD n.val = true) → 64 ≤ (c.sums.get n + (((a.cells.get n).map fun x => x.raw.toNat).getD 0)) / 4 ∧ (c.sums.get n + (((a.cells.get n).map fun x => x.raw.toNat).getD 0)) / 4 ≤ 1023)) ∧
      s.store.commit = .idle) ∧
    (∃ (s : State) (mk : Marker) (a : Accumulator) (c : Capture) (bp : Bool) (bc : Bool),
      s.feat.intake = .finishing mk bp bc ∧
      s.feat.acc = some a ∧
      tornAt s mk = false ∧
      counts s mk bc = true ∧
      s.feat.capture = some c ∧
      c.count = 3 ∧
      ((∀ n : Cell, ((s.cmap.seats.get mk.seat).fitted = true ∧ (s.cmap.seats.get mk.seat).cells.getLsbD n.val = true) → 64 ≤ (c.sums.get n + (((a.cells.get n).map fun x => x.raw.toNat).getD 0)) / 4 ∧ (c.sums.get n + (((a.cells.get n).map fun x => x.raw.toNat).getD 0)) / 4 ≤ 1023)) ∧
      s.store.commit ≠ .idle) :=
  ⟨⟨(capturing (captureAt .collecting 2 0) .idle),
     plainMarker,
     wholeFrame,
     (captureAt .collecting 2 0),
     false,
     false, by decide⟩,
   ⟨(capturing (captureAt .collecting 3 3696) .idle),
     plainMarker,
     wholeFrame,
     (captureAt .collecting 3 3696),
     false,
     false, by decide⟩,
   ⟨(capturing (captureAt .collecting 3 3695) .idle),
     plainMarker,
     wholeFrame,
     (captureAt .collecting 3 3695),
     false,
     false, by decide⟩,
   ⟨(capturing (captureAt .collecting 3 0) (.one (.timing defaultTiming))),
     plainMarker,
     wholeFrame,
     (captureAt .collecting 3 0),
     false,
     false, by decide⟩⟩

theorem witness_FrameHandlingMovesTheMatStreaksAndTheLifecycle :
    (∃ (s : State) (f : MatFrame),
      s.verd.slot = some f ∧
      ((s.verd.seats.get f.seat).lifecycle = .unmapped ∨ (s.verd.seats.get f.seat).lifecycle = .absent)) ∧
    (∃ (s : State) (f : MatFrame),
      s.verd.slot = some f ∧
      ((s.verd.seats.get f.seat).lifecycle = .active ∨ (s.verd.seats.get f.seat).lifecycle = .faulted)) ∧
    (∃ (s : State),
      s.verd.slot = none) :=
  ⟨⟨(handed (matFrame 2 0 true) van), matFrame 2 0 true, by decide⟩,
   ⟨(handed (matFrame 0 255 true) trip), matFrame 0 255 true, by decide⟩,
   ⟨awake, by decide⟩⟩

theorem witness_FrameHandlingFollowsBuckleAnchorAndTension :
    (∃ (s : State) (f : MatFrame),
      s.verd.slot = some f ∧
      ((s.verd.seats.get f.seat).lifecycle = .active ∨ (s.verd.seats.get f.seat).lifecycle = .faulted)) :=
  ⟨(handed (matFrame 0 255 true) trip), matFrame 0 255 true, by decide⟩

theorem witness_AcceptedFramesArePushedByTheirVerdict :
    (∃ (s : State) (f : MatFrame),
      s.verd.slot = some f ∧
      ((s.verd.seats.get f.seat).lifecycle = .active ∨ ((s.verd.seats.get f.seat).lifecycle = .faulted ∧ 4 ≤ (s.verd.seats.get f.seat).cleanStreak)) ∧
      f.conditions.open_ = false ∧
      f.conditions.allOpen = false) ∧
    (∃ (s : State) (f : MatFrame),
      s.verd.slot = some f ∧
      (((s.verd.seats.get f.seat).lifecycle = .active ∧ (f.conditions.open_ = true ∨ f.conditions.allOpen = true) ∧ (s.verd.seats.get f.seat).matStreak < 2) ∨ ((s.verd.seats.get f.seat).lifecycle = .faulted ∧ ((s.verd.seats.get f.seat).cleanStreak < 4 ∨ f.conditions.open_ = true ∨ f.conditions.allOpen = true)))) :=
  ⟨⟨(handed (matFrame 0 255 false) (seatWith 0 (fun r => { r with lifecycle := .faulted, cleanStreak := 4 }) trip)),
     matFrame 0 255 false, by decide⟩,
   ⟨(handed (matFrame 0 0 true) (seatWith 0 (fun r => { r with matStreak := 1 }) trip)),
     matFrame 0 0 true, by decide⟩⟩

theorem witness_ConfirmationCountsToTheRequiredCount :
    (∃ (s : State) (f : MatFrame) (v : Verdict),
      s.verd.slot = some f ∧
      ((s.verd.seats.get f.seat).lifecycle = .active ∨ ((s.verd.seats.get f.seat).lifecycle = .faulted ∧ 4 ≤ (s.verd.seats.get f.seat).cleanStreak)) ∧
      f.conditions.open_ = false ∧
      f.conditions.allOpen = false ∧
      v = (verdictAt (profileAt s f.seat) f (s.verd.seats.get f.seat).confirmed (evidenceAt (profileAt s f.seat) f (match f.tension with
        | some (_, valid) =>
            if (s.verd.seats.get f.seat).tensionFault = false ∧ valid = false ∧ 2 ≤ (s.verd.seats.get f.seat).tensionStreak then true
            else if (s.verd.seats.get f.seat).tensionFault = true ∧ valid = true ∧ 1 ≤ (s.verd.seats.get f.seat).tensionStreak then false else (s.verd.seats.get f.seat).tensionFault
        | none => (s.verd.seats.get f.seat).tensionFault) (match f.anchor with
        | some level => if (s.cmap.seats.get f.seat).anchor.toNat < 8 then (if level then .engaged else .free) else (s.verd.seats.get f.seat).anchor
        | none => (s.verd.seats.get f.seat).anchor)))) :=
  ⟨(handed (matFrame 0 94 false) trip), matFrame 0 94 false, .adult, by decide⟩

theorem witness_ReminderTimerStepCountsOnlyUnderTheCountCondition :
    (∃ (s : State),
      s.ret.ignition = .on ∧
      s.rem.startTimer.any (fun n => decide (n ≤ 1)) = false) ∧
    (∃ (s : State),
      s.ret.ignition = .on ∧
      s.rem.startTimer.any (fun n => decide (n ≤ 1)) = true ∧
      triggerHolds s = true ∧
      s.rem.speed.isSome = true) ∧
    (∃ (s : State),
      ReminderLaw s ∧
      TimerLaw s ∧
      s.ret.ignition = .on ∧
      s.rem.startTimer.any (fun n => decide (n ≤ 1)) = true ∧
      (triggerHolds s = false ∨ s.rem.speed = none)) ∧
    (∃ (s : State),
      s.ret.ignition = .off) :=
  ⟨⟨trip, by decide⟩,
   ⟨{ trip with rem := { trip.rem with startTimer := some 1, speed := some 20 } }, by decide⟩,
   ⟨{ trip with rem := { trip.rem with startTimer := some 1, speed := none } }, by decide⟩,
   ⟨van, by decide⟩⟩

theorem witness_StartIntervalExpirySetsTheFlagAndTheTrigger :
    (∃ (s : State),
      ReminderLaw s ∧
      TimerLaw s ∧
      s.rem.startTimer = some 0) ∧
    (∃ (s : State),
      s.rem.startTimer = some 1) ∧
    (∃ (s : State),
      s.rem.startTimer ≠ some 0 ∧
      s.rem.startTimer ≠ some 1) :=
  ⟨⟨{ trip with rem := { trip.rem with startTimer := some 0 } }, by decide⟩,
   ⟨{ trip with rem := { trip.rem with startTimer := some 1 } }, by decide⟩,
   ⟨{ trip with rem := { trip.rem with startTimer := some 2 } }, by decide⟩⟩

theorem witness_StageExpiriesMoveVisualToAudibleAndAudibleToCapped :
    (∃ (s : State) (i : Seat),
      (s.rem.table.get i).state = .visual ∧
      (s.rem.table.get i).visual = 0) ∧
    (∃ (s : State) (i : Seat),
      (s.rem.table.get i).state = .audible ∧
      (s.rem.table.get i).budget = 0) ∧
    (∃ (s : State) (i : Seat),
      (s.rem.table.get i).state = .visual ∧
      (s.rem.table.get i).visual = 1 ∧
      triggerHolds s = true ∧
      s.rem.speed.isSome = true) ∧
    (∃ (s : State) (i : Seat),
      (s.rem.table.get i).state = .audible ∧
      (s.rem.table.get i).budget = 1 ∧
      triggerHolds s = true ∧
      s.rem.speed.isSome = true) ∧
    (∃ (s : State) (i : Seat),
      ((s.rem.table.get i).state ≠ .visual ∨ ((s.rem.table.get i).visual ≠ 0 ∧ ((s.rem.table.get i).visual ≠ 1 ∨ triggerHolds s = false ∨ s.rem.speed = none)))) ∧
    (∃ (s : State) (i : Seat),
      ((s.rem.table.get i).state ≠ .audible ∨ ((s.rem.table.get i).budget ≠ 0 ∧ ((s.rem.table.get i).budget ≠ 1 ∨ triggerHolds s = false ∨ s.rem.speed = none)))) :=
  ⟨⟨(reminding { state := .visual, visual := 0, budget := 0 }), 0, by decide⟩,
   ⟨(reminding { state := .audible, visual := 0, budget := 0 }), 0, by decide⟩,
   ⟨(moving { state := .visual, visual := 1, budget := 900 }), 0, by decide⟩,
   ⟨(moving { state := .audible, visual := 0, budget := 1 }), 0, by decide⟩,
   ⟨(reminding { state := .visual, visual := 1, budget := 900 }), 0, by decide⟩,
   ⟨(moving { state := .audible, visual := 0, budget := 2 }), 0, by decide⟩⟩

theorem witness_FreshnessExpiryMakesTheSpeedUnknown :
    (∃ (s : State),
      SummaryLaw s ∧
      s.rem.freshness = true) ∧
    (∃ (s : State),
      s.rem.freshness = false) :=
  ⟨⟨{ trip with rem := { trip.rem with freshness := true, speed := some 250 } }, by decide⟩,
   ⟨trip, by decide⟩⟩

theorem witness_VehicleStateSetsTheSpeedAndEvaluates :
    (∃ (s : State),
      Ready s ∧
      ReminderLaw s ∧
      TimerLaw s) :=
  ⟨trip, by decide⟩

theorem witness_ReceiverTakesBytesIntoAFrame :
    (∃ (s : State),
      s.store.loading = true) ∧
    (∃ (s : State),
      s.store.loading = false ∧
      s.lnk.rxState = .hunt) ∧
    (∃ (s : State),
      s.store.loading = false ∧
      s.lnk.rxState = .length) ∧
    (∃ (s : State),
      s.store.loading = false ∧
      s.lnk.rxState = .body) ∧
    (∃ (s : State),
      s.store.loading = false ∧
      s.lnk.rxState = .check) ∧
    (∃ (s : State) (b : Byte),
      s.store.loading = false ∧
      s.lnk.rxState = .end_ ∧
      b ≠ 0x0D ∧
      b ≠ 0x0B) ∧
    (∃ (s : State) (b : Byte),
      s.store.loading = false ∧
      s.lnk.rxState = .end_ ∧
      (b = 0x0D ∨ b = 0x0B) ∧
      sumOf (s.lnk.rxLen :: s.lnk.rxCheck :: s.lnk.rxBuf) ≠ 0) ∧
    (∃ (s : State) (b : Byte),
      s.store.loading = false ∧
      s.lnk.rxState = .end_ ∧
      (b = 0x0D ∨ b = 0x0B) ∧
      sumOf (s.lnk.rxLen :: s.lnk.rxCheck :: s.lnk.rxBuf) = 0) ∧
    (∃ (s : State),
      s.lnk.interByte = true) ∧
    (∃ (s : State),
      s.lnk.interByte = false) :=
  ⟨⟨State.reset, by decide⟩,
   ⟨awake, by decide⟩,
   ⟨(receiving .length 1 0 []), by decide⟩,
   ⟨(receiving .body 57 0 [1]), by decide⟩,
   ⟨(receiving .check 1 0 [1]), by decide⟩,
   ⟨(receiving .end_ 1 0xFE [1]), 0x0C, by decide⟩,
   ⟨(receiving .end_ 1 0xFF [1]), 0x0B, by decide⟩,
   ⟨(receiving .end_ 1 0xFE [1]), 0x0D, by decide⟩,
   ⟨(receiving .body 1 0 []), by decide⟩,
   ⟨awake, by decide⟩⟩

theorem witness_ReplyCompletionFreesDispatchAndHandsOutRestart :
    (∃ (s : State),
      s.lnk.dispatch = .idle) ∧
    (∃ (s : State) (rep : Reply),
      s.lnk.dispatch = .handling rep false) ∧
    (∃ (s : State) (rep : Reply),
      (∀ p : Pos, s.pins.sup.get p = (s.adv.positions.get p).value.pair) ∧
      s.lnk.dispatch = .handling rep true) :=
  ⟨⟨awake, by decide⟩,
   ⟨(replying false trip), { code := 3, status := .ok, body := [] }, by decide⟩,
   ⟨(replying true trip), { code := 3, status := .ok, body := [] }, by decide⟩⟩

theorem witness_RequestsAreDiscardedOrRefusedByTheirForm :
    (∃ (s : State) (cmd : Instr),
      isRequest cmd = true ∧
      (s.store.loading = true ∨ s.lnk.dispatch ≠ .idle)) ∧
    (∃ (s : State) (code : Byte),
      Ready s ∧
      (¬ code ∈ Sys2Proof.requestCodes)) ∧
    (∃ (s : State) (f : ReqFrame),
      Ready s ∧
      (f.final = false ∨ f.body ≠ [])) ∧
    (∃ (s : State) (f : ReqFrame),
      Ready s ∧
      (f.final = false ∨ f.body.length ≠ 1)) ∧
    (∃ (s : State) (b : Byte),
      Ready s ∧
      16 ≤ b.toNat) ∧
    (∃ (s : State) (f : ReqFrame),
      Ready s ∧
      (f.final = false ∨ f.body.length ≠ 13)) ∧
    (∃ (s : State) (f : ReqFrame),
      Ready s ∧
      (f.final = false ∨ f.body.length ≠ 6)) ∧
    (∃ (s : State) (f : ReqFrame),
      Ready s ∧
      (f.final = false ∨ f.body.length ≠ 6)) ∧
    (∃ (s : State) (f : ReqFrame),
      Ready s ∧
      (f.final = false ∨ f.body.length < 5 ∨ 50 < f.body.length ∨ f.body.length % 3 ≠ 2 ∨ (f.body.getD 1 0).toNat ≠ (f.body.length - 2) / 3 ∨ 16 ≤ (f.body.getD 0 0).toNat)) ∧
    (∃ (s : State) (f : ReqFrame),
      Ready s ∧
      (f.final = false ∨ (f.body.length ≠ 0 ∧ f.body.length ≠ 2))) ∧
    (∃ (s : State),
      Ready s) ∧
    (∃ (s : State),
      Ready s) :=
  ⟨⟨State.reset, .status (req []), by decide⟩,
   ⟨awake, 0x62, by decide⟩,
   ⟨awake, (req [0]), by decide⟩,
   ⟨awake, (req [0, 0]), by decide⟩,
   ⟨awake, 16, by decide⟩,
   ⟨awake, (req (List.replicate 12 0)), by decide⟩,
   ⟨awake, ⟨List.replicate 6 0, false⟩, by decide⟩,
   ⟨awake, (req (List.replicate 7 0)), by decide⟩,
   ⟨awake, (req (1 :: 1 :: List.replicate 4 0)), by decide⟩,
   ⟨awake, (req [0]), by decide⟩,
   ⟨awake, by decide⟩,
   ⟨awake, by decide⟩⟩

theorem witness_IdentifyStatusAndRestartAreAnsweredAtOnce :
    (∃ (s : State),
      Ready s) ∧
    (∃ (s : State),
      Ready s) ∧
    (∃ (s : State),
      Ready s) :=
  ⟨⟨awake, by decide⟩,
   ⟨trip, by decide⟩,
   ⟨trip, by decide⟩⟩

theorem witness_NoticeFetchReturnsTheOldestNotices :
    (∃ (s : State),
      Ready s) ∧
    (∃ (s : State),
      Ready s) :=
  ⟨⟨{ awake with lnk := { awake.lnk with notices := List.replicate 9 (.row 1 .installed) } }, by decide⟩,
   ⟨awake, by decide⟩⟩

theorem witness_MapTransfersStageTheirPartsInOrder :
    (∃ (s : State) (recs : List Byte),
      Ready s ∧
      recs.length ≠ 15) ∧
    (∃ (s : State) (recs : List Byte),
      Ready s ∧
      recs.length = 15 ∧
      s.store.switches.map = true) ∧
    (∃ (s : State) (recs : List Byte),
      Ready s ∧
      recs.length = 15 ∧
      s.store.switches.map = false) ∧
    (∃ (s : State) (recs : List Byte),
      Ready s ∧
      recs.length = 15 ∧
      s.store.switches.map = false) ∧
    (∃ (s : State) (recs : List Byte) (part : Byte),
      Ready s ∧
      part ≠ 0 ∧
      (3 < part.toNat ∨ recs.length ≠ 48)) ∧
    (∃ (s : State) (recs : List Byte) (part : Byte),
      Ready s ∧
      1 ≤ part.toNat ∧
      part.toNat ≤ 3 ∧
      recs.length = 48 ∧
      s.lnk.transfer = none) ∧
    (∃ (s : State) (recs : List Byte) (final : Bool) (part : Byte) (tr : Transfer),
      Ready s ∧
      1 ≤ part.toNat ∧
      part.toNat ≤ 3 ∧
      recs.length = 48 ∧
      s.lnk.transfer = some tr ∧
      (part.toNat ≠ tr.expected ∨ (final = true ∧ part.toNat < 3) ∨ (final = false ∧ part.toNat = 3))) ∧
    (∃ (s : State) (recs : List Byte) (tr : Transfer),
      Ready s ∧
      recs.length = 48 ∧
      s.lnk.transfer = some tr ∧
      tr.expected = 1) ∧
    (∃ (s : State) (recs : List Byte) (tr : Transfer),
      Ready s ∧
      recs.length = 48 ∧
      s.lnk.transfer = some tr ∧
      tr.expected = 2) :=
  ⟨⟨awake, (List.replicate 14 0), by decide⟩,
   ⟨(switched true awake), (List.replicate 15 0), by decide⟩,
   ⟨awake, (List.replicate 15 0), by decide⟩,
   ⟨awake, (List.replicate 15 0), by decide⟩,
   ⟨awake, (List.replicate 48 0), 4, by decide⟩,
   ⟨awake, (List.replicate 48 0), 3, by decide⟩,
   ⟨(transferring (zeros 1) awake), (List.replicate 48 0), false, 2, zeros 1, by decide⟩,
   ⟨(transferring (zeros 1) awake), (List.replicate 48 0), zeros 1, by decide⟩,
   ⟨(transferring (zeros 2) awake), (List.replicate 48 0), zeros 2, by decide⟩⟩

theorem witness_TheFinalMapFrameIsTestedAndApplied :
    (∃ (s : State) (recs : List Byte) (tr : Transfer),
      Ready s ∧
      recs.length = 48 ∧
      s.lnk.transfer = some tr ∧
      tr.expected = 3 ∧
      s.store.commit ≠ .idle) ∧
    (∃ (s : State) (recs : List Byte) (tr : Transfer) (img : MapRecs) (fl : MapFailure),
      Ready s ∧
      recs.length = 48 ∧
      s.lnk.transfer = some tr ∧
      tr.expected = 3 ∧
      s.store.commit = .idle ∧
      (∀ r : Row, IsRowOf (recordOf 3 (tr.part0.getD []) r.val) (img.rows.get r)) ∧
      (∀ i : Seat, IsSeatOf (recordOf 6 (if i.val < 8 then tr.part1.getD [] else tr.part2.getD []) (i.val % 8)) (img.seats.get i)) ∧
      sameProfiles s recs ∧
      mapFailure img s.cmap.profiles = some fl) ∧
    (∃ (s : State) (recs : List Byte) (tr : Transfer) (img : MapRecs),
      Ready s ∧
      recs.length = 48 ∧
      s.lnk.transfer = some tr ∧
      tr.expected = 3 ∧
      s.store.commit = .idle ∧
      (∀ r : Row, IsRowOf (recordOf 3 (tr.part0.getD []) r.val) (img.rows.get r)) ∧
      (∀ i : Seat, IsSeatOf (recordOf 6 (if i.val < 8 then tr.part1.getD [] else tr.part2.getD []) (i.val % 8)) (img.seats.get i)) ∧
      sameProfiles s recs ∧
      mapFailure img s.cmap.profiles = none) ∧
    (∃ (s : State) (recs : List Byte) (tr : Transfer) (img : MapRecs),
      Ready s ∧
      recs.length = 48 ∧
      s.lnk.transfer = some tr ∧
      tr.expected = 3 ∧
      s.store.commit = .idle ∧
      (∀ r : Row, IsRowOf (recordOf 3 (tr.part0.getD []) r.val) (img.rows.get r)) ∧
      (∀ i : Seat, IsSeatOf (recordOf 6 (if i.val < 8 then tr.part1.getD [] else tr.part2.getD []) (i.val % 8)) (img.seats.get i))) ∧
    (∃ (s : State) (recs : List Byte) (tr : Transfer) (img : MapRecs) (ns : Tab 4 Byte) (ps : Tab 4 Profile),
      Ready s ∧
      recs.length = 48 ∧
      s.lnk.transfer = some tr ∧
      tr.expected = 3 ∧
      s.store.commit = .idle ∧
      (∀ r : Row, IsRowOf (recordOf 3 (tr.part0.getD []) r.val) (img.rows.get r)) ∧
      (∀ i : Seat, IsSeatOf (recordOf 6 (if i.val < 8 then tr.part1.getD [] else tr.part2.getD []) (i.val % 8)) (img.seats.get i)) ∧
      (∀ k : ProfileIx, IsProfileOf (recordOf 12 recs k.val) (ps.get k) ∧ (ps.get k).nChild = ns.get k)) ∧
    (∃ (s : State) (recs : List Byte),
      Ready s ∧
      recs.length ≠ 48) ∧
    (∃ (s : State) (recs : List Byte),
      Ready s ∧
      recs.length = 48 ∧
      s.lnk.transfer = none) ∧
    (∃ (s : State) (recs : List Byte) (tr : Transfer),
      Ready s ∧
      recs.length = 48 ∧
      s.lnk.transfer = some tr ∧
      tr.expected ≠ 3) :=
  ⟨⟨(writing (.one (.timing defaultTiming)) (transferring (zeros 3) awake)),
     (List.replicate 48 0),
     zeros 3, by decide⟩,
   ⟨(transferring (zeros 3) awake),
     smallPart3,
     zeros 3,
     zeroImage,
     { kind := .row, index := 0, reason := .presenceUnexpected }, by decide⟩,
   ⟨(transferring smallTransfer awake), smallPart3, smallTransfer, smallImage, by decide⟩,
   ⟨(transferring smallTransfer awake), (List.replicate 48 0), smallTransfer, smallImage, by decide⟩,
   ⟨(transferring smallTransfer awake),
     smallPart3,
     smallTransfer,
     smallImage,
     (Tab.const 4 5),
     defaultProfiles, by decide⟩,
   ⟨awake, (List.replicate 49 0), by decide⟩,
   ⟨awake, (List.replicate 48 0), by decide⟩,
   ⟨(transferring (zeros 2) awake), (List.replicate 48 0), zeros 2, by decide⟩⟩

theorem witness_MapReadAndCalReadReturnTheWorkingCopies :
    (∃ (s : State) (b : Byte),
      Ready s ∧
      b.toNat ≤ 3) ∧
    (∃ (s : State) (b : Byte),
      Ready s ∧
      3 < b.toNat) ∧
    (∃ (s : State),
      Ready s) :=
  ⟨⟨van, 3, by decide⟩,
   ⟨van, 4, by decide⟩,
   ⟨van, by decide⟩⟩

theorem witness_ProfileWriteReplacesOneClampedProfile :
    (∃ (s : State) (b : Byte) (rec : List Byte),
      Ready s ∧
      rec.length = 12 ∧
      3 < b.toNat) ∧
    (∃ (s : State) (rec : List Byte),
      Ready s ∧
      rec.length = 12 ∧
      s.store.switches.profile = true) ∧
    (∃ (s : State) (rec : List Byte),
      Ready s ∧
      rec.length = 12 ∧
      s.store.switches.profile = false ∧
      s.store.commit ≠ .idle) ∧
    (∃ (s : State) (rec : List Byte),
      Ready s ∧
      rec.length = 12 ∧
      s.store.switches.profile = false ∧
      s.store.commit = .idle ∧
      (¬ ((rec.getD 3 0).toNat < (rec.getD 4 0).toNat ∧ (rec.getD 4 0).toNat < (rec.getD 5 0).toNat))) ∧
    (∃ (s : State) (rec : List Byte) (p : Profile),
      Ready s ∧
      rec.length = 12 ∧
      s.store.switches.profile = false ∧
      s.store.commit = .idle ∧
      IsProfileOf rec p ∧
      p.mEmpty.toNat < p.mPerson.toNat ∧
      p.mPerson.toNat < p.mAdult.toNat) ∧
    (∃ (s : State) (rec : List Byte) (p : Profile),
      Ready s ∧
      rec.length = 12 ∧
      s.store.switches.profile = false ∧
      s.store.commit = .idle ∧
      IsProfileOf rec p ∧
      p.mEmpty.toNat < p.mPerson.toNat ∧
      p.mPerson.toNat < p.mAdult.toNat) :=
  ⟨⟨awake, 4, (List.replicate 12 0), by decide⟩,
   ⟨(switched true awake), (List.replicate 12 0), by decide⟩,
   ⟨(writing (.one (.timing defaultTiming)) awake), (List.replicate 12 0), by decide⟩,
   ⟨awake, (List.replicate 12 0), by decide⟩,
   ⟨awake, [40, 128, 2, 8, 30, 94, 4, 40, 120, 6, 3, 10], defaultProfile 0, by decide⟩,
   ⟨awake, [40, 128, 2, 8, 30, 94, 4, 40, 120, 6, 3, 10], defaultProfile 0, by decide⟩⟩

theorem witness_TimingAndRetentionSettingsAreClampedAndCommitted :
    (∃ (s : State),
      Ready s ∧
      s.store.switches.profile = true) ∧
    (∃ (s : State),
      Ready s ∧
      s.store.switches.profile = false ∧
      s.store.commit ≠ .idle) ∧
    (∃ (s : State),
      Ready s ∧
      s.store.switches.profile = false ∧
      s.store.commit = .idle) ∧
    (∃ (s : State),
      Ready s ∧
      s.store.switches.profile = true) ∧
    (∃ (s : State),
      Ready s ∧
      s.store.switches.profile = false ∧
      s.store.commit ≠ .idle) ∧
    (∃ (s : State),
      Ready s ∧
      s.store.switches.profile = false ∧
      s.store.commit = .idle) :=
  ⟨⟨(switched true awake), by decide⟩,
   ⟨(writing (.one (.timing defaultTiming)) awake), by decide⟩,
   ⟨awake, by decide⟩,
   ⟨(switched true awake), by decide⟩,
   ⟨(writing (.one (.timing defaultTiming)) awake), by decide⟩,
   ⟨awake, by decide⟩⟩

theorem witness_ReminderSettingsLowerTimersAndEvaluate :
    (∃ (s : State),
      Ready s ∧
      s.store.switches.profile = true) ∧
    (∃ (s : State),
      Ready s ∧
      s.store.switches.profile = false ∧
      s.store.commit ≠ .idle) ∧
    (∃ (s : State),
      Ready s ∧
      ReminderLaw s ∧
      TimerLaw s ∧
      s.store.switches.profile = false ∧
      s.store.commit = .idle) :=
  ⟨⟨(switched true trip), by decide⟩,
   ⟨(writing (.one (.timing defaultTiming)) trip), by decide⟩,
   ⟨trip, by decide⟩⟩

theorem witness_ScanStatusAndProbeReadReportAndClear :
    (∃ (s : State),
      Ready s) ∧
    (∃ (s : State) (i : Seat) (how : ProbeService),
      Ready s ∧
      s.scan.probe = .armed i how) ∧
    (∃ (s : State) (pb : ProbeBuffer),
      Ready s ∧
      s.scan.probe = .filled pb) ∧
    (∃ (s : State) (rep : Option CancelCause),
      Ready s ∧
      s.scan.probe = .free rep) :=
  ⟨⟨trip, by decide⟩,
   ⟨(probing (.armed 15 .probePass) trip), 15, .probePass, by decide⟩,
   ⟨(probing (.filled { seat := 15, fromProbePass := true, cells := [], tension := none, buckle := none, load := 0, mass := 0, contacts := 0, rail := 0, conditions := (matFrame 0 0 false).conditions }) trip),
     { seat := 15, fromProbePass := true, cells := [], tension := none, buckle := none, load := 0, mass := 0, contacts := 0, rail := 0, conditions := (matFrame 0 0 false).conditions }, by decide⟩,
   ⟨(probing (.free (some .row)) trip), some .row, by decide⟩⟩

theorem witness_SeatProbeIsCheckedAndArmed :
    (∃ (s : State) (z : Byte),
      Ready s ∧
      16 ≤ z.toNat) ∧
    (∃ (s : State),
      Ready s ∧
      s.scan.probe.seat ≠ none) ∧
    (∃ (s : State) (i : Seat),
      Ready s ∧
      s.scan.probe.seat = none ∧
      (s.scan.state = .halted ∨ (s.verd.seats.get i).lifecycle = .unmapped ∨ (s.verd.seats.get i).lifecycle = .absent)) ∧
    (∃ (s : State) (i : Seat),
      Ready s ∧
      s.scan.probe.seat = none ∧
      ((s.verd.seats.get i).lifecycle = .active ∨ (s.verd.seats.get i).lifecycle = .faulted) ∧
      (s.scan.state = .waiting ∨ (s.scan.state = .pass ∧ s.scan.closing = false))) ∧
    (∃ (s : State) (i : Seat),
      Ready s ∧
      s.scan.probe.seat = none ∧
      ((s.verd.seats.get i).lifecycle = .active ∨ (s.verd.seats.get i).lifecycle = .faulted) ∧
      s.scan.state = .stopped) ∧
    (∃ (s : State) (i : Seat),
      Ready s ∧
      s.scan.probe.seat = none ∧
      ((s.verd.seats.get i).lifecycle = .active ∨ (s.verd.seats.get i).lifecycle = .faulted) ∧
      s.scan.state = .probing) ∧
    (∃ (s : State) (i : Seat),
      Ready s ∧
      s.scan.probe.seat = none ∧
      ((s.verd.seats.get i).lifecycle = .active ∨ (s.verd.seats.get i).lifecycle = .faulted) ∧
      s.scan.state = .pass ∧
      s.scan.closing = true) :=
  ⟨⟨trip, 16, by decide⟩,
   ⟨(probing (.armed 0 .timed) trip), by decide⟩,
   ⟨trip, 15, by decide⟩,
   ⟨trip, 1, by decide⟩,
   ⟨van, 0, by decide⟩,
   ⟨{ trip with scan := { trip.scan with state := .probing } }, 1, by decide⟩,
   ⟨{ (passing (stepOf [] .convert false) .x1 []) with scan := { (passing (stepOf [] .convert false) .x1 []).scan with closing := true } },
     1, by decide⟩⟩

theorem witness_CalWriteAndZeroCaptureAreCheckedInOrder :
    (∃ (s : State) (i : Seat) (body : List Byte) (k : Nat),
      Ready s ∧
      body.length = 2 + 3 * k ∧
      1 ≤ k ∧
      k ≤ 16 ∧
      body.getD 0 0 = (i.val : Byte) ∧
      (body.getD 1 0).toNat = k ∧
      s.store.switches.calibration = true) ∧
    (∃ (s : State) (i : Seat) (body : List Byte) (k : Nat),
      Ready s ∧
      body.length = 2 + 3 * k ∧
      1 ≤ k ∧
      k ≤ 16 ∧
      body.getD 0 0 = (i.val : Byte) ∧
      (body.getD 1 0).toNat = k ∧
      s.store.switches.calibration = false ∧
      (s.store.commit ≠ .idle ∨ s.feat.capture.any (fun c => decide (c.seat = i)) = true)) ∧
    (∃ (s : State) (i : Seat) (body : List Byte) (k : Nat),
      Ready s ∧
      body.length = 2 + 3 * k ∧
      1 ≤ k ∧
      k ≤ 16 ∧
      body.getD 0 0 = (i.val : Byte) ∧
      (body.getD 1 0).toNat = k ∧
      s.store.switches.calibration = false ∧
      s.store.commit = .idle ∧
      (¬ s.feat.capture.any (fun c => decide (c.seat = i)) = true) ∧
      calEntriesPass s i body k = false) ∧
    (∃ (s : State) (i : Seat) (body : List Byte) (k : Nat),
      Ready s ∧
      body.length = 2 + 3 * k ∧
      1 ≤ k ∧
      k ≤ 16 ∧
      body.getD 0 0 = (i.val : Byte) ∧
      (body.getD 1 0).toNat = k ∧
      s.store.switches.calibration = false ∧
      s.store.commit = .idle ∧
      (¬ s.feat.capture.any (fun c => decide (c.seat = i)) = true) ∧
      calEntriesPass s i body k = true) ∧
    (∃ (s : State) (body : List Byte) (k : Nat),
      Ready s ∧
      body.length = 2 + 3 * k ∧
      1 ≤ k ∧
      k ≤ 16 ∧
      (body.getD 1 0).toNat = k ∧
      16 ≤ (body.getD 0 0).toNat) ∧
    (∃ (s : State) (z : Byte),
      Ready s ∧
      16 ≤ z.toNat) ∧
    (∃ (s : State),
      Ready s ∧
      s.store.switches.calibration = true) ∧
    (∃ (s : State),
      Ready s ∧
      s.store.switches.calibration = false ∧
      (s.feat.capture.isSome = true ∨ s.store.commit ≠ .idle)) ∧
    (∃ (s : State) (i : Seat),
      Ready s ∧
      s.store.switches.calibration = false ∧
      s.feat.capture = none ∧
      s.store.commit = .idle ∧
      ((s.verd.seats.get i).lifecycle ≠ .active ∨ s.ret.ignition = .off)) ∧
    (∃ (s : State) (i : Seat),
      Ready s ∧
      s.store.switches.calibration = false ∧
      s.feat.capture = none ∧
      s.store.commit = .idle ∧
      (s.verd.seats.get i).lifecycle = .active ∧
      s.ret.ignition = .on) :=
  ⟨⟨(switched true van), 0, [0, 1, 64, 0, 0xF4], 1, by decide⟩,
   ⟨(writing (.one (.timing defaultTiming)) van), 0, [0, 1, 64, 0, 0xF4], 1, by decide⟩,
   ⟨van, 15, [15, 1, 64, 0, 0xF4], 1, by decide⟩,
   ⟨van, 0, ([0, 16] ++ (List.range 16).flatMap fun n => [64, 0, BitVec.ofNat 8 (16 * n + 4)]), 16, by decide⟩,
   ⟨van, [16, 1, 64, 0, 0xF4], 1, by decide⟩,
   ⟨trip, 16, by decide⟩,
   ⟨(switched true trip), by decide⟩,
   ⟨{ trip with feat := { trip.feat with capture := some (newCapture 1) } }, by decide⟩,
   ⟨trip, 15, by decide⟩,
   ⟨trip, 1, by decide⟩⟩

theorem witness_SeatSummaryAndDetailShowTheRecords :
    (∃ (s : State),
      Ready s) ∧
    (∃ (s : State),
      Ready s) ∧
    (∃ (s : State) (z : Byte),
      Ready s ∧
      16 ≤ z.toNat) :=
  ⟨⟨van, by decide⟩,
   ⟨van, by decide⟩,
   ⟨van, 16, by decide⟩⟩

theorem witness_CabinAdvisoryAndRetentionReadsReport :
    (∃ (s : State) (b : Byte),
      Ready s ∧
      b.toNat ≤ 1) ∧
    (∃ (s : State) (b : Byte),
      Ready s ∧
      1 < b.toNat) ∧
    (∃ (s : State),
      Ready s) ∧
    (∃ (s : State),
      Ready s) :=
  ⟨⟨trip, 1, by decide⟩,
   ⟨trip, 2, by decide⟩,
   ⟨trip, by decide⟩,
   ⟨trip, by decide⟩⟩

theorem witness_ProtectSetBarsSwitchesAndProtectionClearResets :
    (∃ (s : State) (b : Byte),
      Ready s ∧
      ((s.store.switches.map = true ∧ b.getLsbD 0 = false) ∨ (s.store.switches.calibration = true ∧ b.getLsbD 1 = false) ∨ (s.store.switches.profile = true ∧ b.getLsbD 2 = false) ∨ (s.store.switches.clear = true ∧ b.getLsbD 3 = false))) ∧
    (∃ (s : State) (b : Byte),
      Ready s ∧
      s.store.switches = { map := b.getLsbD 0, calibration := b.getLsbD 1, profile := b.getLsbD 2, clear := b.getLsbD 3 }) ∧
    (∃ (s : State) (b : Byte),
      Ready s ∧
      (s.store.switches.map = true → b.getLsbD 0 = true) ∧
      (s.store.switches.calibration = true → b.getLsbD 1 = true) ∧
      (s.store.switches.profile = true → b.getLsbD 2 = true) ∧
      (s.store.switches.clear = true → b.getLsbD 3 = true) ∧
      s.store.switches ≠ { map := b.getLsbD 0, calibration := b.getLsbD 1, profile := b.getLsbD 2, clear := b.getLsbD 3 } ∧
      s.store.commit ≠ .idle) ∧
    (∃ (s : State) (b : Byte),
      Ready s ∧
      (s.store.switches.map = true → b.getLsbD 0 = true) ∧
      (s.store.switches.calibration = true → b.getLsbD 1 = true) ∧
      (s.store.switches.profile = true → b.getLsbD 2 = true) ∧
      (s.store.switches.clear = true → b.getLsbD 3 = true) ∧
      s.store.switches ≠ { map := b.getLsbD 0, calibration := b.getLsbD 1, profile := b.getLsbD 2, clear := b.getLsbD 3 } ∧
      s.store.commit = .idle) ∧
    (∃ (s : State),
      Ready s ∧
      s.store.switches.clear = true) ∧
    (∃ (s : State),
      Ready s ∧
      s.store.switches.clear = false ∧
      s.store.commit ≠ .idle) ∧
    (∃ (s : State),
      Ready s ∧
      s.store.switches.clear = false ∧
      s.store.commit = .idle) :=
  ⟨⟨(switched true van), 7, by decide⟩,
   ⟨(switched true van), 0xFF, by decide⟩,
   ⟨(writing (.one (.timing defaultTiming)) van), 8, by decide⟩,
   ⟨van, 8, by decide⟩,
   ⟨(switched true van), by decide⟩,
   ⟨(writing (.one (.timing defaultTiming)) van), by decide⟩,
   ⟨van, by decide⟩⟩

/-- A van with a frame of its passenger in the handover slot meets every law. -/
def lawful : State := handed (matFrame 1 255 false) van

theorem lawful_laws : Laws lawful where
  map := by decide
  lifecycle := by decide
  verdict := by decide
  scan := by decide
  queue := ⟨by decide, by decide, fun h => absurd h (by decide)⟩
  calibration := by decide
  records := by decide
  reminder := by decide
  timer := by decide
  start := by decide
  summary := by decide
  mapped := by decide
  advisory := by decide
  mailbox := by decide
  retention := by decide
  notices := by decide
  receiver := by decide
  transfer := by
    have h : lawful.lnk.transfer = none := by decide
    intro t ht
    rw [h] at ht
    cases ht
  reply := by
    have h : lawful.lnk.dispatch = .idle := by decide
    have hp : lawful.scan.probe = .free none := by decide
    constructor
    · intro r b hd
      rw [h] at hd
      cases hd
    · intro b hb
      rw [hp] at hb
      cases hb
  capture := by
    have h : lawful.feat.capture = none := by decide
    intro c hc
    rw [h] at hc
    cases hc
  settings := by decide
  loading := by decide

theorem witness_FrameChangesReachTheReminderAndTheAdvisory :
    ∃ (s : State) (f : MatFrame), Laws s ∧ s.verd.slot = some f :=
  ⟨lawful, matFrame 1 255 false, lawful_laws, rfl⟩

theorem witness_AnEmptyQueueStepCountsTheRetentionTimer :
    (∃ (s : State) (n : Nat), s.pending = [] ∧ s.ret.ignition = .off ∧ s.ret.timer = some n ∧ 2 ≤ n) ∧
    (∃ (s : State) (n : Nat), s.pending = [] ∧ s.ret.ignition = .off ∧ s.ret.timer = some n ∧ n ≤ 1) ∧
    ∃ s : State, s.pending = [] ∧ (s.ret.ignition = .on ∨ s.ret.timer = none) :=
  ⟨⟨retaining, 6000, by decide⟩, ⟨expiring, 1, by decide⟩, ⟨trip, by decide⟩⟩

/-- The lawful state, the handling of the frame waiting at the front of the queue. -/
def waiting : State := { lawful with pending := [.frameHandlingComplete] }

theorem waiting_laws : Laws waiting := { lawful_laws with }

theorem witness_EveryStepKeepsTheSeatLaws : ∃ s t : State, Laws s ∧ step s = .next t :=
  ⟨waiting, _, waiting_laws, rfl⟩

theorem witness_EveryStepKeepsTheAdvisoryTrue : ∃ s t : State, Laws s ∧ step s = .next t :=
  ⟨waiting, _, waiting_laws, rfl⟩

theorem witness_EveryStepKeepsTheRemindersInTheirCase : ∃ s t : State, Laws s ∧ step s = .next t :=
  ⟨waiting, _, waiting_laws, rfl⟩

theorem witness_EveryStepKeepsTheScanCaptureAndRetentionLaws : ∃ s t : State, Laws s ∧ step s = .next t :=
  ⟨waiting, _, waiting_laws, rfl⟩

theorem witness_EveryStepKeepsTheLinkAndSettingsLaws : ∃ s t : State, Laws s ∧ step s = .next t :=
  ⟨waiting, _, waiting_laws, rfl⟩

theorem witness_VerdictsAreConfirmedOnlyByFramesAndResumes :
    ∃ (c : Instr) (s t : State), exec c s = .next t ∧ c ≠ .frameHandlingComplete ∧ c ≠ .ignitionOn :=
  ⟨.rowRemoved 1, bench, _, rfl, by decide, by decide⟩

theorem witness_CommitsRunAloneAndSwitchesMoveOnlyByTheirRequests :
    ∃ (c : Instr) (s t : State), exec c s = .next t ∧ touchesStore c = false ∧ s.store.commit ≠ .idle ∧
      touchesSwitches c = false :=
  ⟨.rowRemoved 1, writing (.clear images) bench, _, rfl, by decide, by decide, by decide⟩

end Sys2Proof.Tests
end

/-! SUPPORT. The validity test of a map image (R4): the nested search of the model (records, and tests within a record)
finds what a search of the one flat list of all tests finds. Each record's tests are matched with those of the list
first, then the two searches, then the four groups of records. -/

namespace Sys2Proof.Machine

open Sys2Proof.Safety

/-! ## The first test of a list that does not pass -/

/-- The label of the first test of a list that does not pass: the outcome that the statement on R4 speaks of. -/
def firstNotPassed {α : Type} (tests : List (α × Bool)) : Option α :=
  (tests.find? fun x => !x.2).map fun x => x.1

@[simp] theorem firstNotPassed_nil {α : Type} : firstNotPassed ([] : List (α × Bool)) = none := rfl

@[simp] theorem firstNotPassed_cons {α : Type} (label : α) (passes : Bool) (rest : List (α × Bool)) :
    firstNotPassed ((label, passes) :: rest) = if passes then firstNotPassed rest else some label := by
  cases passes <;> rfl

theorem firstNotPassed_append {α : Type} (tests rest : List (α × Bool)) :
    firstNotPassed (tests ++ rest) = (firstNotPassed tests).or (firstNotPassed rest) := by
  simp only [firstNotPassed, List.find?_append, Option.map_or]

/-- Relabelling the tests relabels the outcome. -/
theorem firstNotPassed_relabel {α β : Type} (f : α → β) (tests : List (α × Bool)) :
    firstNotPassed (tests.map fun x => (f x.1, x.2)) = (firstNotPassed tests).map f := by
  simp only [firstNotPassed, List.find?_map, Option.map_map]
  rfl

/-- The model's search of one record, told by what fails, is the search told by what passes. -/
theorem firstFailing_eq_firstNotPassed (tests : List (MapReason × Bool)) :
    firstFailing (tests.map fun x => (!x.2, x.1)) = firstNotPassed tests := by
  induction tests with
  | nil => rfl
  | cons x rest ih =>
    obtain ⟨reason, passes⟩ := x
    cases passes with
    | true => simpa [firstFailing] using ih
    | false => simp [firstFailing]

/-- The model's search of records is the search of the tests of all the records, each labelled with its record. -/
theorem firstRecord_eq_firstNotPassed {n : Nat} {kind : RecordKind} {test : Fin n → Option MapReason}
    {tests : Fin n → List (MapReason × Bool)} (h : ∀ i, test i = firstNotPassed (tests i)) (is : List (Fin n)) :
    firstRecord kind test is =
      firstNotPassed (is.flatMap fun i => (tests i).map fun x => (⟨kind, i.val, x.1⟩, x.2)) := by
  induction is with
  | nil => rfl
  | cons i rest ih =>
    rw [List.flatMap_cons, firstNotPassed_append,
      firstNotPassed_relabel (fun reason => (⟨kind, i.val, reason⟩ : MapFailure)), ← h i, ← ih, firstRecord]
    cases test i <;> rfl

/-! ## The words of the tests -/

theorem between_eq_inRange (lo hi x : Nat) : between lo hi x = inRange lo hi x := by
  simp [between, inRange, Bool.decide_and]

/-- A code above its greatest value is a code outside its range from 0. -/
theorem not_between_zero (hi x : Nat) : (!between 0 hi x) = decide (hi < x) := by
  simp [between, ← decide_not]

/-- A seat has too few cells exactly when its count test does not pass. -/
theorem tooFewCells_eq (x : SeatMap) : decide (x.cellList.length < 4) = !decide (4 ≤ (cellsOf x).length) := by
  rw [← decide_not, decide_eq_decide, Nat.not_le]
  rfl

/-- A door set names a door above DOOR3 exactly when its range test does not pass. -/
theorem doorAbove_eq (doors : Byte) : decide (15 < doors.toNat) = !decide (doors.toNat < 16) := by
  rw [← decide_not, decide_eq_decide, Nat.not_lt]
  rfl

/-- A presence line is used by an earlier row exactly when not every earlier row names another. -/
theorem presenceReused_eq (m : MapRecs) (i : Row) :
    m.presenceReused i =
      !((List.finRange 5).filter fun q : Row => decide (q < i)).all fun q =>
        decide ((m.rows.get q).presence ≠ (m.rows.get i).presence) := by
  simp [MapRecs.presenceReused, List.all_filter, List.not_all_eq_any_not, Bool.not_or]

/-- An earlier fitted seat has a property exactly when not all the earlier fitted seats lack it. -/
theorem earlierSeat_eq (m : MapRecs) (i : Seat) (same : SeatMap → Bool) :
    m.earlierSeat i same = !(fittedBefore m i).all fun y => !same y := by
  simp [MapRecs.earlierSeat, fittedBefore, allSeats, List.all_map, List.all_filter, List.not_all_eq_any_not]

theorem inRanges_eq_profileInRange (p : Profile) : p.inRanges = profileInRange p := by
  simp only [Profile.inRanges, profileInRange, between_eq_inRange]

theorem ordered_eq (p : Profile) :
    p.ordered = decide (p.mEmpty.toNat < p.mPerson.toNat ∧ p.mPerson.toNat < p.mAdult.toNat) :=
  (Bool.decide_and ..).symm

/-- No seat is fitted exactly when the test that some seat is fitted does not pass. -/
theorem noSeat_eq (m : MapRecs) : m.noSeat = !decide (∃ i : Seat, (m.seats.get i).fitted = true) := by
  rw [Bool.eq_iff_iff]
  simp [MapRecs.noSeat, allSeats]

/-! ## The tests of one record, and that some seat is fitted -/

theorem rowFailure_eq (m : MapRecs) (i : Row) : m.rowFailure i = firstNotPassed (rowTests m i) := by
  rw [← firstFailing_eq_firstNotPassed]
  unfold MapRecs.rowFailure noLine
  simp [rowTests, presenceReused_eq, not_between_zero, doorAbove_eq]

theorem seatFailure_eq (m : MapRecs) (i : Seat) : m.seatFailure i = firstNotPassed (seatTests m i) := by
  by_cases hfit : (m.seats.get i).fitted = true
  · rw [← firstFailing_eq_firstNotPassed]
    unfold MapRecs.seatFailure noLine
    simp [seatTests, hfit, earlierSeat_eq, not_between_zero, tooFewCells_eq]
  · simp [MapRecs.seatFailure, seatTests, hfit]

theorem profileFailure_eq (p : Profile) : p.failure = firstNotPassed (profileTests p) := by
  rw [← firstFailing_eq_firstNotPassed, Profile.failure, inRanges_eq_profileInRange, ordered_eq]
  rfl

/-- The check that some seat is fitted, a test of the image and of no record. -/
theorem noSeatFailure_eq (m : MapRecs) (f : MapFailure) :
    (if m.noSeat then some f else none) =
      firstNotPassed [(f, decide (∃ i : Seat, (m.seats.get i).fitted = true))] := by
  rw [noSeat_eq]
  cases decide (∃ i : Seat, (m.seats.get i).fitted = true) <;> rfl

/-! ## The whole image -/

/-- The four groups of records are tried in turn. -/
theorem mapFailure_eq_or (m : MapRecs) (ps : Tab 4 Profile) :
    mapFailure m ps =
      (((firstRecord .row m.rowFailure (List.finRange 5)).or (firstRecord .seat m.seatFailure allSeats)).or
        (if m.noSeat then some ⟨.seat, 0, .noSeat⟩ else none)).or
        (firstRecord .profile (fun k => (ps.get k).failure) (List.finRange 4)) := by
  unfold mapFailure
  cases firstRecord .row m.rowFailure (List.finRange 5) with
  | some f => rfl
  | none =>
    cases firstRecord .seat m.seatFailure allSeats with
    | some f => rfl
    | none => cases m.noSeat <;> rfl

/-- The outcome of the validity test is that of the list of all tests. -/
theorem mapFailure_eq_firstNotPassed (m : MapRecs) (ps : Tab 4 Profile) :
    mapFailure m ps = firstNotPassed (mapTests m ps) := by
  rw [mapFailure_eq_or, mapTests, firstNotPassed_append, firstNotPassed_append, firstNotPassed_append,
    firstRecord_eq_firstNotPassed (rowFailure_eq m), firstRecord_eq_firstNotPassed (seatFailure_eq m),
    firstRecord_eq_firstNotPassed fun k => profileFailure_eq (ps.get k), noSeatFailure_eq]
  rfl

/-- Settles O49: each record's tests are matched with those of the list, and the nested search is the flat one. -/
theorem theFirstFailingTestOfAMapIsReported : Obligations.TheFirstFailingTestOfAMapIsReported :=
  fun m ps => mapFailure_eq_firstNotPassed m ps

end Sys2Proof.Machine

/-! SUPPORT. SCAN STATUS and PROBE READ (R37, R39): the bytes that the model writes are those of R171, R176 and R178, and
each request is taken with the answer that the probe slot gives. -/

namespace Sys2Proof.Machine

open Sys2Proof.Safety

/-! ## Fields (R171) -/

theorem le16_eq_bytesOf (n : Nat) : le16 n = bytesOf 2 n := rfl

theorem le24_eq_bytesOf (n : Nat) : le24 n = bytesOf 3 n := by
  simp only [le24, bytesOf, byteOf, Nat.div_div_eq_div_mul]

theorem toNat_eq_bit (b : Bool) : b.toNat = bit b := by cases b <;> rfl

/-- A flag byte of four flags. -/
theorem bitsOf_eq_flags4 (a b c d : Bool) : bitsOf [a, b, c, d] = flags4 a b c d := by
  simp only [bitsOf, flags4, toNat_eq_bit]; omega

theorem optByte_eq_seatOr (x : Option Seat) : optByte (x.map Fin.val) = seatOr x := by cases x <;> rfl

theorem Conditions.bits_eq_conditionNumber (c : Conditions) : c.bits = conditionNumber c := by
  simp only [Conditions.bits, bitsOf, conditionNumber, toNat_eq_bit]; omega

/-! ## Reply bodies (R176, R178) -/

/-- The cancel report as its byte. -/
theorem byteOf_cancelCode (rep : Option CancelCause) :
    byteOf (cancelCode rep) = match rep with | none => 0 | some .map => 1 | some .row => 2 | some .ignition => 3 := by
  rcases rep with _ | cause
  · rfl
  · cases cause <;> rfl

theorem Scan.marking_eq_any (c : Scan) :
    c.marking = c.step.any fun st => match st.phase with | .mark _ => true | _ => false := by
  unfold Scan.marking
  cases c.step <;> rfl

theorem probeSlotBytes_eq (p : ProbeSlot) :
    probeSlotBytes p = [(match p with | .free _ => 0 | .armed _ _ => 1 | .filled _ => 2), seatOr p.seat] := by
  cases p <;> rfl

theorem scanStatusBody_eq_scanBytes (s : State) : scanStatusBody s.scan = scanBytes s := by
  have hseat : optByte (s.scan.step.map fun st => st.seat.val) = seatOr (s.scan.step.map SeatStep.seat) := by
    rw [← optByte_eq_seatOr, Option.map_map]; rfl
  rw [scanStatusBody, hseat, bitsOf_eq_flags4, probeSlotBytes_eq, le24_eq_bytesOf, interval_eq, Scan.marking_eq_any]
  simp only [Timing.bytes, le16_eq_bytesOf, scanBytes, List.append_assoc, List.cons_append, List.nil_append]
  rfl

theorem ProbeBuffer.bytes_eq_probeBytes (b : ProbeBuffer) : b.bytes = probeBytes b := by
  simp only [ProbeBuffer.bytes, probeBytes, le24_eq_bytesOf, b.conditions.bits_eq_conditionNumber, toNat_eq_bit,
    Nat.reducePow, Nat.mul_comm _ 128, Nat.mul_comm _ 4096, Nat.mul_comm _ 524288, Nat.mul_comm _ 8388608]
  cases b.tension <;> cases b.buckle <;> rfl

/-! ## What the two requests answer (R37, R39) -/

theorem exec_scanStatus (f : ReqFrame) (s : State) :
    exec (.scanStatus f) s = .next (takeRequest 0x21 (answerScanStatus f) s) := rfl

theorem exec_probeRead (f : ReqFrame) (s : State) :
    exec (.probeRead f) s = .next (takeRequest 0x23 (answerProbeRead f) s) := rfl

theorem exec_scanStatus_ready (s : State) (h : Ready s) :
    exec (.scanStatus { body := [], final := true }) s =
      .next (answering 0x21 .ok (scanBytes s)
        { closed s with scan := { s.scan with overrun := false, tornFlag := false } }) := by
  have howner : answerScanStatus { body := [], final := true } (closed s) =
      Answer.ok { closed s with scan := { s.scan with overrun := false, tornFlag := false } } (scanBytes s) := by
    rw [← scanStatusBody_eq_scanBytes]; rfl
  rw [exec_scanStatus, takeRequest_ok _ _ s _ _ h (by decide) howner]

/-- While the slot is ARMED. -/
theorem exec_probeRead_armed (s : State) (i : Seat) (how : ProbeService) (h : Ready s)
    (hp : s.scan.probe = .armed i how) :
    exec (.probeRead { body := [], final := true }) s = .next (refusing 0x23 .notReady s) := by
  have howner : answerProbeRead { body := [], final := true } (closed s) = Answer.refuse .notReady (closed s) := by
    simp only [answerProbeRead, formEmpty_good, closed, hp]
  rw [exec_probeRead, takeRequest_refused _ _ s _ h (by decide) howner]

/-- While the slot is FILLED. -/
theorem exec_probeRead_filled (s : State) (pb : ProbeBuffer) (h : Ready s) (hp : s.scan.probe = .filled pb) :
    exec (.probeRead { body := [], final := true }) s =
      .next (answering 0x23 .ok (probeBytes pb) { closed s with scan := { s.scan with probe := .free none } }) := by
  have howner : answerProbeRead { body := [], final := true } (closed s) =
      Answer.ok { closed s with scan := { s.scan with probe := .free none } } (probeBytes pb) := by
    simp only [answerProbeRead, formEmpty_good, closed, hp, pb.bytes_eq_probeBytes]
  rw [exec_probeRead, takeRequest_ok _ _ s _ _ h (by decide) howner]

/-- While the slot is FREE: STATE is no refusal, since its body tells the report and the report is cleared. -/
theorem exec_probeRead_free (s : State) (rep : Option CancelCause) (h : Ready s) (hp : s.scan.probe = .free rep) :
    exec (.probeRead { body := [], final := true }) s =
      .next (answering 0x23 .state [byteOf (cancelCode rep)]
        { closed s with scan := { s.scan with probe := .free none } }) := by
  have howner : answerProbeRead { body := [], final := true } (closed s) =
      ⟨{ closed s with scan := { s.scan with probe := .free none } }, .state, [byteOf (cancelCode rep)], false, []⟩ := by
    simp only [answerProbeRead, formEmpty_good, closed, hp]
  rw [exec_probeRead, takeRequest_taken _ _ s h (by decide), howner]
  rfl

/-- Settles O43, from what each of the two requests answers, PROBE READ by the state of the slot. -/
theorem scanStatusAndProbeReadReportAndClear : Obligations.ScanStatusAndProbeReadReportAndClear :=
  ⟨fun s h => ⟨_, exec_scanStatus_ready s h, rfl⟩,
   fun s i how h hp => ⟨_, exec_probeRead_armed s i how h hp, rfl⟩,
   fun s pb h hp => ⟨_, exec_probeRead_filled s pb h hp, rfl⟩,
   fun s rep h hp => ⟨_, exec_probeRead_free s rep h hp,
     congrArg (answering 0x23 .state [·] _) (byteOf_cancelCode rep)⟩⟩

end Sys2Proof.Machine

/-! SUPPORT. CAL WRITE and ZERO CAPTURE (R57, R59): the entries that the model reads from a body are the packed groups of
R174, its tests of the entries and what they write are those of R57, and each request is taken with the answer of the first
check that does not pass. -/

namespace Sys2Proof.Machine

open Sys2Proof.Safety

/-! ## The entries of a body (R174) -/

/-- Entry `x` of a CAL WRITE body. -/
def calEntryOf (body : List Byte) (x : Nat) : CalEntry :=
  CalEntry.ofBytes (body.getD (2 + 3 * x) 0) (body.getD (3 + 3 * x) 0) (body.getD (4 + 3 * x) 0)

/-- The first `k` entries of a CAL WRITE body. -/
def calEntriesOf (body : List Byte) (k : Nat) : List CalEntry := (List.range k).map (calEntryOf body)

/-- Three bytes, the least significant first, as one number. -/
theorem toNat_group (b0 b1 b2 : Byte) :
    (b2 ++ (b1 ++ b0) : BitVec 24).toNat = b0.toNat + 256 * b1.toNat + 65536 * b2.toNat := by
  have hlow : (b1 ++ b0 : BitVec 16).toNat < 2 ^ 16 := (b1 ++ b0 : BitVec 16).isLt
  rw [BitVec.toNat_append, ← Nat.shiftLeft_add_eq_or_of_lt hlow, BitVec.toNat_append,
    ← Nat.shiftLeft_add_eq_or_of_lt b0.isLt, Nat.shiftLeft_eq, Nat.shiftLeft_eq]
  omega

theorem calGroupOf_lt (body : List Byte) (x : Nat) : calGroupOf body x < 2 ^ 24 := by
  rw [calGroupOf, ← toNat_group]
  exact BitVec.isLt _

theorem calEntryOf_cell (body : List Byte) (x : Nat) : (calEntryOf body x).cell.val = calCell body x := by
  have hlt := calGroupOf_lt body x
  simp only [calEntryOf, CalEntry.ofBytes, BitVec.extractLsb'_toNat, toNat_group, Nat.shiftRight_eq_div_pow]
  rw [← calGroupOf, calCell]
  omega

theorem calEntryOf_z (body : List Byte) (x : Nat) : (calEntryOf body x).z = BitVec.ofNat 10 (calZ body x) := by
  apply BitVec.eq_of_toNat_eq
  simp only [calEntryOf, CalEntry.ofBytes, BitVec.extractLsb'_toNat, toNat_group, Nat.shiftRight_eq_div_pow,
    BitVec.toNat_ofNat]
  rw [← calGroupOf, calZ]
  omega

theorem calEntryOf_g (body : List Byte) (x : Nat) : (calEntryOf body x).g = BitVec.ofNat 10 (calG body x) := by
  apply BitVec.eq_of_toNat_eq
  simp only [calEntryOf, CalEntry.ofBytes, BitVec.extractLsb'_toNat, toNat_group, Nat.shiftRight_eq_div_pow,
    BitVec.toNat_ofNat]
  rw [← calGroupOf, calG]
  omega

theorem toNat_calZ (body : List Byte) (x : Nat) : (BitVec.ofNat 10 (calZ body x)).toNat = calZ body x := by
  rw [BitVec.toNat_ofNat, calZ]; omega

theorem toNat_calG (body : List Byte) (x : Nat) : (BitVec.ofNat 10 (calG body x)).toNat = calG body x := by
  rw [BitVec.toNat_ofNat, calG]; omega

/-- The entries after the first two bytes, read three bytes at a time, are those at their places in the body. -/
theorem calEntries_eq_calEntriesOf (k : Nat) (seat count : Byte) (rest : List Byte) (h : rest.length = 3 * k) :
    calEntries rest = calEntriesOf (seat :: count :: rest) k := by
  induction k generalizing seat count rest with
  | zero =>
    obtain rfl := List.eq_nil_of_length_eq_zero h
    rfl
  | succ k ih =>
    obtain _ | ⟨b0, _ | ⟨b1, _ | ⟨b2, rest⟩⟩⟩ := rest
    case cons.cons.cons =>
      have hhead : calEntryOf (seat :: count :: b0 :: b1 :: b2 :: rest) 0 = CalEntry.ofBytes b0 b1 b2 := rfl
      have htail : calEntryOf (seat :: count :: b0 :: b1 :: b2 :: rest) ∘ Nat.succ = calEntryOf (b1 :: b2 :: rest) := by
        funext x
        have hplace (n : Nat) : n + 3 * (x + 1) = n + 3 * x + 3 := by omega
        simp only [Function.comp, Nat.succ_eq_add_one, calEntryOf, hplace, List.getD_cons_succ]
      have hlength : rest.length = 3 * k := by simp only [List.length_cons] at h; omega
      rw [calEntries, ih b1 b2 rest hlength, calEntriesOf, calEntriesOf, List.range_succ_eq_map, List.map_cons,
        List.map_map, hhead, htail]
    all_goals (simp only [List.length_cons, List.length_nil] at h; omega)

/-! ## The tests of the entries (R57) -/

theorem distinctCells_iff (es : List CalEntry) :
    distinctCells es = true ↔ es.Pairwise fun e o => o.cell ≠ e.cell := by
  induction es with
  | nil => simp [distinctCells]
  | cons e rest ih => simp [distinctCells, ih]

/-- Cells named by two entries are told apart by their numbers. -/
theorem calEntryOf_cell_ne_iff (body : List Byte) (x y : Nat) :
    (calEntryOf body x).cell ≠ (calEntryOf body y).cell ↔ calCell body x ≠ calCell body y := by
  rw [← calEntryOf_cell, ← calEntryOf_cell, ne_eq, ne_eq, Fin.ext_iff]

/-- No cell is named twice exactly when none is named by an entry before. -/
theorem distinctCells_calEntriesOf_iff (body : List Byte) (k : Nat) :
    distinctCells (calEntriesOf body k) = true ↔ ∀ x < k, ∀ j < x, calCell body j ≠ calCell body x := by
  rw [distinctCells_iff, calEntriesOf, List.pairwise_map, List.pairwise_iff_getElem]
  simp only [List.length_range, List.getElem_range, calEntryOf_cell_ne_iff]
  exact ⟨fun h x hx j hj => (h j x (hj.trans hx) hx hj).symm, fun h j x _ hx hj => (h x hx j hj).symm⟩

theorem entriesOk_calEntriesOf (s : State) (i : Seat) (body : List Byte) (k : Nat) :
    entriesOk s.cmap i (calEntriesOf body k) = calEntriesPass s i body k := by
  rw [Bool.eq_iff_iff, entriesOk, Bool.and_eq_true, distinctCells_calEntriesOf_iff]
  simp only [calEntriesPass, calEntriesOf, List.all_map, List.all_eq_true, List.mem_range, Function.comp,
    CMap.cellFitted, SeatMap.cellFitted, calEntryOf_cell, calEntryOf_z, calEntryOf_g, toNat_calZ, toNat_calG,
    Bool.and_eq_true, decide_eq_true_eq]
  rw [and_comm, ← forall₂_and]
  simp only [and_assoc]

/-! ## The cells written (R57) -/

/-- A cell that no entry names keeps what it holds. -/
theorem writeCells_get_unnamed (es : List CalEntry) (t : Tab 16 CellCal) (n : Cell) (h : ∀ e ∈ es, n ≠ e.cell) :
    (writeCells es t).get n = t.get n := by
  induction es generalizing t with
  | nil => rfl
  | cons e rest ih =>
    rw [writeCells, ih _ fun o ho => h o (List.mem_cons_of_mem e ho), Tab.get_set_other _ _ (h e List.mem_cons_self)]

/-- Entries that name no cell twice each give their cell its Z, its G and its mark. -/
theorem writeCells_get_named (es : List CalEntry) (t : Tab 16 CellCal) (hd : es.Pairwise fun e o => o.cell ≠ e.cell)
    (e : CalEntry) (he : e ∈ es) : (writeCells es t).get e.cell = { z := e.z, g := e.g, mark := true } := by
  induction es generalizing t with
  | nil => cases he
  | cons first rest ih =>
    obtain ⟨hfirst, hrest⟩ := List.pairwise_cons.1 hd
    rw [writeCells]
    rcases List.mem_cons.1 he with rfl | hin
    · rw [writeCells_get_unnamed rest _ e.cell fun o ho => (hfirst o ho).symm, Tab.get_set_same]
    · exact ih _ hrest hin

/-- The calibration with the entries of a body written to a seat. -/
def calWritten (cal : Tab 16 (Tab 16 CellCal)) (i : Seat) (body : List Byte) (k : Nat) : Tab 16 (Tab 16 CellCal) :=
  cal.set i (writeCells (calEntriesOf body k) (cal.get i))

theorem calWritten_other (cal : Tab 16 (Tab 16 CellCal)) (i j : Seat) (body : List Byte) (k : Nat) (h : j ≠ i) :
    (calWritten cal i body k).get j = cal.get j := Tab.get_set_other _ _ h

theorem calWritten_named (cal : Tab 16 (Tab 16 CellCal)) (i : Seat) (body : List Byte) (k : Nat)
    (hd : distinctCells (calEntriesOf body k) = true) (x : Nat) (hx : x ∈ List.range k) (n : Cell)
    (hn : n.val = calCell body x) :
    ((calWritten cal i body k).get i).get n =
      { z := BitVec.ofNat 10 (calZ body x), g := BitVec.ofNat 10 (calG body x), mark := true } := by
  obtain rfl : n = (calEntryOf body x).cell := Fin.ext (hn.trans (calEntryOf_cell body x).symm)
  rw [calWritten, Tab.get_set_same, writeCells_get_named _ _ ((distinctCells_iff _).1 hd) _
    (List.mem_map_of_mem hx), calEntryOf_z, calEntryOf_g]

theorem calWritten_unnamed (cal : Tab 16 (Tab 16 CellCal)) (i : Seat) (body : List Byte) (k : Nat) (n : Cell)
    (hn : ∀ x ∈ List.range k, n.val ≠ calCell body x) :
    ((calWritten cal i body k).get i).get n = (cal.get i).get n := by
  rw [calWritten, Tab.get_set_same]
  refine writeCells_get_unnamed _ _ n fun e he => ?_
  obtain ⟨x, hx, rfl⟩ := List.mem_map.1 he
  exact fun h => hn x hx (h ▸ calEntryOf_cell body x)

/-! ## The checks of CAL WRITE, in their order (R57) -/

theorem Feat.capturing_eq_any (f : Feat) (i : Seat) : f.capturing i = f.capture.any fun c => decide (c.seat = i) := by
  unfold Feat.capturing
  cases f.capture <;> rfl

theorem writeCal_barred (es : List CalEntry) (i : Seat) (s : State) (hsw : s.store.switches.calibration = true) :
    writeCal es i s = Answer.refuse .barred s := by rw [writeCal, if_pos hsw]

theorem writeCal_busy (es : List CalEntry) (i : Seat) (s : State) (hsw : s.store.switches.calibration = false)
    (hbusy : s.store.commit ≠ .idle ∨ s.feat.capture.any (fun c => decide (c.seat = i)) = true) :
    writeCal es i s = Answer.refuse .busy s := by
  rw [← committing_iff, ← s.feat.capturing_eq_any, ← Bool.or_eq_true] at hbusy
  rw [writeCal, if_neg (by simp [hsw]), if_pos hbusy]

/-- With the switch permitted and neither the store committing nor a capture open on the seat, the entries decide. -/
theorem writeCal_free (es : List CalEntry) (i : Seat) (s : State) (hsw : s.store.switches.calibration = false)
    (hcommit : s.store.commit = .idle) (hcap : ¬ s.feat.capture.any (fun c => decide (c.seat = i)) = true) :
    writeCal es i s =
      if entriesOk s.cmap i es then
        Answer.ok (startCommit (.calibration (s.feat.cal.set i (writeCells es (s.feat.cal.get i))))
          { s with feat := { s.feat with cal := s.feat.cal.set i (writeCells es (s.feat.cal.get i)) } }) []
      else Answer.refuse .badArg s := by
  rw [← committing_false_iff] at hcommit
  rw [← s.feat.capturing_eq_any] at hcap
  rw [writeCal, if_neg (by simp [hsw]), if_neg (by simp [hcommit, hcap])]

/-! ## CAL WRITE (R57) -/

/-- A CAL WRITE body of `k` entries, `k` in 1..16. -/
structure CalWriteForm (body : List Byte) (k : Nat) : Prop where
  length : body.length = 2 + 3 * k
  atLeast : 1 ≤ k
  atMost : k ≤ 16
  count : (body.getD 1 0).toNat = k

theorem exec_calWrite (f : ReqFrame) (s : State) :
    exec (.calWrite f) s = .next (takeRequest 0x30 (answerCalWrite f) s) := rfl

theorem answerCalWrite_form {body : List Byte} {k : Nat} (h : CalWriteForm body k) (s : State) :
    answerCalWrite { body := body, final := true } s =
      seatArg (body.getD 0 0) (writeCal (calEntriesOf body k)) s := by
  obtain ⟨hlength, hmin, hmax, hcount⟩ := h
  obtain _ | ⟨seat, _ | ⟨count, rest⟩⟩ := body
  case cons.cons =>
    have hrest : rest.length = 3 * k := by simp only [List.length_cons] at hlength; omega
    have hk : count.toNat = k := hcount
    have hform : rest.length % 3 = 0 ∧ 1 ≤ rest.length / 3 ∧ rest.length / 3 ≤ 16 ∧ count.toNat = rest.length / 3 := by
      omega
    rw [← calEntries_eq_calEntriesOf k seat count rest hrest]
    exact if_pos hform
  all_goals (simp only [List.length_cons, List.length_nil] at hlength; omega)

theorem answerCalWrite_seat {body : List Byte} {k : Nat} {i : Seat} (h : CalWriteForm body k)
    (hseat : body.getD 0 0 = (i.val : Byte)) (s : State) :
    answerCalWrite { body := body, final := true } s = writeCal (calEntriesOf body k) i s := by
  rw [answerCalWrite_form h, hseat]
  exact seatArg_seat ..

theorem exec_calWrite_badSeat {body : List Byte} {k : Nat} (s : State) (hr : Ready s) (h : CalWriteForm body k)
    (hseat : 16 ≤ (body.getD 0 0).toNat) :
    exec (.calWrite { body := body, final := true }) s = .next (refusing 0x30 .badArg s) := by
  rw [exec_calWrite, takeRequest_refused _ _ s .badArg hr (by decide)
    ((answerCalWrite_form h _).trans (seatArg_bad _ _ _ hseat))]

/-- Whatever the check of the seat's calibration refuses, the request is refused with. -/
theorem exec_calWrite_refused {body : List Byte} {k : Nat} {i : Seat} (s : State) (st : Status) (hr : Ready s)
    (h : CalWriteForm body k) (hseat : body.getD 0 0 = (i.val : Byte))
    (hst : writeCal (calEntriesOf body k) i (closed s) = Answer.refuse st (closed s)) :
    exec (.calWrite { body := body, final := true }) s = .next (refusing 0x30 st s) := by
  rw [exec_calWrite, takeRequest_refused _ _ s st hr (by decide) ((answerCalWrite_seat h hseat _).trans hst)]

theorem exec_calWrite_badEntries {body : List Byte} {k : Nat} {i : Seat} (s : State) (hr : Ready s)
    (h : CalWriteForm body k) (hseat : body.getD 0 0 = (i.val : Byte)) (hsw : s.store.switches.calibration = false)
    (hcommit : s.store.commit = .idle) (hcap : ¬ s.feat.capture.any (fun c => decide (c.seat = i)) = true)
    (hbad : calEntriesPass s i body k = false) :
    exec (.calWrite { body := body, final := true }) s = .next (refusing 0x30 .badArg s) := by
  have hentries : entriesOk (closed s).cmap i (calEntriesOf body k) = false :=
    (entriesOk_calEntriesOf s i body k).trans hbad
  apply exec_calWrite_refused s .badArg hr h hseat
  rw [writeCal_free _ i (closed s) hsw hcommit hcap, hentries]
  rfl

theorem exec_calWrite_written {body : List Byte} {k : Nat} {i : Seat} (s : State) (hr : Ready s)
    (h : CalWriteForm body k) (hseat : body.getD 0 0 = (i.val : Byte)) (hsw : s.store.switches.calibration = false)
    (hcommit : s.store.commit = .idle) (hcap : ¬ s.feat.capture.any (fun c => decide (c.seat = i)) = true)
    (hpass : calEntriesPass s i body k = true) :
    exec (.calWrite { body := body, final := true }) s =
      .next (answering 0x30 .ok [] { closed s with
        feat := { s.feat with cal := calWritten s.feat.cal i body k }
        store := { s.store with commit := .one (.calibration (calWritten s.feat.cal i body k)) } }) := by
  have hentries : entriesOk (closed s).cmap i (calEntriesOf body k) = true :=
    (entriesOk_calEntriesOf s i body k).trans hpass
  have howner := (answerCalWrite_seat h hseat (closed s)).trans (writeCal_free _ i (closed s) hsw hcommit hcap)
  rw [if_pos hentries] at howner
  rw [exec_calWrite, takeRequest_ok _ _ s _ _ hr (by decide) howner]
  rfl

/-! ## ZERO CAPTURE (R59) -/

theorem openCapture_barred (i : Seat) (s : State) (hsw : s.store.switches.calibration = true) :
    openCapture i s = Answer.refuse .barred s := by rw [openCapture, if_pos hsw]

theorem openCapture_busy (i : Seat) (s : State) (hsw : s.store.switches.calibration = false)
    (hbusy : s.feat.capture.isSome = true ∨ s.store.commit ≠ .idle) : openCapture i s = Answer.refuse .busy s := by
  rw [← committing_iff, ← Bool.or_eq_true] at hbusy
  rw [openCapture, if_neg (by simp [hsw]), if_pos hbusy]

/-- With the switch permitted, no capture open and the store not committing, the seat and ignition decide. -/
theorem openCapture_free (i : Seat) (s : State) (hsw : s.store.switches.calibration = false)
    (hcap : s.feat.capture = none) (hcommit : s.store.commit = .idle) :
    openCapture i s =
      if (s.verd.seats.get i).lifecycle ≠ .active ∨ s.ret.ignition = .off then Answer.refuse .state s
      else Answer.ok { s with feat := { s.feat with
        capture := some (newCapture i), intake := s.feat.intake.captureOpened } } [] := by
  rw [← committing_false_iff] at hcommit
  rw [openCapture, if_neg (by simp [hsw]), if_neg (by simp [hcap, hcommit])]

theorem exec_zeroCapture (f : ReqFrame) (s : State) :
    exec (.zeroCapture f) s = .next (takeRequest 0x32 (answerZeroCapture f) s) := rfl

theorem answerZeroCapture_seat (i : Seat) (s : State) :
    answerZeroCapture { body := [(i.val : Byte)], final := true } s = openCapture i s := seatArg_seat ..

theorem exec_zeroCapture_badSeat (s : State) (z : Byte) (hr : Ready s) (hz : 16 ≤ z.toNat) :
    exec (.zeroCapture { body := [z], final := true }) s = .next (refusing 0x32 .badArg s) := by
  have howner : answerZeroCapture { body := [z], final := true } (closed s) = Answer.refuse .badArg (closed s) :=
    seatArg_bad z openCapture _ hz
  rw [exec_zeroCapture, takeRequest_refused _ _ s .badArg hr (by decide) howner]

/-- Whatever the opening of the capture refuses, the request is refused with. -/
theorem exec_zeroCapture_refused (s : State) (i : Seat) (st : Status) (hr : Ready s)
    (hst : openCapture i (closed s) = Answer.refuse st (closed s)) :
    exec (.zeroCapture { body := [(i.val : Byte)], final := true }) s = .next (refusing 0x32 st s) := by
  rw [exec_zeroCapture, takeRequest_refused _ _ s st hr (by decide) ((answerZeroCapture_seat i _).trans hst)]

theorem exec_zeroCapture_state (s : State) (i : Seat) (hr : Ready s) (hsw : s.store.switches.calibration = false)
    (hcap : s.feat.capture = none) (hcommit : s.store.commit = .idle)
    (hstate : (s.verd.seats.get i).lifecycle ≠ .active ∨ s.ret.ignition = .off) :
    exec (.zeroCapture { body := [(i.val : Byte)], final := true }) s = .next (refusing 0x32 .state s) :=
  exec_zeroCapture_refused s i .state hr ((openCapture_free i (closed s) hsw hcap hcommit).trans (if_pos hstate))

theorem exec_zeroCapture_opened (s : State) (i : Seat) (hr : Ready s) (hsw : s.store.switches.calibration = false)
    (hcap : s.feat.capture = none) (hcommit : s.store.commit = .idle)
    (hactive : (s.verd.seats.get i).lifecycle = .active) (hign : s.ret.ignition = .on) :
    exec (.zeroCapture { body := [(i.val : Byte)], final := true }) s =
      .next (answering 0x32 .ok [] { closed s with feat := { s.feat with
        intake := s.feat.intake.captureOpened, capture := some (newCapture i) } }) := by
  have hstate : ¬ ((s.verd.seats.get i).lifecycle ≠ .active ∨ s.ret.ignition = .off) := by simp [hactive, hign]
  have howner := (answerZeroCapture_seat i (closed s)).trans
    ((openCapture_free i (closed s) hsw hcap hcommit).trans (if_neg hstate))
  rw [exec_zeroCapture, takeRequest_ok _ _ s _ _ hr (by decide) howner]
  rfl

theorem exec_fullReset_capture (s : State) : ∃ t, exec .fullReset s = .next t ∧ t.feat.capture = none := ⟨_, rfl, rfl⟩

/-- Settles O45, from the first check of each request that does not pass; the cells written are read back entry by
entry. -/
theorem calWriteAndZeroCaptureAreCheckedInOrder : Obligations.CalWriteAndZeroCaptureAreCheckedInOrder := by
  refine ⟨?_, ?_, ?_, ?_, ?_, fun s z hr hz => ⟨_, exec_zeroCapture_badSeat s z hr hz, rfl⟩,
    fun s i hr hsw => ⟨_, exec_zeroCapture_refused s i .barred hr (openCapture_barred i (closed s) hsw), rfl⟩,
    fun s i hr hsw hbusy =>
      ⟨_, exec_zeroCapture_refused s i .busy hr (openCapture_busy i (closed s) hsw hbusy), rfl⟩,
    fun s i hr hsw hcap hcommit hstate => ⟨_, exec_zeroCapture_state s i hr hsw hcap hcommit hstate, rfl⟩,
    fun s i hr hsw hcap hcommit hactive hign =>
      ⟨_, exec_zeroCapture_opened s i hr hsw hcap hcommit hactive hign, rfl⟩,
    exec_fullReset_capture⟩
  · intro s i body k hr hlen hmin hmax hseat hcount hsw
    exact ⟨_, exec_calWrite_refused s .barred hr ⟨hlen, hmin, hmax, hcount⟩ hseat
      (writeCal_barred _ i (closed s) hsw), rfl⟩
  · intro s i body k hr hlen hmin hmax hseat hcount hsw hbusy
    exact ⟨_, exec_calWrite_refused s .busy hr ⟨hlen, hmin, hmax, hcount⟩ hseat
      (writeCal_busy _ i (closed s) hsw hbusy), rfl⟩
  · intro s i body k hr hlen hmin hmax hseat hcount hsw hcommit hcap hbad
    exact ⟨_, exec_calWrite_badEntries s hr ⟨hlen, hmin, hmax, hcount⟩ hseat hsw hcommit hcap hbad, rfl⟩
  · intro s i body k hr hlen hmin hmax hseat hcount hsw hcommit hcap hpass
    have hd : distinctCells (calEntriesOf body k) = true := by
      have hentries := (entriesOk_calEntriesOf s i body k).trans hpass
      exact (Bool.and_eq_true_iff.1 hentries).1
    exact ⟨_, exec_calWrite_written s hr ⟨hlen, hmin, hmax, hcount⟩ hseat hsw hcommit hcap hpass, rfl,
      fun j hj => calWritten_other s.feat.cal i j body k hj,
      fun x hx n hn => calWritten_named s.feat.cal i body k hd x hx n hn,
      fun n hn => calWritten_unnamed s.feat.cal i body k n hn⟩
  · intro s body k hr hlen hmin hmax hcount hseat
    exact ⟨_, exec_calWrite_badSeat s hr ⟨hlen, hmin, hmax, hcount⟩ hseat, rfl⟩

end Sys2Proof.Machine

/-! SUPPORT. The judgement of a mat frame (R64 to R74): the model's words for evidence, thresholds, instability and the
required count are those of the statements; steps 2 and 3 of the handling leave what a judgement reads; and of the notices
of the whole event only the judgement's are STABILITY and VERDICT. -/

namespace Sys2Proof.Machine

open Sys2Proof.Safety

/-! ## The words of a judgement (R67 to R73) -/

theorem evidence_eq_evidenceAt (p : Profile) (r : SeatRec) (f : MatFrame) :
    evidence p r f = evidenceAt p f r.tensionFault r.anchor := by
  simp only [evidence, evidenceAt, Bool.and_eq_true, Bool.not_eq_true']

theorem thrEmpty_eq_thrAt (p : Profile) (v : Verdict) :
    thrEmpty p v = thrAt v [.empty] [.object, .small, .adult] p.h.toNat p.mEmpty.toNat := by cases v <;> rfl

theorem thrPerson_eq_thrAt (p : Profile) (v : Verdict) :
    thrPerson p v = thrAt v [.empty, .object] [.small, .adult] p.h.toNat p.mPerson.toNat := by cases v <;> rfl

theorem thrAdult_eq_thrAt (p : Profile) (v : Verdict) :
    thrAdult p v = thrAt v [.empty, .object, .small] [.adult] p.h.toNat p.mAdult.toNat := by cases v <;> rfl

/-- The instantaneous verdict reads of the record only the confirmed verdict and what evidence reads (R69). -/
theorem instantaneous_eq_verdictAt (p : Profile) (r : SeatRec) (f : MatFrame) :
    instantaneous p r f = verdictAt p f r.confirmed (evidenceAt p f r.tensionFault r.anchor) := by
  simp only [instantaneous, verdictAt, evidence_eq_evidenceAt, thrEmpty_eq_thrAt, thrPerson_eq_thrAt,
    thrAdult_eq_thrAt]

theorem differingPairs_eq_pairsOf (h : List Verdict) : differingPairs h = pairsOf h := by
  induction h with
  | nil => rfl
  | cons a rest ih =>
    cases rest with
    | nil => rfl
    | cons b rest =>
      rw [differingPairs, ih]
      by_cases hab : a = b
      · simp [pairsOf, hab]
      · simp [pairsOf, hab, Nat.add_comm]

theorem nextUnstable_eq_unstableAfter (r : SeatRec) : nextUnstable r = unstableAfter r.history r.unstable := by
  simp only [nextUnstable, unstableAfter, differingPairs_eq_pairsOf]

/-- The required count of a record that holds `v` as its candidate (R73). -/
theorem requiredCount_eq_requiredAt (p : Profile) (r : SeatRec) (v : Verdict) (n : Nat) :
    requiredCount p { r with candidate := some v, candidateCount := n } =
      requiredAt p r.confirmed v r.motionHold := by
  simp only [requiredCount, requiredAt, Option.some.injEq]

/-! ## Confirmation (R72 to R74) -/

/-- The count of `v` when it is not the confirmed verdict (R72). -/
def countOf (v : Verdict) (r : SeatRec) : Nat :=
  if r.candidate = some v then min 255 (r.candidateCount + 1) else 1

theorem nextCandidate_eq (v : Verdict) (r : SeatRec) :
    nextCandidate v r =
      if v = r.confirmed then { r with candidate := none, candidateCount := 0 }
      else { r with candidate := some v, candidateCount := countOf v r } := by
  unfold nextCandidate countOf
  split
  · rfl
  split
  · rename_i hc; rw [← hc]
  · rfl

/-- Candidate, count and confirmed verdict after `v` was told to a record (R72 to R74), in the words of the statement. -/
def confirmation (p : Profile) (v : Verdict) (r : SeatRec) : Option Verdict × Nat × Verdict :=
  if r.unstable = true then (r.candidate, r.candidateCount, r.confirmed)
  else if v = r.confirmed then (none, 0, r.confirmed)
  else if requiredAt p r.confirmed v r.motionHold ≤ countOf v r then (none, 0, v)
  else (some v, countOf v r, r.confirmed)

/-- The confirmation step writes that triple, and posts VERDICT when the confirmed verdict became another. -/
theorem confirmStep_eq (p : Profile) (i : Seat) (v : Verdict) (r : SeatRec) :
    confirmStep p i v r =
      ({ r with
          candidate := (confirmation p v r).1
          candidateCount := (confirmation p v r).2.1
          confirmed := (confirmation p v r).2.2 },
        if (confirmation p v r).2.2 = r.confirmed then [] else [.verdict i r.confirmed v]) := by
  by_cases hu : r.unstable = true
  · rw [confirmStep, confirmation, if_pos hu, if_pos hu, if_pos rfl]
  rw [confirmStep, confirmation, if_neg hu, if_neg hu, nextCandidate_eq]
  by_cases hv : v = r.confirmed
  · simp only [if_pos hv, if_true]
  · simp only [if_neg hv, requiredCount_eq_requiredAt]
    by_cases hn : requiredAt p r.confirmed v r.motionHold ≤ countOf v r
    · simp only [if_pos hn, if_neg hv]
    · simp only [if_neg hn, if_true]

/-- A verdict other than the confirmed one is confirmed exactly when the confirmed verdict changed. -/
theorem confirmation_changed_iff (p : Profile) (v : Verdict) (r : SeatRec) :
    (confirmation p v r).2.2 ≠ r.confirmed ↔ (confirmation p v r).2.2 = v ∧ v ≠ r.confirmed := by
  unfold confirmation
  split
  · simp [eq_comm]
  split
  · simp [*]
  split
  · simp
  · simp [eq_comm]

/-! ## Steps 5 to 7 (R64) -/

/-- A record with the frame's features and its verdict `v` pushed, before confirmation (R65, R70, R71). -/
def pushed (p : Profile) (f : MatFrame) (v : Verdict) (r : SeatRec) : SeatRec :=
  { r with
    features := some { load := f.load, mass := f.mass, contacts := f.contacts, rail := f.rail, tension := f.tension
                       evidence := evidenceAt p f r.tensionFault r.anchor, conditions := f.conditions }
    history := (v :: r.history).take 8
    evicted := if r.history.length < 8 then r.evicted else r.history.getLast?
    unstable := unstableAfter ((v :: r.history).take 8) r.unstable }

/-- The STABILITY notice of a flag that changed (R71). -/
def stabilityNotices (i : Seat) (before after : Bool) : List Notice :=
  if after = before then [] else [.stability i after]

/-- A judgement pushes the instantaneous verdict and then confirms. -/
theorem judge_eq (p : Profile) (f : MatFrame) (r : SeatRec) (v : Verdict)
    (hv : v = verdictAt p f r.confirmed (evidenceAt p f r.tensionFault r.anchor)) :
    judge p f r = ((confirmStep p f.seat v (pushed p f v r)).1,
      stabilityNotices f.seat r.unstable (pushed p f v r).unstable ++
        (confirmStep p f.seat v (pushed p f v r)).2) := by
  subst hv
  simp only [judge, instabilityStep, nextUnstable_eq_unstableAfter, instantaneous_eq_verdictAt, pushHistory,
    lastFeatures, evidence_eq_evidenceAt]
  rfl

/-! ## Steps 2 and 3 (R85 to R93) -/

/-- A notice that only a judgement posts: STABILITY or VERDICT. -/
def ofJudgement : Notice → Bool
  | .verdict _ _ _ => true
  | .stability _ _ => true
  | _ => false

/-- A frame without OPEN or ALL_OPEN leaves an ACTIVE seat ACTIVE and recovers a FAULTED one at its fifth (R85, R87). -/
theorem matStep_clean (f : MatFrame) (r : SeatRec) (hclean : f.conditions.dirty = false)
    (h : r.lifecycle = .active ∨ r.lifecycle = .faulted ∧ 4 ≤ r.cleanStreak) :
    ∃ ms cs, (matStep f r).1 = { r with lifecycle := .active, matStreak := ms, cleanStreak := cs } := by
  rcases h with hl | ⟨hl, hc⟩
  · exact ⟨0, min 5 (r.cleanStreak + 1), by simp [matStep, matStreaks, hclean, hl]⟩
  · have hfive : min 5 (r.cleanStreak + 1) = 5 := by omega
    exact ⟨0, 5, by simp [matStep, matStreaks, hclean, hl, hfive]⟩

/-- A frame that neither faults nor recovers its seat moves the two streaks only (R85 to R87). -/
theorem matStep_kept (f : MatFrame) (r : SeatRec)
    (h : r.lifecycle = .active ∧ f.conditions.dirty = true ∧ r.matStreak < 2 ∨
      r.lifecycle = .faulted ∧ (r.cleanStreak < 4 ∨ f.conditions.dirty = true)) :
    ∃ ms cs, (matStep f r).1 = { r with lifecycle := r.lifecycle, matStreak := ms, cleanStreak := cs } := by
  have hkept : (matStep f r).1 = matStreaks f r := by
    rcases h with ⟨hl, hd, hm⟩ | ⟨hl, hc | hd⟩
    · have : min 3 (r.matStreak + 1) ≠ 3 := by omega
      simp [matStep, matStreaks, hl, hd, this]
    · have : min 5 (r.cleanStreak + 1) ≠ 5 := by omega
      by_cases hd : f.conditions.dirty = true <;> simp [matStep, matStreaks, hl, hd, this]
    · simp [matStep, matStreaks, hl, hd]
  rw [hkept, matStreaks]
  split <;> exact ⟨_, _, rfl⟩

theorem goodBand_frame (i : Seat) (latched : Bool) (r : SeatRec) :
    ∃ b a n, (goodBand i latched r).1 = { r with buckle := b, agree := a, buckleStreak := n } := by
  simp only [goodBand]
  split <;> exact ⟨_, _, _, rfl⟩

theorem badBand_frame (i : Seat) (r : SeatRec) :
    ∃ b a n, (badBand i r).1 = { r with buckle := b, agree := a, buckleStreak := n } := by
  simp only [badBand]
  split <;> exact ⟨_, _, _, rfl⟩

theorem buckleStep_frame (f : MatFrame) (r : SeatRec) :
    ∃ b a n, (buckleStep f r).1 = { r with buckle := b, agree := a, buckleStreak := n } := by
  unfold buckleStep
  split
  · exact ⟨_, _, _, rfl⟩
  · exact goodBand_frame ..
  · exact goodBand_frame ..
  · exact badBand_frame ..
  · exact badBand_frame ..

/-- The anchor state after step 3, in the words of the statements (R92). -/
def anchorAfter (m : SeatMap) (f : MatFrame) (r : SeatRec) : AnchorState :=
  match f.anchor with
  | some level => if m.anchor.toNat < 8 then (if level then .engaged else .free) else r.anchor
  | none => r.anchor

theorem anchorStep_eq (m : SeatMap) (f : MatFrame) (r : SeatRec) :
    anchorStep m f r = { r with anchor := anchorAfter m f r } := by
  cases hf : f.anchor with
  | none => simp [anchorStep, anchorAfter, hf]
  | some level => by_cases hm : m.anchor.toNat < 8 <;> simp [anchorStep, anchorAfter, SeatMap.anchorLine, hf, hm]

/-- The tension flag after step 3, in the words of the statements (R93). -/
def tensionAfter (f : MatFrame) (r : SeatRec) : Bool :=
  match f.tension with
  | some (_, valid) =>
      if r.tensionFault = false ∧ valid = false ∧ 2 ≤ r.tensionStreak then true
      else if r.tensionFault = true ∧ valid = true ∧ 1 ≤ r.tensionStreak then false else r.tensionFault
  | none => r.tensionFault

theorem tensionStep_frame (f : MatFrame) (r : SeatRec) :
    ∃ n, (tensionStep f r).1 = { r with tensionFault := tensionAfter f r, tensionStreak := n } := by
  rcases hf : f.tension with _ | ⟨reading, valid⟩
  · exact ⟨r.tensionStreak, by simp only [tensionStep, tensionAfter, hf]⟩
  rcases hv : valid with _ | _ <;> rcases ht : r.tensionFault with _ | _
  case false.false =>
    by_cases hn : 2 ≤ r.tensionStreak
    · exact ⟨0, by simp [tensionStep, tensionAfter, hf, hv, ht, hn]⟩
    · exact ⟨r.tensionStreak + 1, by simp [tensionStep, tensionAfter, hf, hv, ht, hn]⟩
  case true.true =>
    by_cases hn : 1 ≤ r.tensionStreak
    · exact ⟨0, by simp [tensionStep, tensionAfter, hf, hv, ht, hn]⟩
    · exact ⟨r.tensionStreak + 1, by simp [tensionStep, tensionAfter, hf, hv, ht, hn]⟩
  all_goals exact ⟨0, by simp [tensionStep, tensionAfter, hf, hv, ht]⟩

/-- The record and the notices that steps 2 and 3 leave. -/
def followed (m : SeatMap) (f : MatFrame) (r : SeatRec) : SeatRec × List Notice :=
  ((tensionStep f (anchorStep m f (buckleStep f (matStep f r).1).1)).1,
    (matStep f r).2 ++ (buckleStep f (matStep f r).1).2 ++
      (tensionStep f (anchorStep m f (buckleStep f (matStep f r).1).1)).2)

/-- The handling of a frame of an ACTIVE or FAULTED seat: steps 2 and 3, then the judgement of an accepted frame, then
latched-while-empty (R64). -/
theorem handleFrame_eq (m : SeatMap) (p : Profile) (f : MatFrame) (r : SeatRec)
    (h : r.lifecycle = .active ∨ r.lifecycle = .faulted) :
    handleFrame m p f r =
      if accepted f (followed m f r).1 = true then
        (latchedEmptyStep (judge p f (followed m f r).1).1, (followed m f r).2 ++ (judge p f (followed m f r).1).2)
      else (latchedEmptyStep (followed m f r).1, (followed m f r).2) := by
  have hsteps : handleFrame m p f r =
      (latchedEmptyStep
          (if accepted f (followed m f r).1 then judge p f (followed m f r).1 else ((followed m f r).1, [])).1,
        (followed m f r).2 ++
          (if accepted f (followed m f r).1 then judge p f (followed m f r).1 else ((followed m f r).1, [])).2) := by
    rcases h with h | h <;> simp only [handleFrame, h] <;> rfl
  rw [hsteps]
  split
  · rfl
  · rw [List.append_nil]

/-- The record with the fields that steps 2 and 3 own set: what a judgement reads beside anchor and tension is kept. -/
def Follows (m : SeatMap) (f : MatFrame) (l : Lifecycle) (r q : SeatRec) : Prop :=
  ∃ ms cs b a bs ts, q = { r with
    lifecycle := l, matStreak := ms, cleanStreak := cs, buckle := b, agree := a, buckleStreak := bs
    anchor := anchorAfter m f r, tensionFault := tensionAfter f r, tensionStreak := ts }

/-- Steps 2 and 3 of a frame that does not fault its seat. -/
theorem followed_follows (m : SeatMap) (f : MatFrame) (r : SeatRec) (l : Lifecycle)
    (h : ∃ ms cs, (matStep f r).1 = { r with lifecycle := l, matStreak := ms, cleanStreak := cs }) :
    Follows m f l r (followed m f r).1 := by
  obtain ⟨ms, cs, hmat⟩ := h
  obtain ⟨b, a, bs, hbuckle⟩ := buckleStep_frame f (matStep f r).1
  obtain ⟨ts, htension⟩ := tensionStep_frame f (anchorStep m f (buckleStep f (matStep f r).1).1)
  refine ⟨ms, cs, b, a, bs, ts, ?_⟩
  rw [followed, htension, anchorStep_eq, hbuckle, hmat]
  rfl

/-! ## The notices of one record's handling -/

/-- At most one notice, and not one of a judgement. -/
def OneOther (ns : List Notice) : Prop := ns.length ≤ 1 ∧ ns.filter ofJudgement = []

theorem oneOther_nil : OneOther [] := ⟨Nat.zero_le 1, rfl⟩

theorem oneOther_fault (i : Seat) (r : SeatRec) : OneOther [faultNotice i r] := ⟨le_rfl, rfl⟩

theorem oneOther_buckle (i : Seat) (b : BuckleState) : OneOther [.buckle i b] := ⟨le_rfl, rfl⟩

theorem matStep_notices (f : MatFrame) (r : SeatRec) : OneOther (matStep f r).2 := by
  simp only [matStep]
  split
  · split
    · exact oneOther_fault ..
    · exact oneOther_nil
  · split
    · exact oneOther_fault ..
    · exact oneOther_nil
  · exact oneOther_nil

theorem goodBand_notices (i : Seat) (latched : Bool) (r : SeatRec) : OneOther (goodBand i latched r).2 := by
  simp only [goodBand]
  split
  · exact oneOther_buckle ..
  · exact oneOther_nil

theorem badBand_notices (i : Seat) (r : SeatRec) : OneOther (badBand i r).2 := by
  simp only [badBand]
  split
  · exact oneOther_buckle ..
  · exact oneOther_nil

theorem buckleStep_notices (f : MatFrame) (r : SeatRec) : OneOther (buckleStep f r).2 := by
  unfold buckleStep
  split
  · exact oneOther_nil
  · exact goodBand_notices ..
  · exact goodBand_notices ..
  · exact badBand_notices ..
  · exact badBand_notices ..

theorem tensionStep_notices (f : MatFrame) (r : SeatRec) : OneOther (tensionStep f r).2 := by
  rcases hf : f.tension with _ | ⟨reading, valid⟩ <;> simp only [tensionStep, hf]
  · exact oneOther_nil
  by_cases hd : r.tensionFault = valid
  · by_cases hn : (if valid then 2 else 3) ≤ r.tensionStreak + 1
    · rw [if_pos hd, if_pos hn]; exact oneOther_fault ..
    · rw [if_pos hd, if_neg hn]; exact oneOther_nil
  · rw [if_neg hd]; exact oneOther_nil

theorem followed_notices (m : SeatMap) (f : MatFrame) (r : SeatRec) :
    (followed m f r).2.length ≤ 3 ∧ (followed m f r).2.filter ofJudgement = [] := by
  obtain ⟨hmat, hmat'⟩ := matStep_notices f r
  obtain ⟨hbuckle, hbuckle'⟩ := buckleStep_notices f (matStep f r).1
  obtain ⟨htension, htension'⟩ := tensionStep_notices f (anchorStep m f (buckleStep f (matStep f r).1).1)
  constructor
  · simp only [followed, List.length_append]; omega
  · simp only [followed, List.filter_append, hmat', hbuckle', htension', List.append_nil]

/-- A judgement posts at most STABILITY and VERDICT, and nothing else. -/
theorem judge_notices (p : Profile) (f : MatFrame) (r : SeatRec) :
    (judge p f r).2.length ≤ 2 ∧ (judge p f r).2.filter ofJudgement = (judge p f r).2 := by
  rw [judge_eq p f r _ rfl, confirmStep_eq]
  simp only [stabilityNotices]
  split <;> split <;> exact ⟨by simp, rfl⟩

/-- The notices of the judgement of a frame: none when it is not accepted. -/
def judgedNotices (m : SeatMap) (p : Profile) (f : MatFrame) (r : SeatRec) : List Notice :=
  if accepted f (followed m f r).1 = true then (judge p f (followed m f r).1).2 else []

theorem handleFrame_notices (m : SeatMap) (p : Profile) (f : MatFrame) (r : SeatRec)
    (h : r.lifecycle = .active ∨ r.lifecycle = .faulted) :
    (handleFrame m p f r).2.length ≤ 5 ∧ (handleFrame m p f r).2.filter ofJudgement = judgedNotices m p f r := by
  obtain ⟨hlen, hother⟩ := followed_notices m f r
  obtain ⟨hlen', hjudged⟩ := judge_notices p f (followed m f r).1
  rw [handleFrame_eq m p f r h, judgedNotices]
  split
  · constructor
    · simp only [List.length_append]; omega
    · rw [List.filter_append, hother, hjudged, List.nil_append]
  · exact ⟨hlen.trans (by omega), hother⟩

/-! ## The whole event (R66) -/

theorem reminderNotices_other (before after : Tab 16 ReminderRec) :
    (reminderNotices before after).filter ofJudgement = [] := by
  rw [List.filter_eq_nil_iff]
  intro n hn
  obtain ⟨i, -, hi⟩ := List.mem_filterMap.1 hn
  split at hi
  · cases hi
  · cases hi; exact Bool.false_ne_true

theorem cabinNotices_other (before after : Summary) : (cabinNotices before after).filter ofJudgement = [] := by
  unfold cabinNotices
  split <;> rfl

theorem remSeatChanged_other (i : Seat) (s : State) : (remSeatChanged i s).2.filter ofJudgement = [] := by
  rw [remSeatChanged, endRemEvent_notices, List.filter_append, cabinNotices_other, List.append_nil]
  exact reminderNotices_other ..

theorem abortCaptureOf_other (g : Seat → Bool) (f : Feat) : (abortCaptureOf g f).2.filter ofJudgement = [] := by
  have hany : (abortCapture f).2.filter ofJudgement = [] := by
    rw [abortCapture_notices, List.filter_map]
    simp [Function.comp_def, ofJudgement]
  unfold abortCaptureOf
  split
  · split
    · exact hany
    · rfl
  · rfl

theorem mergeNotices_other (k : Nat) (gs : List (List Notice)) (h : ∀ g ∈ gs, g.filter ofJudgement = []) :
    (mergeNotices k gs).filter ofJudgement = [] := by
  have hperm := (mergeNotices_perm k gs).filter ofJudgement
  have hflat : gs.flatten.filter ofJudgement = [] := by
    rw [List.filter_eq_nil_iff]
    intro n hn
    obtain ⟨g, hg, hng⟩ := List.mem_flatten.1 hn
    exact List.filter_eq_nil_iff.1 (h g hg) n hng
  rw [hflat] at hperm
  exact hperm.eq_nil

@[simp] theorem evaluateIf_verd (g : Seat → Bool) (p : Pos) (s : State) : (evaluateIf g p s).verd = s.verd := by
  rcases evaluateIf_cases g p s with h | h <;> simp [h]

@[simp] theorem evaluateIf_lnk (g : Seat → Bool) (p : Pos) (s : State) : (evaluateIf g p s).lnk = s.lnk := by
  rcases evaluateIf_cases g p s with h | h <;> simp [h]

@[simp] theorem advSeats_verd (g : Seat → Bool) (s : State) : (advSeats g s).verd = s.verd := by simp [advSeats]

@[simp] theorem advSeats_lnk (g : Seat → Bool) (s : State) : (advSeats g s).lnk = s.lnk := by simp [advSeats]

@[simp] theorem remSeatChanged_verd (i : Seat) (s : State) : (remSeatChanged i s).1.verd = s.verd := rfl

@[simp] theorem remSeatChanged_lnk (i : Seat) (s : State) : (remSeatChanged i s).1.lnk = s.lnk := rfl

/-- What the handling of the frame in the slot makes of its seat's record, with its notices. -/
def handledBy (s : State) (f : MatFrame) : SeatRec × List Notice :=
  handleFrame (s.cmap.seats.get f.seat) (profileAt s f.seat) f (s.verd.seats.get f.seat)

/-- VERD's part of the event: the record written, the slot emptied, its notices posted. -/
def afterVerd (s : State) (f : MatFrame) : State :=
  postAll (handledBy s f).2 { s with verd := { seats := s.verd.seats.set f.seat (handledBy s f).1, slot := none } }

/-- Then ADV's part. -/
def afterAdv (s : State) (f : MatFrame) : State :=
  if changedForAdv (s.verd.seats.get f.seat) (handledBy s f).1 then
    advSeats (fun i => decide (i = f.seat)) (afterVerd s f)
  else afterVerd s f

/-- FEAT's part, when the frame faulted the seat. -/
def captureAborted (s : State) (f : MatFrame) : Feat × List Notice :=
  if decide ((s.verd.seats.get f.seat).lifecycle = .active) && decide ((handledBy s f).1.lifecycle = .faulted) then
    abortCaptureOf (fun i => decide (i = f.seat)) (afterAdv s f).feat
  else ((afterAdv s f).feat, [])

/-- REM's part. -/
def afterRem (s : State) (f : MatFrame) : State × List Notice :=
  if changedForRem (s.verd.seats.get f.seat) (handledBy s f).1 then
    remSeatChanged f.seat (withFeat (captureAborted s f).1 (afterAdv s f))
  else (withFeat (captureAborted s f).1 (afterAdv s f), [])

/-- The event is its four parts. -/
theorem frameHandled_eq (s : State) (f : MatFrame) (h : s.verd.slot = some f) :
    frameHandled s = postMerged [(afterRem s f).2, (captureAborted s f).2] (afterRem s f).1 := by
  simp only [frameHandled, h]
  rfl

theorem afterVerd_record (s : State) (f : MatFrame) : (afterVerd s f).verd.seats.get f.seat = (handledBy s f).1 := by
  rw [afterVerd, postAll_verd, Tab.get_set_same]

theorem afterVerd_lnk (s : State) (f : MatFrame) : (afterVerd s f).lnk = enqueue (handledBy s f).2 s.lnk :=
  postAll_lnk ..

/-- ADV and REM leave what VERD wrote and posted. -/
theorem afterRem_keeps (s : State) (f : MatFrame) :
    (afterRem s f).1.verd = (afterVerd s f).verd ∧ (afterRem s f).1.lnk = (afterVerd s f).lnk := by
  have hadv : (afterAdv s f).verd = (afterVerd s f).verd ∧ (afterAdv s f).lnk = (afterVerd s f).lnk := by
    unfold afterAdv
    split
    · exact ⟨advSeats_verd .., advSeats_lnk ..⟩
    · exact ⟨rfl, rfl⟩
  unfold afterRem
  split <;> exact hadv

theorem afterRem_other (s : State) (f : MatFrame) : (afterRem s f).2.filter ofJudgement = [] := by
  unfold afterRem
  split
  · exact remSeatChanged_other ..
  · rfl

theorem captureAborted_other (s : State) (f : MatFrame) : (captureAborted s f).2.filter ofJudgement = [] := by
  unfold captureAborted
  split
  · exact abortCaptureOf_other ..
  · rfl

theorem frameHandled_record (s : State) (f : MatFrame) (h : s.verd.slot = some f) :
    (frameHandled s).verd.seats.get f.seat = (handledBy s f).1 := by
  rw [frameHandled_eq s f h, postMerged_verd, (afterRem_keeps s f).1, afterVerd_record]

/-- VERD's notices are posted before those of the other blocks, none of which is of a judgement (R66). -/
theorem frameHandled_lnk (s : State) (f : MatFrame) (h : s.verd.slot = some f) :
    ∃ ns, ns.filter ofJudgement = [] ∧ (frameHandled s).lnk = enqueue ((handledBy s f).2 ++ ns) s.lnk := by
  refine ⟨mergeNotices (afterRem s f).1.free [(afterRem s f).2, (captureAborted s f).2],
    mergeNotices_other _ _ ?_, ?_⟩
  · simp only [List.mem_cons, List.not_mem_nil, or_false, forall_eq_or_imp, forall_eq]
    exact ⟨afterRem_other s f, captureAborted_other s f⟩
  · rw [frameHandled_eq s f h, postMerged_lnk, (afterRem_keeps s f).2, afterVerd_lnk, enqueue_append]

/-- With at most 24 notices held, those added that are of a judgement are the ones of this frame's (R159). -/
theorem addedNotices_ofJudgement (s : State) (f : MatFrame) (h : s.verd.slot = some f)
    (hl : (s.verd.seats.get f.seat).lifecycle = .active ∨ (s.verd.seats.get f.seat).lifecycle = .faulted)
    (hroom : s.lnk.notices.length ≤ 24) :
    (addedNotices s (frameHandled s)).filter ofJudgement =
      judgedNotices (s.cmap.seats.get f.seat) (profileAt s f.seat) f (s.verd.seats.get f.seat) := by
  obtain ⟨ns, hns, hlnk⟩ := frameHandled_lnk s f h
  obtain ⟨hlen, hjudged⟩ := handleFrame_notices (s.cmap.seats.get f.seat) (profileAt s f.seat) f _ hl
  have hfits : (handledBy s f).2.length ≤ 32 - s.lnk.notices.length := by rw [handledBy]; omega
  have hrest (k : Nat) : (ns.take k).filter ofJudgement = [] := by
    rw [List.filter_eq_nil_iff] at hns ⊢
    exact fun n hn => hns n (List.mem_of_mem_take hn)
  rw [addedNotices, hlnk]
  simp only [enqueue, List.drop_left, List.take_append, List.take_of_length_le hfits, List.filter_append, hrest,
    List.append_nil]
  exact hjudged

/-! ## Accepted frames -/

/-- The frame in the slot is accepted: it has neither OPEN nor ALL_OPEN, and its seat is ACTIVE or recovered by it (R65,
R87). -/
structure AcceptedFrame (s : State) (f : MatFrame) : Prop where
  slot : s.verd.slot = some f
  seat : (s.verd.seats.get f.seat).lifecycle = .active ∨
    (s.verd.seats.get f.seat).lifecycle = .faulted ∧ 4 ≤ (s.verd.seats.get f.seat).cleanStreak
  noOpen : f.conditions.open_ = false
  noAllOpen : f.conditions.allOpen = false

/-- The instantaneous verdict of the frame, by the record before it and the anchor and tension of the frame itself. -/
def verdictOf (s : State) (f : MatFrame) : Verdict :=
  verdictAt (profileAt s f.seat) f (s.verd.seats.get f.seat).confirmed
    (evidenceAt (profileAt s f.seat) f (tensionAfter f (s.verd.seats.get f.seat))
      (anchorAfter (s.cmap.seats.get f.seat) f (s.verd.seats.get f.seat)))

/-- What an accepted frame makes of its seat: from the record `q` that steps 2 and 3 leave, the verdict is pushed and told
to confirmation, and the notices of the judgement are those of these two steps. -/
theorem acceptedFrame_judged {s : State} {f : MatFrame} (h : AcceptedFrame s f) :
    ∃ q, Follows (s.cmap.seats.get f.seat) f .active (s.verd.seats.get f.seat) q ∧
      (frameHandled s).verd.seats.get f.seat = latchedEmptyStep
        (confirmStep (profileAt s f.seat) f.seat (verdictOf s f)
          (pushed (profileAt s f.seat) f (verdictOf s f) q)).1 ∧
      (s.lnk.notices.length ≤ 24 → (addedNotices s (frameHandled s)).filter ofJudgement =
        stabilityNotices f.seat q.unstable (pushed (profileAt s f.seat) f (verdictOf s f) q).unstable ++
          (confirmStep (profileAt s f.seat) f.seat (verdictOf s f)
            (pushed (profileAt s f.seat) f (verdictOf s f) q)).2) := by
  obtain ⟨hslot, hseat, hopen, hall⟩ := h
  have hclean : f.conditions.dirty = false := by rw [Conditions.dirty, hopen, hall]; rfl
  have hhandled : (s.verd.seats.get f.seat).lifecycle = .active ∨ (s.verd.seats.get f.seat).lifecycle = .faulted :=
    hseat.imp_right And.left
  have hfollows := followed_follows (s.cmap.seats.get f.seat) f _ _ (matStep_clean f _ hclean hseat)
  refine ⟨_, hfollows, ?_⟩
  have haccepted : accepted f (followed (s.cmap.seats.get f.seat) f (s.verd.seats.get f.seat)).1 = true := by
    obtain ⟨ms, cs, b, a, bs, ts, hq⟩ := hfollows
    rw [hq, accepted, hclean]
    rfl
  have hjudge := judge_eq (profileAt s f.seat) f
    (followed (s.cmap.seats.get f.seat) f (s.verd.seats.get f.seat)).1 (verdictOf s f) (by
      obtain ⟨ms, cs, b, a, bs, ts, hq⟩ := hfollows
      rw [hq]
      rfl)
  constructor
  · rw [frameHandled_record s f hslot, handledBy, handleFrame_eq _ _ _ _ hhandled, if_pos haccepted, hjudge]
  · intro hroom
    rw [addedNotices_ofJudgement s f hslot hhandled hroom, judgedNotices, if_pos haccepted, hjudge]

/-- A frame that is not accepted and does not fault its seat is not judged: the record is the one steps 2 and 3 leave, and
no notice of a judgement is added. -/
theorem refusedFrame_notJudged {s : State} {f : MatFrame} (hslot : s.verd.slot = some f)
    (h : (s.verd.seats.get f.seat).lifecycle = .active ∧ f.conditions.dirty = true ∧
        (s.verd.seats.get f.seat).matStreak < 2 ∨
      (s.verd.seats.get f.seat).lifecycle = .faulted ∧
        ((s.verd.seats.get f.seat).cleanStreak < 4 ∨ f.conditions.dirty = true)) :
    ∃ q, Follows (s.cmap.seats.get f.seat) f (s.verd.seats.get f.seat).lifecycle (s.verd.seats.get f.seat) q ∧
      (frameHandled s).verd.seats.get f.seat = latchedEmptyStep q ∧
      (s.lnk.notices.length ≤ 24 → (addedNotices s (frameHandled s)).filter ofJudgement = []) := by
  have hhandled : (s.verd.seats.get f.seat).lifecycle = .active ∨ (s.verd.seats.get f.seat).lifecycle = .faulted :=
    h.imp And.left And.left
  have hfollows := followed_follows (s.cmap.seats.get f.seat) f _ _ (matStep_kept f _ h)
  refine ⟨_, hfollows, ?_⟩
  have hrefused : ¬ accepted f (followed (s.cmap.seats.get f.seat) f (s.verd.seats.get f.seat)).1 = true := by
    obtain ⟨ms, cs, b, a, bs, ts, hq⟩ := hfollows
    rw [hq, accepted]
    rcases h with ⟨hl, hd, -⟩ | ⟨hl, -⟩
    · simp [hd]
    · simp [hl]
  constructor
  · rw [frameHandled_record s f hslot, handledBy, handleFrame_eq _ _ _ _ hhandled, if_neg hrefused]
  · intro hroom
    rw [addedNotices_ofJudgement s f hslot hhandled hroom, judgedNotices, if_neg hrefused]

/-! ## The statements -/

theorem exec_frameHandlingComplete (s : State) : exec .frameHandlingComplete s = .next (frameHandled s) := rfl

/-- STABILITY notices are among those of a judgement. -/
theorem filter_isStability (ns : List Notice) : ns.filter isStability = (ns.filter ofJudgement).filter isStability := by
  rw [List.filter_filter]
  congr 1
  funext n
  cases n <;> rfl

/-- Confirmation posts no STABILITY notice. -/
theorem confirmStep_noStability (p : Profile) (i : Seat) (v : Verdict) (r : SeatRec) :
    (confirmStep p i v r).2.filter isStability = [] := by
  rw [confirmStep_eq]
  dsimp only
  split <;> rfl

theorem stabilityNotices_filter (i : Seat) (before after : Bool) :
    (stabilityNotices i before after).filter isStability = stabilityNotices i before after := by
  unfold stabilityNotices
  split <;> rfl

/-- The VERDICT notice of `v` is among a judgement's exactly when confirmation made `v` the confirmed verdict. -/
theorem verdict_mem_judged_iff (p : Profile) (i : Seat) (v : Verdict) (r : SeatRec) (before after : Bool) :
    Notice.verdict i r.confirmed v ∈ stabilityNotices i before after ++ (confirmStep p i v r).2 ↔
      (confirmStep p i v r).1.confirmed = v ∧ v ≠ r.confirmed := by
  have hstab : Notice.verdict i r.confirmed v ∉ stabilityNotices i before after := by
    unfold stabilityNotices
    split <;> simp
  rw [confirmStep_eq, List.mem_append, or_iff_right hstab, ← confirmation_changed_iff p v r]
  dsimp only
  split <;> simp [*]

theorem latchedEmptyStep_iff (r : SeatRec) :
    (latchedEmptyStep r).latchedEmpty = true ↔ (latchedEmptyStep r).confirmed = .empty ∧
      (latchedEmptyStep r).buckle = .latched := by
  simp [latchedEmptyStep]

/-- Settles O24: an accepted frame's record is the one with its verdict pushed, a refused frame's is the one that steps 2
and 3 leave; of the notices added, STABILITY is one of a judgement. -/
theorem acceptedFramesArePushedByTheirVerdict : Obligations.AcceptedFramesArePushedByTheirVerdict := by
  constructor
  · intro s f hslot hseat hopen hall
    obtain ⟨q, ⟨ms, cs, b, a, bs, ts, rfl⟩, hrec, hadded⟩ :=
      acceptedFrame_judged (s := s) (f := f) ⟨hslot, hseat, hopen, hall⟩
    refine ⟨_, exec_frameHandlingComplete s, ?_⟩
    rw [confirmStep_eq] at hrec
    rw [hrec]
    refine ⟨rfl, rfl, rfl, rfl, fun hroom => ?_⟩
    rw [filter_isStability, hadded hroom, List.filter_append, confirmStep_noStability, List.append_nil,
      stabilityNotices_filter]
    rfl
  · intro s f hslot h
    have hdirty : (f.conditions.open_ = true ∨ f.conditions.allOpen = true) ↔ f.conditions.dirty = true := by
      rw [Conditions.dirty, Bool.or_eq_true]
    rw [hdirty] at h
    obtain ⟨q, ⟨ms, cs, b, a, bs, ts, rfl⟩, hrec, hadded⟩ := refusedFrame_notJudged hslot h
    refine ⟨_, exec_frameHandlingComplete s, ?_⟩
    rw [hrec]
    refine ⟨rfl, rfl, rfl, rfl, rfl, rfl, rfl, fun hroom => ?_⟩
    rw [filter_isStability, hadded hroom, List.filter_nil]

/-- Settles O25, from what confirmation writes and posts for an accepted frame. -/
theorem confirmationCountsToTheRequiredCount : Obligations.ConfirmationCountsToTheRequiredCount := by
  intro s f v hslot hseat hopen hall hv
  obtain rfl : v = verdictOf s f := hv
  obtain ⟨q, ⟨ms, cs, b, a, bs, ts, rfl⟩, hrec, hadded⟩ :=
    acceptedFrame_judged (s := s) (f := f) ⟨hslot, hseat, hopen, hall⟩
  refine ⟨_, exec_frameHandlingComplete s, ?_, fun hroom => ?_, ?_⟩
  · rw [hrec, confirmStep_eq]
    rfl
  · rw [hrec]
    have hjudged (n : Notice) (hn : ofJudgement n = true) :
        n ∈ addedNotices s (frameHandled s) ↔ n ∈ (addedNotices s (frameHandled s)).filter ofJudgement := by
      rw [List.mem_filter, and_iff_left hn]
    exact (hjudged _ rfl).trans (hadded hroom ▸ verdict_mem_judged_iff ..)
  · rw [hrec]
    exact latchedEmptyStep_iff _

end Sys2Proof.Machine

/-! SUPPORT. CABIN REMINDER, ADVISORY READ and the read form of RETENTION SET (R121, R129, R148): the bytes that the
model writes are those of R177 and R178, and each request is taken with its report. -/

namespace Sys2Proof

theorem Tab.cells_eq_map_get {n : Nat} {α : Type} (t : Tab n α) : t.cells = (List.finRange n).map t.get := by
  obtain ⟨cells, rfl⟩ := t
  exact (List.map_getElem_finRange cells).symm

end Sys2Proof

namespace Sys2Proof.Machine

open Sys2Proof.Safety

/-! ## Numbers, flags and tables as bytes (R171) -/

theorem optByte_eq_getD (x : Option Nat) : optByte x = ((x.getD 0xFF : Nat) : Byte) := by cases x <;> rfl

theorem byteOf_add (m n : Nat) : byteOf (m + n) = byteOf m + byteOf n := BitVec.ofNat_add m n

theorem byteOf_mul (m n : Nat) : byteOf (m * n) = byteOf m * byteOf n := BitVec.ofNat_mul m n

@[simp] theorem byteOf_bitsOf_nil : byteOf (bitsOf []) = 0 := rfl

/-- The first flag of a list is bit 0 of its number, the others stand one place higher. -/
theorem byteOf_bitsOf_cons (b : Bool) (bs : List Bool) :
    byteOf (bitsOf (b :: bs)) = (bit b : Byte) + 2 * byteOf (bitsOf bs) := by
  rw [bitsOf, toNat_eq_bit, byteOf_add, byteOf_mul]
  rfl

/-- The number of a list of flags is the sum of the places of those that are set. -/
theorem bitsOf_map_finRange {n : Nat} (f : Fin n → Bool) :
    bitsOf ((List.finRange n).map f) = ((List.finRange n).map fun i => if f i then 2 ^ i.val else 0).sum := by
  induction n with
  | zero => rfl
  | succ n ih =>
    have hhead : (f 0).toNat = if f 0 then 2 ^ (0 : Fin (n + 1)).val else 0 := by cases f 0 <;> rfl
    have htail (i : Fin n) : 2 * (if f i.succ then 2 ^ i.val else 0) = if f i.succ then 2 ^ i.succ.val else 0 := by
      rw [mul_ite, mul_zero, Fin.val_succ, pow_succ']
    simp only [List.finRange_succ, List.map_cons, List.map_map, bitsOf, List.sum_cons, Function.comp_def, ih,
      ← List.sum_map_mul_left, hhead, htail]

theorem seatSetBytes_eq_bytesOf (x : SeatSet) : seatSetBytes x = bytesOf 2 (setNumber x) := by
  rw [seatSetBytes, Tab.cells_eq_map_get, bitsOf_map_finRange]
  rfl

/-! ## The CABIN REMINDER body (R121, R178) -/

theorem cabinFlags_eq (s : State) :
    byteOf (bitsOf [s.rem.summary.chime, decide (s.ret.ignition = .on), s.rem.startElapsed, s.rem.freshness, s.trigger,
      s.countCondition]) =
    (bit s.rem.summary.chime + 2 * bit (decide (s.ret.ignition = .on)) + 4 * bit s.rem.startElapsed +
      8 * bit s.rem.freshness + 16 * bit (triggerHolds s) + 32 * bit (triggerHolds s && s.rem.speed.isSome) : Byte) := by
  simp only [byteOf_bitsOf_cons, byteOf_bitsOf_nil, State.countCondition, trigger_eq]
  ring

/-- The cells of a half of a table are those of the half's seats. -/
theorem cells_half_eq {α : Type} (t : Tab 16 α) (half : Byte) (h : half.toNat ≤ 1) :
    (if half = 0 then t.cells.take 8 else t.cells.drop 8) =
      ((List.finRange 16).filter fun i : Seat => decide (i.val / 8 = half.toNat)).map t.get := by
  have hhalf : half = 0 ∨ half = 1 := by bv_omega
  rw [Tab.cells_eq_map_get, ← List.map_take, ← List.map_drop, ← apply_ite]
  congr 1
  rcases hhalf with rfl | rfl <;> decide

theorem reminderBytes_eq (r : ReminderRec) :
    reminderBytes r = (r.state.code : Byte) :: bytesOf 3 (r.budget + 4096 * r.visual) := by
  rw [reminderBytes, le24_eq_bytesOf, Nat.mul_comm]
  rfl

theorem cabinBody_eq_cabinBytes (s : State) (half : Byte) (h : half.toNat ≤ 1) :
    cabinBody half s = cabinBytes s half.toNat := by
  have hhalf : ((half.toNat : Nat) : Byte) = half := BitVec.ofNat_toNat ..
  rw [cabinBody, cabinBytes, cabinFlags_eq, cells_half_eq _ half h, List.flatMap_map, hhalf]
  simp only [reminderBytes_eq, Summary.setBytes, seatSetBytes_eq_bytesOf, le16_eq_bytesOf, speedByte, optByte_eq_getD,
    List.append_assoc]
  rfl

/-! ## The ADVISORY READ body (R129, R177) -/

theorem AdvisoryRec.bytes_eq (r : AdvisoryRec) :
    r.bytes = [(r.position.val : Byte), r.value.code, seatOr r.seat, (r.confirmed.map Verdict.code).getD 0xFF,
      (r.lifecycle.map Lifecycle.code).getD 0xFF] := by
  rw [AdvisoryRec.bytes, optByte_eq_seatOr, optByte_eq_getD, optByte_eq_getD]
  rfl

theorem currentBytes_eq_currentOf (s : State) (p : Pos) : currentBytes s p = currentOf s p := by
  rw [currentBytes, currentOf, advisoryRecord, AdvisoryRec.bytes]
  cases (s.adv.positions.get p).seat <;> rfl

theorem advisoryBody_eq_advisoryBytes (s : State) : advisoryBody s = advisoryBytes s := by
  have hflags : byteOf (bitsOf [s.adv.mailbox.isSome, s.adv.superseded]) =
      (bit s.adv.mailbox.isSome + 2 * bit s.adv.superseded : Byte) := by
    simp only [byteOf_bitsOf_cons, byteOf_bitsOf_nil]
    ring
  rw [advisoryBody, advisoryBytes, hflags, currentBytes_eq_currentOf, currentBytes_eq_currentOf]
  cases s.adv.mailbox with
  | none => rfl
  | some r => rw [mailboxBytes, AdvisoryRec.bytes_eq]; rfl

/-! ## The retention report (R148, R178) -/

theorem retentionFlags_eq (on timer : Bool) (doors : Tab 4 Bool) :
    byteOf (bitsOf [on, timer, false, false] + 16 * bitsOf doors.cells) =
      (bit on + 2 * bit timer + 16 * flags4 (doors.get 0) (doors.get 1) (doors.get 2) (doors.get 3) : Byte) := by
  have hdoors : bitsOf doors.cells = flags4 (doors.get 0) (doors.get 1) (doors.get 2) (doors.get 3) := by
    rw [Tab.cells_eq_map_get, ← bitsOf_eq_flags4]
    rfl
  have hlow : bitsOf [on, timer, false, false] = bit on + 2 * bit timer := by simp [bitsOf, ← toNat_eq_bit]
  rw [hdoors, hlow, byteOf_add, byteOf_add, byteOf_mul, byteOf_mul]
  rfl

theorem snapshotBytes_some (n : Snapshot) :
    snapshotBytes (some n) = bytesOf 3 (n.confirmed.code + 8 * n.buckle.code + 64 * n.budget) := by
  rw [snapshotBytes, le24_eq_bytesOf, Nat.mul_comm _ 8, Nat.mul_comm _ 64]

theorem retentionReport_eq_retentionBytes (r : Ret) : retentionReport r = retentionBytes r := by
  rw [retentionReport, retentionBytes, retentionFlags_eq, Tab.cells_eq_map_get r.snapshots, List.flatMap_map]
  congr 1
  apply List.flatMap_congr
  intro i _
  cases r.snapshots.get i with
  | none => rfl
  | some n => exact snapshotBytes_some n

/-! ## What the three requests answer (R121, R129, R148) -/

theorem exec_cabinReminder (f : ReqFrame) (s : State) :
    exec (.cabinReminder f) s = .next (takeRequest 0x43 (answerCabinReminder f) s) := rfl

theorem exec_advisoryRead (f : ReqFrame) (s : State) :
    exec (.advisoryRead f) s = .next (takeRequest 0x48 (answerAdvisoryRead f) s) := rfl

theorem exec_retentionRead (final : Bool) (s : State) :
    exec (.retentionRead final) s = .next (takeRequest 0x50 (answerRetention { body := [], final := final }) s) := rfl

theorem exec_cabinReminder_half (s : State) (b : Byte) (h : Ready s) (hb : b.toNat ≤ 1) :
    exec (.cabinReminder { body := [b], final := true }) s =
      .next (answering 0x43 .ok (cabinBytes s b.toNat) (closed s)) := by
  have howner : answerCabinReminder { body := [b], final := true } (closed s) =
      Answer.ok (closed s) (cabinBytes s b.toNat) := by
    rw [answerCabinReminder, formByte_good, readCabin, if_neg (Nat.not_lt.2 hb), cabinBody_eq_cabinBytes _ b hb]
    rfl
  rw [exec_cabinReminder, takeRequest_ok _ _ s _ _ h (by decide) howner]

theorem exec_cabinReminder_badHalf (s : State) (b : Byte) (h : Ready s) (hb : 1 < b.toNat) :
    exec (.cabinReminder { body := [b], final := true }) s = .next (refusing 0x43 .badArg s) := by
  have howner : answerCabinReminder { body := [b], final := true } (closed s) = Answer.refuse .badArg (closed s) := by
    rw [answerCabinReminder, formByte_good, readCabin, if_pos hb]
  rw [exec_cabinReminder, takeRequest_refused _ _ s _ h (by decide) howner]

/-- With the mailbox emptied, ATTN follows the notices alone (R161). -/
theorem emptyMailbox_eq (s : State) :
    emptyMailbox s = { s with
      adv := { s.adv with mailbox := none, superseded := false }
      pins := { s.pins with attn := decide (s.lnk.level ≤ s.lnk.notices.length) } } := by
  simp only [emptyMailbox, State.refreshAttn, Option.isSome_none, Bool.or_false]

theorem exec_advisoryRead_ready (s : State) (h : Ready s) :
    exec (.advisoryRead { body := [], final := true }) s =
      .next (answering 0x48 .ok (advisoryBytes s) { closed s with
        adv := { s.adv with mailbox := none, superseded := false }
        pins := { s.pins with attn := decide (s.lnk.level ≤ s.lnk.notices.length) } }) := by
  have howner : answerAdvisoryRead { body := [], final := true } (closed s) =
      Answer.ok (emptyMailbox (closed s)) (advisoryBytes s) := by
    rw [answerAdvisoryRead, formEmpty_good, advisoryBody_eq_advisoryBytes]
    rfl
  rw [exec_advisoryRead, takeRequest_ok _ _ s _ _ h (by decide) howner, emptyMailbox_eq]
  rfl

theorem exec_retentionRead_ready (s : State) (h : Ready s) :
    exec (.retentionRead true) s = .next (answering 0x50 .ok (retentionBytes s.ret) (closed s)) := by
  have howner : answerRetention { body := [], final := true } (closed s) =
      Answer.ok (closed s) (retentionBytes s.ret) := by
    rw [← retentionReport_eq_retentionBytes]
    rfl
  rw [exec_retentionRead, takeRequest_ok _ _ s _ _ h (by decide) howner]

/-- Settles O47, from what each of the three requests answers. -/
theorem cabinAdvisoryAndRetentionReadsReport : Obligations.CabinAdvisoryAndRetentionReadsReport :=
  ⟨fun s b h hb => ⟨_, exec_cabinReminder_half s b h hb, rfl⟩,
   fun s b h hb => ⟨_, exec_cabinReminder_badHalf s b h hb, rfl⟩,
   fun s h => ⟨_, exec_advisoryRead_ready s h, rfl⟩,
   fun s h => ⟨_, exec_retentionRead_ready s h, rfl⟩⟩

end Sys2Proof.Machine

/-! SUPPORT. The general requests (R160 to R162): the STATUS body is that of R178, and each request is taken with its
answer. -/

namespace Sys2Proof.Machine

open Sys2Proof.Safety

/-! ## Numbers and flags of the replies (R171, R178) -/

/-- The model's clamp is the one written with min and max, when the range is not empty. -/
theorem clamp_eq_within {lo hi : Nat} (h : lo ≤ hi) (x : Nat) : clamp lo hi x = within lo hi x :=
  clamp_eq lo hi x h

theorem SectionFlags.byteOf_bits (v : SectionFlags) :
    byteOf v.bits = (bit v.map + 2 * bit v.profiles + 4 * bit v.reminder + 8 * bit v.timing + 16 * bit v.calibration +
      32 * bit v.protection : Byte) := by
  simp only [SectionFlags.bits, byteOf_bitsOf_cons, byteOf_bitsOf_nil]
  ring

theorem byteOf_committing (st : Store) : byteOf st.committing.toNat = if st.commit = .idle then 0 else 1 := by
  by_cases h : st.commit = .idle
  · rw [if_pos h, (committing_false_iff st).2 h]; rfl
  · rw [if_neg h, (committing_iff st).2 h]; rfl

/-- The model's STATUS body is that of R178. -/
theorem statusBody_eq_statusBytes (s : State) : statusBody s = statusBytes s := by
  rw [statusBody, statusBytes, SectionFlags.byteOf_bits, byteOf_committing, Switches.bits, bitsOf_eq_flags4]
  simp only [toNat_eq_bit]
  rfl

/-! ## IDENTIFY, STATUS and RESTART (R162, R163) -/

theorem exec_identify (f : ReqFrame) (s : State) :
    exec (.identify f) s = .next (takeRequest 0x01 (answerIdentify f) s) := rfl

theorem exec_status (f : ReqFrame) (s : State) :
    exec (.status f) s = .next (takeRequest 0x02 (answerStatus f) s) := rfl

theorem exec_restart (f : ReqFrame) (s : State) :
    exec (.restart f) s = .next (takeRequest 0x03 (answerRestart f) s) := rfl

theorem exec_identify_ready (s : State) (h : Ready s) :
    exec (.identify { body := [], final := true }) s =
      .next (answering 0x01 .ok [0x1C, 0x6A, 0x16, 0x03, 1, 4, 16, 5] (closed s)) := by
  have howner : answerIdentify { body := [], final := true } (closed s) =
      Answer.ok (closed s) [0x1C, 0x6A, 0x16, 0x03, 1, 4, 16, 5] := rfl
  rw [exec_identify, takeRequest_ok _ _ s _ _ h (by decide) howner]

theorem exec_status_ready (s : State) (h : Ready s) :
    exec (.status { body := [], final := true }) s = .next (answering 0x02 .ok (statusBytes s) (closed s)) := by
  have howner : answerStatus { body := [], final := true } (closed s) = Answer.ok (closed s) (statusBytes s) := by
    rw [← statusBody_eq_statusBytes]; rfl
  rw [exec_status, takeRequest_ok _ _ s _ _ h (by decide) howner]

/-- The reply to RESTART is marked as the one that the effects of RESTART follow (R163). -/
theorem exec_restart_ready (s : State) (h : Ready s) :
    exec (.restart { body := [], final := true }) s =
      .next { s with lnk := { s.lnk with
        transfer := none, dispatch := .handling { code := 0x03, status := .ok, body := [] } true } } := by
  rw [exec_restart, takeRequest_taken _ _ s h (by decide)]
  rfl

/-- Settles O35, from what each of the three requests answers. -/
theorem identifyStatusAndRestartAreAnsweredAtOnce : Obligations.IdentifyStatusAndRestartAreAnsweredAtOnce :=
  ⟨fun s h => ⟨_, exec_identify_ready s h, rfl⟩,
   fun s h => ⟨_, exec_status_ready s h, rfl⟩,
   fun s h => ⟨_, exec_restart_ready s h, rfl⟩⟩

/-! ## NOTICE FETCH and NOTICE LEVEL SET (R160, R161) -/

theorem exec_noticeFetch (f : ReqFrame) (s : State) :
    exec (.noticeFetch f) s = .next (takeRequest 0x08 (answerNoticeFetch f) s) := rfl

theorem exec_noticeLevelSet (f : ReqFrame) (s : State) :
    exec (.noticeLevelSet f) s = .next (takeRequest 0x09 (answerNoticeLevelSet f) s) := rfl

/-- `s` with its oldest `n` notices, or all when fewer are held, removed and the overflow flag clear (R160). -/
def noticesFetched (n : Nat) (s : State) : State :=
  { s with lnk := { s.lnk with notices := s.lnk.notices.drop n, overflow := false } }

/-- The NOTICE FETCH body (R160, R178): how many of at most `n` notices are returned, how many are left, the overflow
flag as it stood, and the notices returned, oldest first. -/
def fetchBytes (n : Nat) (l : Lnk) : List Byte :=
  [((l.notices.take n).length : Byte), (l.notices.length - n : Nat), bit l.overflow] ++
    (l.notices.take n).flatMap Notice.bytes

theorem fetchNotices_eq (b : Byte) (s : State) :
    fetchNotices b s =
      Answer.ok (noticesFetched (within 1 8 b.toNat) s).refreshAttn (fetchBytes (within 1 8 b.toNat) s.lnk) := by
  rw [fetchNotices, clamp_eq_within (by decide), List.length_drop, toNat_eq_bit]
  rfl

theorem setLevel_eq (b : Byte) (s : State) :
    setLevel b s = Answer.ok { s with lnk := { s.lnk with level := within 1 32 b.toNat } }.refreshAttn
      [(within 1 32 b.toNat : Byte)] := by
  rw [setLevel, clamp_eq_within (by decide)]
  rfl

/-- An owner that answers OK with ATTN recalculated leaves ATTN true: the reply touches neither the notices nor the
mailbox (R161). -/
theorem answering_refreshAttn_attnTrue (code : Byte) (st : Status) (body : List Byte) (s : State) :
    AttnTrue (answering code st body s.refreshAttn) := refreshAttn_attnTrue s

theorem exec_noticeFetch_ready (s : State) (b : Byte) (h : Ready s) :
    exec (.noticeFetch { body := [b], final := true }) s =
      .next (answering 0x08 .ok (fetchBytes (within 1 8 b.toNat) s.lnk)
        (noticesFetched (within 1 8 b.toNat) (closed s)).refreshAttn) := by
  have howner := (formByte_good b fetchNotices (closed s)).trans (fetchNotices_eq b (closed s))
  rw [exec_noticeFetch, answerNoticeFetch, takeRequest_ok _ _ s _ _ h (by decide) howner]
  rfl

theorem exec_noticeLevelSet_ready (s : State) (b : Byte) (h : Ready s) :
    exec (.noticeLevelSet { body := [b], final := true }) s =
      .next (answering 0x09 .ok [(within 1 32 b.toNat : Byte)]
        { closed s with lnk := { (closed s).lnk with level := within 1 32 b.toNat } }.refreshAttn) := by
  have howner := (formByte_good b setLevel (closed s)).trans (setLevel_eq b (closed s))
  rw [exec_noticeLevelSet, answerNoticeLevelSet, takeRequest_ok _ _ s _ _ h (by decide) howner]

/-- Settles O36: each request leaves its queue or its level, with ATTN recalculated from it. -/
theorem noticeFetchReturnsTheOldestNotices : Obligations.NoticeFetchReturnsTheOldestNotices :=
  ⟨fun s b h => ⟨_, exec_noticeFetch_ready s b h, rfl, answering_refreshAttn_attnTrue ..⟩,
   fun s b h => ⟨_, exec_noticeLevelSet_ready s b h, rfl, answering_refreshAttn_attnTrue ..⟩⟩

end Sys2Proof.Machine

/-! SUPPORT. What a command can do, said once: the states that the owner of a request leaves, with a bound on the body of its
reply, and the states that a command leaves, with the guards under which it leaves them. The proofs about all commands at
once go by these cases and not by the arms of `exec`. -/

namespace Sys2Proof.Machine

open Sys2Proof.Safety

/-! ## What the owner of a request leaves -/

/-- The state that the owner of a request leaves, from the state it is handed. The flag says that the owner may move the
protection switches. -/
inductive Leaves (s : State) : Bool → State → Prop
  | same {sw} : Leaves s sw s
  | fetched {sw} (n : Nat) : Leaves s sw (noticesFetched n s).refreshAttn
  | levelSet {sw} (n : Nat) (hmin : 1 ≤ n) (hmax : n ≤ 32) :
      Leaves s sw { s with lnk := { s.lnk with level := n } }.refreshAttn
  | transferClosed {sw} : Leaves s sw (closeTransfer s)
  | staged {sw} (t : Transfer) (h : TransferLaw s → TransferLaw { s with lnk := { s.lnk with transfer := some t } }) :
      Leaves s sw { s with lnk := { s.lnk with transfer := some t } }
  | mapRefused {sw} : Leaves s sw (closeTransfer { s with free := s.free + 4 })
  | mapWritten {sw} (recs : MapRecs) (ps : Tab 4 Profile) (hidle : s.store.commit = .idle)
      (hvalid : mapFailure recs ps = none) :
      Leaves s sw (startCommit (.map recs) (mapApply recs true
        { closeTransfer { s with free := s.free + 4 } with cmap := { s.cmap with profiles := ps } }))
  | profileWritten {sw} (ps : Tab 4 Profile) (hidle : s.store.commit = .idle)
      (hok : (∀ i : ProfileIx, (s.cmap.profiles.get i).ok = true) → ∀ i : ProfileIx, (ps.get i).ok = true) :
      Leaves s sw (startCommit (.profiles ps) { s with cmap := { s.cmap with profiles := ps }, free := s.free + 1 })
  | timingSet {sw} (x : Timing) (hidle : s.store.commit = .idle) :
      Leaves s sw (startCommit (.timing x.clamped) { s with scan := { s.scan with timing := x.clamped } })
  | flagsRead {sw} : Leaves s sw { s with scan := { s.scan with overrun := false, tornFlag := false } }
  | probeArmed {sw} (i : Seat) (hstate : s.scan.state ≠ .halted)
      (hseat : (s.verd.seats.get i).lifecycle = .active ∨ (s.verd.seats.get i).lifecycle = .faulted) :
      Leaves s sw (armProbe i s)
  | probeFreed {sw} : Leaves s sw { s with scan := { s.scan with probe := .free none } }
  | calWritten {sw} (i : Seat) (es : List CalEntry) (hidle : s.store.commit = .idle)
      (hok : entriesOk s.cmap i es = true) :
      Leaves s sw (startCommit (.calibration (s.feat.cal.set i (writeCells es (s.feat.cal.get i))))
        { s with feat := { s.feat with cal := s.feat.cal.set i (writeCells es (s.feat.cal.get i)) } })
  | captureOpened {sw} (i : Seat) (hidle : s.store.commit = .idle)
      (hseat : (s.verd.seats.get i).lifecycle = .active) (hign : s.ret.ignition = .on) :
      Leaves s sw { s with feat := { s.feat with capture := some (newCapture i), intake := s.feat.intake.captureOpened } }
  | speedReported {sw} (b : Byte) : Leaves s sw (speedChanges (speedOf b) true s)
  | remindersSet {sw} (x : ReminderSettings) (hidle : s.store.commit = .idle) :
      Leaves s sw (startCommit (postEvent (applySettings x.clamped s)).reminderImage (postEvent (applySettings x.clamped s)))
  | mailboxRead {sw} : Leaves s sw (emptyMailbox s)
  | retainSet {sw} (n : Nat) (hidle : s.store.commit = .idle) :
      Leaves s sw (startCommit (.reminder s.rem.settings (clampRetain n))
        { s with ret := { s.ret with tRetain := clampRetain n } })
  | switchesBarred (w : Switches) (hidle : s.store.commit = .idle) :
      Leaves s true (startCommit (.protection w) { s with store := { s.store with switches := w } })
  | cleared (hidle : s.store.commit = .idle) : Leaves s true (clearCommit (clearMap (clearSettings s)))

/-- What an owner answers: a state it may leave, and a body that fits a reply (R149). -/
structure Answers (s : State) (sw : Bool) (a : Answer) : Prop where
  leaves : Leaves s sw a.state
  body : ReplyLaw s → a.body.length ≤ 55

variable {s : State} {sw : Bool}

/-! ### Forms and guards -/

theorem Answers.refuse (st : Status) : Answers s sw (Answer.refuse st s) := ⟨.same, fun _ => by simp [Answer.refuse]⟩

theorem Answers.refuseTransfer (st : Status) : Answers s sw (refuseTransfer st s) :=
  ⟨.transferClosed, fun _ => by simp [Machine.refuseTransfer, Answer.refuse]⟩

theorem Answers.formEmpty (f : ReqFrame) {owner : State → Answer} (h : Answers s sw (owner s)) :
    Answers s sw (formEmpty f owner s) := by
  unfold Machine.formEmpty
  split
  · exact h
  · exact .refuse _

theorem Answers.formByte (f : ReqFrame) {owner : Byte → State → Answer} (h : ∀ b, Answers s sw (owner b s)) :
    Answers s sw (formByte f owner s) := by
  unfold Machine.formByte
  split
  · exact h _
  · exact .refuse _

theorem Answers.seatArg (b : Byte) {owner : Seat → State → Answer} (h : ∀ i, Answers s sw (owner i s)) :
    Answers s sw (seatArg b owner s) := by
  unfold Machine.seatArg
  split
  · exact h _
  · exact .refuse _

theorem Answers.formSeat (f : ReqFrame) {owner : Seat → State → Answer} (h : ∀ i, Answers s sw (owner i s)) :
    Answers s sw (formSeat f owner s) := .formByte f fun b => .seatArg b h

theorem Answers.guardCommit (barred : Bool) {owner : State → Answer}
    (h : s.store.commit = .idle → Answers s sw (owner s)) : Answers s sw (guardCommit barred owner s) := by
  unfold Machine.guardCommit
  split
  · exact .refuse _
  split
  · exact .refuse _
  · rename_i hc; exact h ((committing_false_iff _).1 (by simpa using hc))

theorem Answers.ok {t : State} {body : List Byte} (h : Leaves s sw t) (hb : body.length ≤ 55) :
    Answers s sw (Answer.ok t body) := ⟨h, fun _ => hb⟩

/-! ### Lengths of reply bodies -/

@[simp] theorem le16_length (n : Nat) : (le16 n).length = 2 := rfl

@[simp] theorem le24_length (n : Nat) : (le24 n).length = 3 := rfl

@[simp] theorem seatSetBytes_length (x : SeatSet) : (seatSetBytes x).length = 2 := rfl

/-- Records of one length, written one after the other. -/
theorem flatMap_length_const {α β : Type} (f : α → List β) (n : Nat) (h : ∀ a, (f a).length = n) (xs : List α) :
    (xs.flatMap f).length = xs.length * n := by
  simp [List.length_flatMap, h]

theorem Notice.bytes_length (n : Notice) : n.bytes.length = 6 := by
  cases n with
  | retention c x => rcases c with _ | c <;> [skip; cases c] <;> rfl
  | _ => rfl

theorem ProbeBuffer.bytes_length (b : ProbeBuffer) : b.bytes.length = 7 + 3 * b.cells.length := by
  simp only [ProbeBuffer.bytes, List.length_append, le24_length, List.length_singleton,
    flatMap_length_const _ 3 (fun _ => le24_length _)]
  omega

theorem partBytes_length_le (c : CMap) (part : Nat) : (c.partBytes part).length ≤ 48 := by
  have hrow := flatMap_length_const RowRec.bytes 3 (fun _ => rfl) c.rows.cells
  have hseat := flatMap_length_const SeatMap.bytes 6 (fun _ => rfl)
  have hprofile := flatMap_length_const Profile.bytes 12 (fun _ => rfl) c.profiles.cells
  have hrows := c.rows.size
  have hseats := c.seats.size
  have hprofiles := c.profiles.size
  unfold CMap.partBytes
  split
  · omega
  split
  · rw [hseat, List.length_take]; omega
  split
  · rw [hseat, List.length_drop]; omega
  · omega

theorem captureBytes_length (f : Feat) (i : Seat) : (captureBytes f i).length = 2 := by
  unfold captureBytes
  split
  · split
    · split <;> rfl
    · rfl
  · rfl

theorem retentionReport_length (r : Ret) : (retentionReport r).length = 53 := by
  have h := flatMap_length_const snapshotBytes 3 (fun x => by cases x <;> rfl) r.snapshots.cells
  simp only [retentionReport, List.length_append, le16_length, List.length_singleton, h, r.snapshots.size]

theorem cabinBody_length_le (half : Byte) (s : State) : (cabinBody half s).length ≤ 55 := by
  have h := flatMap_length_const reminderBytes 4 (fun _ => rfl)
  simp only [cabinBody, Summary.setBytes, List.length_append, le16_length, seatSetBytes_length, List.length_cons,
    List.length_nil, h]
  split <;> simp [s.rem.table.size]

theorem mailboxBytes_length (x : Option AdvisoryRec) : (mailboxBytes x).length = 5 := by cases x <;> rfl

theorem advisoryBody_length (s : State) : (advisoryBody s).length = 14 := by
  simp [advisoryBody, mailboxBytes_length, currentBytes, AdvisoryRec.bytes]

theorem detailBytes_length (seat : Nat) (r : SeatRec) (required te tp ta : Nat) :
    (detailBytes seat r required te tp ta).length = 35 := by
  have h : (featureBytes r.features).length = 8 := by cases r.features <;> rfl
  simp [detailBytes, h]

/-! ### The owners -/

theorem fetchNotices_answers (b : Byte) : Answers s sw (fetchNotices b s) := by
  refine ⟨.fetched _, fun _ => ?_⟩
  have hn : (clamp 1 8 b.toNat) ≤ 8 := by rw [clamp_eq _ _ _ (by decide)]; omega
  have h := flatMap_length_const Notice.bytes 6 Notice.bytes_length (s.lnk.notices.take (clamp 1 8 b.toNat))
  have ht : (s.lnk.notices.take (clamp 1 8 b.toNat)).length ≤ 8 := by rw [List.length_take]; omega
  simp only [fetchNotices, Answer.ok, List.length_append, List.length_cons, List.length_nil, h]
  omega

theorem setLevel_answers (b : Byte) : Answers s sw (setLevel b s) := by
  have h := clamp_eq 1 32 b.toNat (by decide)
  exact .ok (.levelSet _ (by omega) (by omega)) (by simp)

theorem openTransfer_answers (records : List Byte) (final : Bool) : Answers s sw (openTransfer records final s) := by
  unfold openTransfer
  split
  · exact .refuseTransfer _
  rename_i hlen
  split
  · exact .refuseTransfer _
  split
  · exact .refuseTransfer _
  · refine ⟨.staged _ fun _ => ?_, fun _ => by simp [stage]⟩
    rintro t ⟨⟩
    have : records.length = 15 := by simpa [partLength] using hlen
    simp [this]

theorem finishTransfer_answers (t : Transfer) (part3 : List Byte) (nChild : Option (Tab 4 Byte)) :
    Answers s sw (finishTransfer t part3 nChild s) := by
  unfold finishTransfer
  split
  · exact .refuse _
  rename_i hc
  have hidle : s.store.commit = .idle := (committing_false_iff _).1 (by simpa using hc)
  dsimp only
  split
  · exact ⟨.mapRefused, fun _ => by simp [MapFailure.bytes]⟩
  · rename_i hvalid
    exact .ok (.mapWritten _ _ hidle hvalid) (by simp)

/-- A part staged at its index (R156). -/
theorem staged_law {t : Transfer} {part : Nat} {records : List Byte} (ht : s.lnk.transfer = some t)
    (hpart : part = t.expected) (h3 : part < 3) (hlen : records.length + 1 = partLength part) (h : TransferLaw s) :
    TransferLaw { s with lnk := { s.lnk with transfer := some (t.staged part records) } } := by
  obtain ⟨hmin, -, h0, h1, h2⟩ := h t ht
  rintro u ⟨⟩
  have hcases : part = 1 ∨ part = 2 := by omega
  subst hpart
  rcases hcases with he | he <;> simp_all [Transfer.staged, partLength]

theorem continueTransfer_answers (part : Nat) (records : List Byte) (final : Bool) (nChild : Option (Tab 4 Byte)) :
    Answers s sw (continueTransfer part records final nChild s) := by
  unfold continueTransfer
  split
  · exact .refuseTransfer _
  rename_i hform
  split
  · exact .refuse _
  rename_i t ht
  split
  · exact .refuseTransfer _
  split
  · split
    · exact finishTransfer_answers ..
    · exact .refuseTransfer _
  split
  · exact .refuseTransfer _
  · refine ⟨.staged _ (staged_law ht ?_ ?_ ?_), fun _ => by simp [stage]⟩ <;> omega

theorem answerMapWrite_answers (f : ReqFrame) (nChild : Option (Tab 4 Byte)) :
    Answers s sw (answerMapWrite f nChild s) := by
  unfold answerMapWrite
  rcases f.body with _ | ⟨part, records⟩
  · exact .refuseTransfer _
  by_cases hlen : 55 < records.length
  · simp only [if_pos hlen]; exact .refuseTransfer _
  simp only [if_neg hlen, mapWrite]
  by_cases hpart : part = 0
  · rw [if_pos hpart]; exact openTransfer_answers ..
  · rw [if_neg hpart]; exact continueTransfer_answers ..

theorem readMap_answers (part : Byte) : Answers s sw (readMap part s) := by
  unfold readMap
  split
  · exact .refuse _
  · refine ⟨.same, fun _ => ?_⟩
    have h := partBytes_length_le s.cmap part.toNat
    by_cases hp : part = 0
    · have h0 := flatMap_length_const RowRec.bytes 3 (fun _ => rfl) s.cmap.rows.cells
      have hrows := s.cmap.rows.size
      simp only [Answer.withProfiles, Answer.ok, List.length_append, hp, CMap.partBytes]
      simp [h0, hrows]
    · simp only [Answer.withProfiles, Answer.ok, List.length_append, if_neg hp, List.length_cons, List.length_nil]
      omega

/-- A profile sent in order stays in order when its fields are clamped, and lies in its ranges (R3, R15). -/
theorem clamped_ok (p : Profile) (h : p.ordered = true) : p.clamped.ok = true := by
  have hb (lo hi : Nat) (hlh : lo ≤ hi) (h255 : hi < 256) (b : Byte) :
      (clampByte lo hi b).toNat = max lo (min hi b.toNat) := by
    rw [clampByte, clamp_eq _ _ _ hlh, BitVec.toNat_ofNat, Nat.mod_eq_of_lt (by omega)]
  have htc : (BitVec.ofNat 12 (clamp 1 4095 p.tc.toNat)).toNat = max 1 (min 4095 p.tc.toNat) := by
    rw [clamp_eq _ _ _ (by decide), BitVec.toNat_ofNat, Nat.mod_eq_of_lt (by omega)]
  have hk : (BitVec.ofNat 10 (clamp 1 1023 p.k.toNat)).toNat = max 1 (min 1023 p.k.toNat) := by
    rw [clamp_eq _ _ _ (by decide), BitVec.toNat_ofNat, Nat.mod_eq_of_lt (by omega)]
  simp only [Profile.ordered, Bool.and_eq_true, decide_eq_true_eq] at h
  have hAdult := p.mAdult.isLt
  have hPerson := p.mPerson.isLt
  simp only [Profile.ok, Profile.inRanges, Profile.ordered, Profile.clamped, inRange, Bool.and_eq_true,
    decide_eq_true_eq, htc, hk, hb _ _ (by decide : 1 ≤ 253) (by decide), hb _ _ (by decide : 2 ≤ 254) (by decide),
    hb _ _ (by decide : 3 ≤ 255) (by decide), hb _ _ (by decide : 0 ≤ 20) (by decide),
    hb _ _ (by decide : 1 ≤ 64) (by decide), hb _ _ (by decide : 1 ≤ 255) (by decide),
    hb _ _ (by decide : 1 ≤ 16) (by decide), hb _ _ (by decide : 1 ≤ 20) (by decide),
    hb _ _ (by decide : 1 ≤ 60) (by decide), hb _ _ (by decide : 1 ≤ 30) (by decide)]
  omega

theorem writeProfile_answers (ix : Byte) (record : List Byte) (nChild : Option Byte) :
    Answers s sw (writeProfile ix record nChild s) := by
  unfold writeProfile
  split
  · refine .guardCommit _ fun hidle => ?_
    dsimp only
    split
    · rename_i hix hord
      refine ⟨.profileWritten _ hidle fun hok i => ?_, fun _ => by simp [Answer.withProfiles, Answer.ok, Profile.bytes]⟩
      rw [Tab.get_set]
      split
      · exact clamped_ok _ hord
      · exact hok i
    · exact .refuse _
  · exact .refuse _

theorem answerProfileWrite_answers (f : ProfileFrame) : Answers s sw (answerProfileWrite f s) := by
  unfold answerProfileWrite
  split
  · split
    · exact writeProfile_answers ..
    · exact .refuse _
  · exact .refuse _

theorem answerScanTimingSet_answers (f : ReqFrame) : Answers s sw (answerScanTimingSet f s) := by
  unfold answerScanTimingSet
  split
  · exact .guardCommit _ fun hidle => .ok (.timingSet _ hidle) (by simp [Timing.bytes])
  · exact .refuse _

theorem answerScanStatus_answers (f : ReqFrame) : Answers s sw (answerScanStatus f s) := by
  refine .formEmpty f (.ok .flagsRead ?_)
  have h : (probeSlotBytes s.scan.probe).length = 2 := by cases s.scan.probe <;> rfl
  simp [scanStatusBody, h, Timing.bytes]

theorem probeSeat_answers (i : Seat) : Answers s sw (probeSeat i s) := by
  unfold probeSeat
  split
  · dsimp only
    split
    · exact .refuse _
    · rename_i h
      simp only [not_or] at h
      refine .ok (.probeArmed i h.1 ?_) (by decide)
      cases hl : (s.verd.seats.get i).lifecycle <;> simp_all
  · exact .refuse _

theorem answerProbeRead_answers (f : ReqFrame) : Answers s sw (answerProbeRead f s) := by
  refine .formEmpty f ?_
  split
  · exact .refuse _
  · rename_i b hb
    exact ⟨.probeFreed, fun h => by have := h.2 b hb; simp only [Answer.ok, b.bytes_length]; omega⟩
  · exact ⟨.probeFreed, fun _ => by simp⟩

theorem writeCal_answers (es : List CalEntry) (i : Seat) : Answers s sw (writeCal es i s) := by
  unfold writeCal
  split
  · exact .refuse _
  split
  · exact .refuse _
  split
  · rename_i hbusy hok
    simp only [Bool.not_eq_true, Bool.or_eq_false_iff] at hbusy
    exact .ok (.calWritten i es ((committing_false_iff _).1 hbusy.1) hok) (by decide)
  · exact .refuse _

theorem answerCalWrite_answers (f : ReqFrame) : Answers s sw (answerCalWrite f s) := by
  unfold answerCalWrite
  split
  · split
    · exact .seatArg _ fun i => writeCal_answers _ i
    · exact .refuse _
  · exact .refuse _

theorem readCal_answers (i : Seat) : Answers s sw (readCal i s) := by
  refine .ok .same ?_
  have h := flatMap_length_const (fun n => calGroup ((s.feat.cal.get i).get n) (s.cmap.cellFitted i n)) 3 (fun _ => rfl)
  simp [h, captureBytes_length]

theorem openCapture_answers (i : Seat) : Answers s sw (openCapture i s) := by
  unfold openCapture
  split
  · exact .refuse _
  split
  · exact .refuse _
  split
  · exact .refuse _
  · rename_i hbusy hstate
    simp only [Bool.not_eq_true, Bool.or_eq_false_iff] at hbusy
    simp only [not_or, not_not] at hstate
    refine .ok (.captureOpened i ((committing_false_iff _).1 hbusy.2) hstate.1 ?_) (by decide)
    cases h : s.ret.ignition
    · exact absurd h hstate.2
    · rfl

theorem answerSeatSummary_answers (f : ReqFrame) : Answers s sw (answerSeatSummary f s) := by
  refine .formEmpty f (.ok .same ?_)
  rw [flatMap_length_const _ 2 (fun _ => rfl)]
  simp [allSeats]

theorem readSeat_answers (i : Seat) : Answers s sw (readSeat i s) := .ok .same (by rw [detailBytes_length]; decide)

theorem reportSpeed_answers (b : Byte) : Answers s sw (reportSpeed b s) :=
  .ok (.speedReported b) (by simp [Summary.setBytes])

theorem answerReminderSet_answers (f : ReqFrame) : Answers s sw (answerReminderSet f s) := by
  unfold answerReminderSet
  split
  · exact .guardCommit _ fun hidle => .ok (.remindersSet _ hidle) (by simp [ReminderSettings.bytes])
  · exact .refuse _

theorem readCabin_answers (half : Byte) : Answers s sw (readCabin half s) := by
  unfold readCabin
  split
  · exact .refuse _
  · exact .ok .same (cabinBody_length_le ..)

theorem answerRetention_answers (f : ReqFrame) : Answers s sw (answerRetention f s) := by
  unfold answerRetention
  split
  · exact .ok .same (by rw [retentionReport_length]; decide)
  · exact .guardCommit _ fun hidle => .ok (.retainSet _ hidle) (by rw [retentionReport_length]; decide)
  · exact .refuse _

theorem protect_answers (b : Byte) : Answers s true (protect b s) := by
  unfold protect
  dsimp only
  split
  · exact .refuse _
  split
  · exact .ok .same (by simp)
  split
  · exact .refuse _
  · rename_i hc
    exact .ok (.switchesBarred _ ((committing_false_iff _).1 (by simpa using hc))) (by simp)

theorem answerProtectionClear_answers (f : ReqFrame) : Answers s true (answerProtectionClear f s) :=
  .formEmpty f (.guardCommit _ fun hidle => ⟨.cleared hidle, fun _ => by simp⟩)

/-! ### Any request -/

theorem answerIdentify_answers (f : ReqFrame) : Answers s sw (answerIdentify f s) := .formEmpty f (.ok .same (by simp))

theorem answerStatus_answers (f : ReqFrame) : Answers s sw (answerStatus f s) :=
  .formEmpty f (.ok .same (by simp [statusBody]))

theorem answerRestart_answers (f : ReqFrame) : Answers s sw (answerRestart f s) :=
  .formEmpty f ⟨.same, fun _ => by simp⟩

theorem answerNoticeFetch_answers (f : ReqFrame) : Answers s sw (answerNoticeFetch f s) :=
  .formByte f fetchNotices_answers

theorem answerNoticeLevelSet_answers (f : ReqFrame) : Answers s sw (answerNoticeLevelSet f s) :=
  .formByte f setLevel_answers

theorem answerMapRead_answers (f : ReqFrame) : Answers s sw (answerMapRead f s) := .formByte f readMap_answers

theorem answerSeatProbe_answers (f : ReqFrame) : Answers s sw (answerSeatProbe f s) := .formSeat f probeSeat_answers

theorem answerCalRead_answers (f : ReqFrame) : Answers s sw (answerCalRead f s) := .formSeat f readCal_answers

theorem answerZeroCapture_answers (f : ReqFrame) : Answers s sw (answerZeroCapture f s) :=
  .formSeat f openCapture_answers

theorem answerSeatDetail_answers (f : ReqFrame) : Answers s sw (answerSeatDetail f s) := .formSeat f readSeat_answers

theorem answerVehicleState_answers (f : ReqFrame) : Answers s sw (answerVehicleState f s) :=
  .formByte f reportSpeed_answers

theorem answerCabinReminder_answers (f : ReqFrame) : Answers s sw (answerCabinReminder f s) :=
  .formByte f readCabin_answers

theorem answerAdvisoryRead_answers (f : ReqFrame) : Answers s sw (answerAdvisoryRead f s) :=
  .formEmpty f (.ok .mailboxRead (by rw [advisoryBody_length]; decide))

theorem answerProtectSet_answers (f : ReqFrame) : Answers s true (answerProtectSet f s) := .formByte f protect_answers

theorem Answers.ite {p : Prop} [Decidable p] {a b : Answer} (ha : Answers s sw a) (hb : Answers s sw b) :
    Answers s sw (if p then a else b) := by
  split
  · exact ha
  · exact hb

/-- Whatever the CODE, the answer is one of the above. -/
theorem requestAnswer_answers (code : Byte) (f : ReqFrame) : Answers s true (requestAnswer code f s) := by
  unfold requestAnswer
  exact .ite (answerIdentify_answers f) <| .ite (answerStatus_answers f) <| .ite (answerRestart_answers f) <|
    .ite (answerNoticeFetch_answers f) <| .ite (answerNoticeLevelSet_answers f) <| .ite (answerMapWrite_answers f _) <|
    .ite (answerMapRead_answers f) <| .ite (answerProfileWrite_answers _) <| .ite (answerScanTimingSet_answers f) <|
    .ite (answerScanStatus_answers f) <| .ite (answerSeatProbe_answers f) <| .ite (answerProbeRead_answers f) <|
    .ite (answerCalWrite_answers f) <| .ite (answerCalRead_answers f) <| .ite (answerZeroCapture_answers f) <|
    .ite (answerSeatSummary_answers f) <| .ite (answerSeatDetail_answers f) <| .ite (answerVehicleState_answers f) <|
    .ite (answerReminderSet_answers f) <| .ite (answerCabinReminder_answers f) <| .ite (answerAdvisoryRead_answers f) <|
    .ite (answerRetention_answers f) <| .ite (answerProtectSet_answers f) <| .ite (answerProtectionClear_answers f) <|
    .refuse _

end Sys2Proof.Machine

/-! SUPPORT. What a command leaves, command by command, with the guard under which it leaves it. -/

namespace Sys2Proof.Machine

open Sys2Proof.Safety

/-! ## The state that an owner is handed, and the reply under way -/

/-- The state that LNK hands to the owner of a request: the transfer closed unless it is a MAP WRITE, the receiver hunting
when the frame came over RXD (R150, R158). -/
inductive Handed (s : State) : State → Prop
  | asked : Handed s s
  | closing : Handed s (closeTransfer s)
  | received : Handed s (hunting s)
  | receivedClosing : Handed s (closeTransfer (hunting s))

/-- The state once an owner has answered: its reply is under way (R153). -/
def replying (code : Byte) (a : Answer) : State :=
  { a.state with lnk := { a.state.lnk with
      dispatch := .handling { code := code, status := a.status, body := a.body, nChild := a.nChild } a.restart } }

theorem takeRequest_cases (code : Byte) (owner : State → Answer) (s : State) :
    takeRequest code owner s = s ∨
      Ready s ∧ (takeRequest code owner s = replying code (owner s) ∨
        takeRequest code owner s = replying code (owner (closeTransfer s))) := by
  by_cases h : Ready s
  · refine .inr ⟨h, ?_⟩
    by_cases hc : code = mapWriteCode
    · subst hc; exact .inl (takeRequest_mapWrite owner s h)
    · exact .inr (takeRequest_taken code owner s h hc)
  · exact .inl (takeRequest_discarded code owner s h)

/-! ## Commands -/

/-- What a command leaves. The command is named where a statement speaks of it. -/
inductive Does (s : State) : Instr → State → Prop
  | nothing {c} : Does s c s
  | reset : Does s .fullReset (fullReset s)
  | loaded (straps : BitVec 2) (h : s.store.loading = true) : Does s (.storeLoadComplete straps) (loadCompletes straps s)
  | ignLine {c} (level : Bool) : Does s c (ignLine level s)
  | doorLine {c} (d : Door) (level : Bool) : Does s c (doorLine d level s)
  | rowLine {c} (line : Line) (level : Bool) : Does s c { s with
      pins := { s.pins with rowp := s.pins.rowp.set line level }, cmap := s.cmap.lineChanged line level }
  | turnedOff {c} (h : s.ret.ignition = .on) : Does s c (ignitionOff s)
  | turnedOn (hdebounce : s.ret.ignDebounce = true) (h : s.ret.ignition = .off) : Does s .ignitionOn (ignitionOn s)
  | doorMoved {c} (d : Door) (isOpen : Bool) : Does s c (doorChanges d isOpen s)
  | doorDiscards {c} (d : Door) (h : s.ret.ignition = .off) :
      Does s c (postEvent (discardSnapshots (.door d) (s.cmap.behindDoor d) (doorChanges d true s)))
  | rowIn {c} (r : Row) (hvalid : s.cmap.valid = true) (h : s.cmap.rowState.get r = .removed) : Does s c (installRow r s)
  | rowOut {c} (r : Row) (hvalid : s.cmap.valid = true) (h : s.cmap.rowState.get r = .installed) : Does s c (removeRow r s)
  | intervalExpired {c} : Does s c (intervalExpires s)
  | settled {c} : Does s c (settleEnds s)
  | converted {c} (raw : BitVec 12) (anch : BitVec 8) : Does s c (conversionCompletes raw anch s)
  | markerWaited {c} : Does s c (pushWaiting s)
  | entryDone {c} : Does s c (entryCompletes s)
  | markerTaken {c} : Does s c (takeBlocked s)
  | frameDone {c} : Does s c (frameFinishes s)
  | handled : Does s .frameHandlingComplete (frameHandled s)
  | remStepped {c} : Does s c (postEvent (timerStep s))
  | startExpired {c} : Does s c (postEvent (startIntervalExpires s))
  | visualExpired {c} (i : Seat) : Does s c (postEvent (visualExpires i s))
  | budgetExpired {c} (i : Seat) : Does s c (postEvent (budgetExpires i s))
  | speedLost {c} : Does s c (speedChanges none false s)
  | retentionExpired {c} : Does s c (retentionExpires s)
  | committed (passes : Bool) : Does s (.commitComplete passes) (commitCompletes passes s)
  | clearCommitted (passes : BitVec 6) : Does s (.clearCommitComplete passes) (clearCompletes passes s)
  | frameStarted {c} (hload : s.store.loading = false) : Does s c { s with lnk := { s.lnk with
      rxState := .length, rxLen := 0, rxBuf := [], rxCheck := 0, interByte := true } }
  | lengthTaken {c} (b : Byte) (hload : s.store.loading = false) (h : s.lnk.rxState = .length)
      (hmin : 1 ≤ b.toNat) (hmax : b.toNat ≤ 57) :
      Does s c { s with lnk := { s.lnk with rxState := .body, rxLen := b, interByte := true } }
  | byteTaken {c} (b : Byte) (hload : s.store.loading = false) (h : s.lnk.rxState = .body) :
      Does s c { s with lnk := { s.lnk with
        rxBuf := s.lnk.rxBuf ++ [b], interByte := true
        rxState := if s.lnk.rxLen.toNat ≤ (s.lnk.rxBuf ++ [b]).length then .check else .body } }
  | checkTaken {c} (b : Byte) (hload : s.store.loading = false) (h : s.lnk.rxState = .check) :
      Does s c { s with lnk := { s.lnk with rxCheck := b, rxState := .end_, interByte := true } }
  | linkFailed {c} (st : Status) (code : Byte) (hload : s.store.loading = false) : Does s c (linkError st code s)
  | frameDropped {c} : Does s c (hunting s)
  | timedOut {c} : Does s c (interByteExpires s)
  | replyLeft {c} : Does s c { s with lnk := { s.lnk with dispatch := .idle } }
  | restarted {c} (h : s.lnk.dispatch ≠ .idle) :
      Does s c { restartBlocks s with lnk := { (restartBlocks s).lnk with dispatch := .idle } }
  | silenced {c} : Does s c (closeTransfer s)
  | answered {c v sw a} (code : Byte) (hready : Ready s) (hv : Handed s v) (ha : Answers v sw a)
      (hsw : sw = true → touchesSwitches c = true) : Does s c (replying code a)

variable {s : State}

/-- A request command leaves what its owner answers, or has no effect. -/
theorem takeRequest_does {c : Instr} {sw : Bool} (code : Byte) {owner : State → Answer}
    (h : ∀ v, Answers v sw (owner v)) (hsw : sw = true → touchesSwitches c = true) :
    Does s c (takeRequest code owner s) := by
  rcases takeRequest_cases code owner s with hs | ⟨hready, ht | ht⟩
  · rw [hs]; exact .nothing
  · rw [ht]; exact .answered code hready .asked (h _) hsw
  · rw [ht]; exact .answered code hready .closing (h _) hsw

theorem ite_does {c : Instr} {p : Prop} [Decidable p] {t : State} (h : p → Does s c t) :
    Does s c (if p then t else s) := by
  split
  · exact h ‹_›
  · exact .nothing

/-- The end of a frame: a link error, or the request that its CODE names (R151). -/
theorem frameEnds_does (b b' : Byte) (hload : s.store.loading = false) : Does s (.receiveByte b') (frameEnds b s) := by
  unfold frameEnds
  split
  · exact .linkFailed _ _ hload
  split
  · exact .linkFailed _ _ hload
  · rcases takeRequest_cases s.lnk.rxCode (requestAnswer s.lnk.rxCode (s.lnk.rxFrame b)) (hunting s) with hs | ⟨hr, ht | ht⟩
    · exact hs ▸ .frameDropped
    · exact ht ▸ .answered _ hr .received (requestAnswer_answers ..) fun _ => rfl
    · exact ht ▸ .answered _ hr .receivedClosing (requestAnswer_answers ..) fun _ => rfl

theorem receive_does (b : Byte) : Does s (.receiveByte b) (receive b s) := by
  unfold receive
  split
  · exact .nothing
  rename_i hload
  rw [Bool.not_eq_true] at hload
  split
  · exact ite_does fun _ => .frameStarted hload
  · rename_i hrx
    split
    · rename_i hb; exact .lengthTaken b hload hrx hb.1 hb.2
    · exact .linkFailed _ _ hload
  · rename_i hrx; exact .byteTaken b hload hrx
  · rename_i hrx; exact .checkTaken b hload hrx
  · exact frameEnds_does b b hload

theorem replyLeaves_does {c : Instr} : Does s c (replyLeaves s) := by
  unfold replyLeaves
  split
  · exact .nothing
  · rename_i r restart h
    cases restart
    · exact .replyLeft
    · exact .restarted (by simp [h])

theorem doorOpen_does {c : Instr} (d : Door) :
    Does s c (if s.ret.doorDebounce.get d = true ∧ s.ret.doorOpen.get d = false then
      if s.ret.ignition = .off then
        postEvent (discardSnapshots (.door d) (s.cmap.behindDoor d) (doorChanges d true s))
      else doorChanges d true s
    else s) := by
  refine ite_does fun _ => ?_
  split
  · exact .doorDiscards d ‹_›
  · exact .doorMoved d true

/-- Every command leaves one of these states: the outcome is never a fault or a refusal. -/
theorem exec_does (c : Instr) (s : State) : ∃ t, exec c s = .next t ∧ Does s c t := by
  cases c with
  | fullReset => exact ⟨_, rfl, .reset⟩
  | storeLoadComplete straps =>
    refine ⟨loadCompletes straps s, rfl, ?_⟩
    by_cases h : s.store.loading = true
    · exact .loaded straps h
    · rw [loadCompletes, if_neg h]; exact .nothing
  | ignLineChange level => exact ⟨_, rfl, .ignLine level⟩
  | ignitionOff => exact ⟨_, rfl, ite_does fun h => .turnedOff h.2⟩
  | ignitionOn => exact ⟨_, rfl, ite_does fun h => .turnedOn h.1 h.2⟩
  | doorLineChange d level => exact ⟨_, rfl, .doorLine d level⟩
  | doorOpen d => exact ⟨_, rfl, doorOpen_does d⟩
  | doorClosed d => exact ⟨_, rfl, ite_does fun _ => .doorMoved d false⟩
  | rowpLineChange line level => exact ⟨_, rfl, .rowLine line level⟩
  | rowInstalled r => exact ⟨_, rfl, ite_does fun h => .rowIn r h.1 h.2.2⟩
  | rowRemoved r => exact ⟨_, rfl, ite_does fun h => .rowOut r h.1 h.2.2⟩
  | intervalExpiry => exact ⟨_, rfl, .intervalExpired⟩
  | settleEnd => exact ⟨_, rfl, .settled⟩
  | conversionComplete raw anch => exact ⟨_, rfl, .converted raw anch⟩
  | markerPushed => exact ⟨_, rfl, .markerWaited⟩
  | entryComplete => exact ⟨_, rfl, .entryDone⟩
  | blockedMarkerTake => exact ⟨_, rfl, .markerTaken⟩
  | frameFinish => exact ⟨_, rfl, .frameDone⟩
  | frameHandlingComplete => exact ⟨_, rfl, .handled⟩
  | remTimerStep => exact ⟨_, rfl, .remStepped⟩
  | startIntervalExpiry => exact ⟨_, rfl, .startExpired⟩
  | visualTimerExpiry i => exact ⟨_, rfl, .visualExpired i⟩
  | chimeBudgetExpiry i => exact ⟨_, rfl, .budgetExpired i⟩
  | freshnessExpiry => exact ⟨_, rfl, ite_does fun _ => .speedLost⟩
  | retentionTimerExpiry =>
    refine ⟨_, rfl, ?_⟩
    split
    · exact ite_does fun _ => .retentionExpired
    · exact .nothing
  | commitComplete passes => exact ⟨_, rfl, .committed passes⟩
  | clearCommitComplete passes => exact ⟨_, rfl, .clearCommitted passes⟩
  | receiveByte b => exact ⟨_, rfl, receive_does b⟩
  | interByteTimeout => exact ⟨_, rfl, .timedOut⟩
  | replyComplete => exact ⟨_, rfl, replyLeaves_does⟩
  | transferInactivityExpiry => exact ⟨_, rfl, .silenced⟩
  | unknownRequest code f => exact ⟨_, rfl, takeRequest_does code (fun _ => requestAnswer_answers code f) fun _ => rfl⟩
  | identify f => exact ⟨_, rfl, takeRequest_does _ (sw := false) (fun _ => answerIdentify_answers f) nofun⟩
  | status f => exact ⟨_, rfl, takeRequest_does _ (sw := false) (fun _ => answerStatus_answers f) nofun⟩
  | restart f => exact ⟨_, rfl, takeRequest_does _ (sw := false) (fun _ => answerRestart_answers f) nofun⟩
  | noticeFetch f => exact ⟨_, rfl, takeRequest_does _ (sw := false) (fun _ => answerNoticeFetch_answers f) nofun⟩
  | noticeLevelSet f => exact ⟨_, rfl, takeRequest_does _ (sw := false) (fun _ => answerNoticeLevelSet_answers f) nofun⟩
  | mapWriteOpen records final => exact ⟨_, rfl, takeRequest_does _ (sw := false) (fun _ => answerMapWrite_answers _ _) nofun⟩
  | mapWriteContinue part records final =>
    exact ⟨_, rfl, takeRequest_does _ (sw := false) (fun _ => answerMapWrite_answers _ _) nofun⟩
  | mapWriteFinal part => exact ⟨_, rfl, takeRequest_does _ (sw := false) (fun _ => answerMapWrite_answers _ _) nofun⟩
  | mapRead f => exact ⟨_, rfl, takeRequest_does _ (sw := false) (fun _ => answerMapRead_answers f) nofun⟩
  | profileWrite f => exact ⟨_, rfl, takeRequest_does _ (sw := false) (fun _ => answerProfileWrite_answers f) nofun⟩
  | scanTimingSet f => exact ⟨_, rfl, takeRequest_does _ (sw := false) (fun _ => answerScanTimingSet_answers f) nofun⟩
  | scanStatus f => exact ⟨_, rfl, takeRequest_does _ (sw := false) (fun _ => answerScanStatus_answers f) nofun⟩
  | seatProbe f => exact ⟨_, rfl, takeRequest_does _ (sw := false) (fun _ => answerSeatProbe_answers f) nofun⟩
  | probeRead f => exact ⟨_, rfl, takeRequest_does _ (sw := false) (fun _ => answerProbeRead_answers f) nofun⟩
  | calWrite f => exact ⟨_, rfl, takeRequest_does _ (sw := false) (fun _ => answerCalWrite_answers f) nofun⟩
  | calRead f => exact ⟨_, rfl, takeRequest_does _ (sw := false) (fun _ => answerCalRead_answers f) nofun⟩
  | zeroCapture f => exact ⟨_, rfl, takeRequest_does _ (sw := false) (fun _ => answerZeroCapture_answers f) nofun⟩
  | seatSummary f => exact ⟨_, rfl, takeRequest_does _ (sw := false) (fun _ => answerSeatSummary_answers f) nofun⟩
  | seatDetail f => exact ⟨_, rfl, takeRequest_does _ (sw := false) (fun _ => answerSeatDetail_answers f) nofun⟩
  | vehicleState f => exact ⟨_, rfl, takeRequest_does _ (sw := false) (fun _ => answerVehicleState_answers f) nofun⟩
  | reminderSet f => exact ⟨_, rfl, takeRequest_does _ (sw := false) (fun _ => answerReminderSet_answers f) nofun⟩
  | cabinReminder f => exact ⟨_, rfl, takeRequest_does _ (sw := false) (fun _ => answerCabinReminder_answers f) nofun⟩
  | advisoryRead f => exact ⟨_, rfl, takeRequest_does _ (sw := false) (fun _ => answerAdvisoryRead_answers f) nofun⟩
  | retentionSet f => exact ⟨_, rfl, takeRequest_does _ (sw := false) (fun _ => answerRetention_answers f) nofun⟩
  | retentionRead final => exact ⟨_, rfl, takeRequest_does _ (sw := false) (fun _ => answerRetention_answers _) nofun⟩
  | protectSet f => exact ⟨_, rfl, takeRequest_does _ (fun _ => answerProtectSet_answers f) fun _ => rfl⟩
  | protectionClear f => exact ⟨_, rfl, takeRequest_does _ (fun _ => answerProtectionClear_answers f) fun _ => rfl⟩

theorem does_of_exec {c : Instr} {t : State} (h : exec c s = .next t) : Does s c t := by
  obtain ⟨u, hu, hd⟩ := exec_does c s
  rw [h] at hu
  cases hu
  exact hd

end Sys2Proof.Machine

/-! SUPPORT. The blocks that an operation leaves alone: the operations of SCAN and FEAT, and what moves neither the Seat
Table, the reminders, the advisories nor the snapshots. -/

namespace Sys2Proof.Machine

open Sys2Proof.Safety

/-! ## Operations of SCAN -/

/-- From `s` to `t` only SCAN, FEAT's intake and the anchor levels have moved; the scan timing stands, and the probe slot is
not filled. -/
structure ScanMoves (s t : State) : Prop where
  frame : t = { s with
    scan := t.scan, feat := { s.feat with intake := t.feat.intake }, pins := { s.pins with anch := t.pins.anch } }
  timing : t.scan.timing = s.scan.timing
  probe : ∀ b, t.scan.probe = .filled b → s.scan.probe = .filled b

variable {s t u : State}

theorem ScanMoves.refl (s : State) : ScanMoves s s := ⟨rfl, rfl, fun _ h => h⟩

theorem ScanMoves.trans (h : ScanMoves s t) (k : ScanMoves t u) : ScanMoves s u :=
  ⟨by rw [k.frame, h.frame], k.timing.trans h.timing, fun b hb => h.probe b (k.probe b hb)⟩

/-- SCAN alone has moved. -/
theorem ScanMoves.scan (c : Scan) (htiming : c.timing = s.scan.timing)
    (hprobe : ∀ b, c.probe = .filled b → s.scan.probe = .filled b) : ScanMoves s { s with scan := c } :=
  ⟨rfl, htiming, hprobe⟩

theorem proceeds_timing (st : SeatStep) (s : State) : (proceeds st s).timing = s.scan.timing := by
  unfold proceeds
  split
  · split
    · split <;> rfl
    · rfl
    · rfl
  split
  · split <;> rfl
  · split <;> rfl

theorem proceeds_probe (st : SeatStep) (s : State) (b : ProbeBuffer) (h : (proceeds st s).probe = .filled b) :
    s.scan.probe = .filled b := by
  revert h
  unfold proceeds
  split
  · split
    · split <;> exact id
    · exact id
    · exact id
  split
  · split
    · exact nofun
    all_goals exact id
  · split <;> exact id

theorem markerIn_scanMoves (st : SeatStep) (m : Marker) (s : State) : ScanMoves s (markerIn st m s) :=
  ⟨rfl, proceeds_timing st s, proceeds_probe st s⟩

theorem marked_scanMoves (st : SeatStep) (s : State) : ScanMoves s (marked st s) := by
  simp only [marked]
  split
  · exact markerIn_scanMoves ..
  · exact .scan _ rfl fun _ h => h

theorem withStep_scanMoves (st : SeatStep) (s : State) : ScanMoves s (s.withStep st) := .scan _ rfl fun _ h => h

theorem beginSeat_scanMoves (i : Seat) (s : State) : ScanMoves s (beginSeat i s) := .scan _ rfl fun _ h => h

theorem formMarker_scanMoves (st : SeatStep) (s : State) : ScanMoves s (formMarker st s) :=
  formMarker_eq st s ▸ marked_scanMoves st s

theorem cutShort_scanMoves (s : State) : ScanMoves s (cutShort s) := by
  unfold cutShort
  split
  · split
    · exact formMarker_scanMoves ..
    · exact withStep_scanMoves ..
    · exact withStep_scanMoves ..
  · exact .refl s

theorem startPass_scanMoves (s : State) : ScanMoves s (startPass s) := by
  unfold startPass
  split
  · exact .refl s
  · exact ScanMoves.trans (t := { s with scan := { s.scan with state := .pass, visited := [], rest := _ } })
      (.scan _ rfl fun _ h => h) (beginSeat_scanMoves ..)

theorem intervalExpires_scanMoves (s : State) : ScanMoves s (intervalExpires s) := by
  unfold intervalExpires
  split
  · exact .refl s
  have hload : ScanMoves s { s with scan := { s.scan with interval := some s.scan.timing.interval } } :=
    .scan _ rfl fun _ h => h
  dsimp only
  split
  · exact hload.trans (startPass_scanMoves _)
  · exact hload.trans (.scan _ rfl fun _ h => h)
  · exact hload

theorem settleEnds_scanMoves (s : State) : ScanMoves s (settleEnds s) := by
  unfold settleEnds
  split
  · split
    · split
      · exact formMarker_scanMoves ..
      · exact withStep_scanMoves ..
    · exact .refl s
  · exact .refl s

theorem sampled_scanMoves (st : SeatStep) (ch : Channel) (raw : BitVec 12) (s : State) :
    ScanMoves s (sampled st ch raw s) := by
  unfold sampled
  split
  · exact ⟨rfl, rfl, fun _ h => h⟩
  · exact .refl s

theorem nextConversion_scanMoves (st : SeatStep) (s : State) : ScanMoves s (nextConversion st s) := by
  unfold nextConversion
  split
  · exact formMarker_scanMoves ..
  · split
    · exact .scan _ rfl fun _ h => h
    · exact withStep_scanMoves ..

theorem conversionCompletes_scanMoves (raw : BitVec 12) (anch : BitVec 8) (s : State) :
    ScanMoves s (conversionCompletes raw anch s) := by
  unfold conversionCompletes
  split
  · split
    · have hlevels : ScanMoves s { s with pins := { s.pins with anch := anch } } := ⟨rfl, rfl, fun _ h => h⟩
      dsimp only
      split
      · exact hlevels.trans (formMarker_scanMoves ..)
      · rw [deliver_eq]
        exact (hlevels.trans (sampled_scanMoves ..)).trans (nextConversion_scanMoves ..)
    · exact .refl s
  · exact .refl s

theorem pushWaiting_scanMoves (s : State) : ScanMoves s (pushWaiting s) := by
  unfold pushWaiting
  split
  · split
    · split
      · exact .refl s
      · rw [afterMarker_push]; exact markerIn_scanMoves ..
    · exact .refl s
  · exact .refl s

theorem cancelProbe_scanMoves (c : CancelCause) (s : State) : ScanMoves s (cancelProbe c s) := .scan _ rfl nofun

/-- SCAN once a probe armed for timed passes is cancelled by ignition OFF (R36). -/
def timedProbeCancelled (s : State) : State :=
  match s.scan.probe with
  | .armed _ .timed => cancelProbe .ignition s
  | _ => s

theorem scanIgnitionOff_eq (s : State) :
    scanIgnitionOff s =
      match (timedProbeCancelled s).scan.state with
      | .waiting => { timedProbeCancelled s with scan := (timedProbeCancelled s).scan.atRest .stopped none }
      | .pass => cutShort { timedProbeCancelled s with
          scan := { (timedProbeCancelled s).scan with interval := none, closing := true } }
      | _ => timedProbeCancelled s := rfl

theorem timedProbeCancelled_scanMoves (s : State) : ScanMoves s (timedProbeCancelled s) := by
  unfold timedProbeCancelled
  split
  · exact cancelProbe_scanMoves ..
  · exact .refl s

theorem scanIgnitionOff_scanMoves (s : State) : ScanMoves s (scanIgnitionOff s) := by
  have hprobe := timedProbeCancelled_scanMoves s
  rw [scanIgnitionOff_eq]
  split
  · exact hprobe.trans (.scan _ rfl fun _ h => h)
  · refine hprobe.trans (ScanMoves.trans ?_ (cutShort_scanMoves _))
    exact .scan _ rfl fun _ h => h
  · exact hprobe

theorem scanIgnitionOn_scanMoves (s : State) : ScanMoves s (scanIgnitionOn s) := by
  unfold scanIgnitionOn
  split
  · exact .scan _ rfl fun _ h => h
  · exact .refl s

/-- SCAN once a removed row's probe is cancelled and its later seats have left the pass (R31, R36). -/
def rowLeavesScan (r : Row) (s : State) : State :=
  let c : State := match s.scan.probe.seat with
    | some i => if s.cmap.inRow r i then cancelProbe .row s else s
    | none => s
  { c with scan := { c.scan with rest := c.scan.rest.filter fun i => !s.cmap.inRow r i } }

theorem scanRowRemoved_eq (r : Row) (s : State) :
    scanRowRemoved r s =
      match (rowLeavesScan r s).scan.step with
      | some st => if s.cmap.inRow r st.seat then cutShort (rowLeavesScan r s) else rowLeavesScan r s
      | none => rowLeavesScan r s := rfl

theorem rowLeavesScan_scanMoves (r : Row) (s : State) : ScanMoves s (rowLeavesScan r s) := by
  simp only [rowLeavesScan]
  split
  · split
    · exact (cancelProbe_scanMoves ..).trans (.scan _ rfl fun _ h => h)
    · exact .scan _ rfl fun _ h => h
  · exact .scan _ rfl fun _ h => h

theorem scanRowRemoved_scanMoves (r : Row) (s : State) : ScanMoves s (scanRowRemoved r s) := by
  rw [scanRowRemoved_eq]
  split
  · split
    · exact (rowLeavesScan_scanMoves r s).trans (cutShort_scanMoves _)
    · exact rowLeavesScan_scanMoves r s
  · exact rowLeavesScan_scanMoves r s

theorem armProbe_eq (i : Seat) (s : State) :
    armProbe i s = { s with
      scan := (armProbe i s).scan
      feat := { s.feat with
        intake := if s.scan.serviceOf = .timed then s.feat.intake.probeArmed else s.feat.intake } } := by
  simp only [armProbe]
  split <;> rfl

/-! ## What moves no cabin record -/

/-- From `s` to `t` the map with its rows, the Seat Table but motion hold, the reminders, the advisories with their pairs,
the snapshots with their timer and the ignition state stand. -/
structure Quiet (s t : State) : Prop where
  cmap : t.cmap = { s.cmap with profiles := t.cmap.profiles }
  seats : ∀ i : Seat, t.verd.seats.get i =
    { s.verd.seats.get i with motionHold := (t.verd.seats.get i).motionHold }
  rem : t.rem = s.rem
  adv : t.adv = s.adv
  ignition : t.ret.ignition = s.ret.ignition
  snapshots : t.ret.snapshots = s.ret.snapshots
  timer : t.ret.timer = s.ret.timer
  sup : t.pins.sup = s.pins.sup
  pending : t.pending = s.pending

theorem Quiet.refl (s : State) : Quiet s s := ⟨rfl, fun _ => rfl, rfl, rfl, rfl, rfl, rfl, rfl, rfl⟩

theorem Quiet.trans (h : Quiet s t) (k : Quiet t u) : Quiet s u where
  cmap := by rw [k.cmap, h.cmap]
  seats i := by rw [k.seats i, h.seats i]
  rem := k.rem.trans h.rem
  adv := k.adv.trans h.adv
  ignition := k.ignition.trans h.ignition
  snapshots := k.snapshots.trans h.snapshots
  timer := k.timer.trans h.timer
  sup := k.sup.trans h.sup
  pending := k.pending.trans h.pending

theorem ScanMoves.quiet (h : ScanMoves s t) : Quiet s t := by
  rw [h.frame]; exact ⟨rfl, fun _ => rfl, rfl, rfl, rfl, rfl, rfl, rfl, rfl⟩

/-- Whatever stands in SCAN, FEAT, LNK, STORE and the handover slot. -/
theorem Quiet.blocks (scan : Scan) (feat : Feat) (slot : Option MatFrame) (lnk : Lnk) (store : Store) (attn : Bool)
    (free : Nat) : Quiet s { s with
      scan := scan, feat := feat, verd := { s.verd with slot := slot }, lnk := lnk, store := store
      pins := { s.pins with attn := attn }, free := free } :=
  ⟨rfl, fun _ => rfl, rfl, rfl, rfl, rfl, rfl, rfl, rfl⟩

theorem postAll_quiet (ns : List Notice) (s : State) : Quiet s (postAll ns s) := by
  refine ⟨?_, fun i => ?_, ?_, ?_, ?_, ?_, ?_, ?_, ?_⟩ <;> simp

theorem evaluateHold_quiet (s : State) : Quiet s (evaluateHold s) :=
  ⟨rfl, fun i => by simp, rfl, rfl, rfl, rfl, rfl, rfl, rfl⟩

theorem featLook_quiet (s : State) : Quiet s (featLook s) := by
  by_cases h : s.feat.intake = .idle
  · rw [featLook_idle s h]; exact .blocks _ _ _ _ _ _ _
  · rw [featLook_busy s h]; exact .refl s

theorem captureCommits_quiet (c : Capture) (o : Tab 16 Nat) (s : State) : Quiet s (captureCommits c o s) :=
  .blocks _ _ _ _ _ _ _

theorem closeCapture_quiet (s : State) : Quiet s (closeCapture s) := .blocks _ _ _ _ _ _ _

theorem post_quiet (n : Notice) (s : State) : Quiet s (post n s) := .blocks _ _ _ _ _ _ _

theorem captureEnds_quiet (c : Capture) (s : State) : Quiet s (captureEnds c s) := by
  simp only [captureEnds]
  split
  · exact (closeCapture_quiet s).trans (post_quiet ..)
  split
  · exact .blocks _ _ _ _ _ _ _
  · exact captureCommits_quiet ..

theorem captureOffer_quiet (before : Bool) (mk : Marker) (a : Accumulator) (s : State) :
    Quiet s (captureOffer before mk a s) := by
  unfold captureOffer
  split
  · split
    · dsimp only
      split
      · exact .blocks _ _ _ _ _ _ _
      · exact captureEnds_quiet ..
    · exact .refl s
  · exact .refl s

theorem entryCompletes_quiet (s : State) : Quiet s (entryCompletes s) := by
  unfold entryCompletes
  split
  · exact (Quiet.blocks _ _ _ _ _ _ _).trans (featLook_quiet _)
  · exact .refl s

theorem takeBlocked_quiet (s : State) : Quiet s (takeBlocked s) := by
  unfold takeBlocked
  split
  · split
    · exact (Quiet.blocks _ _ _ _ _ _ _).trans (featLook_quiet _)
    · exact .refl s
  · exact .refl s

/-- The features of a complete frame, with the profile in force (R50). -/
def featuresAt (s : State) (mk : Marker) (a : Accumulator) : Features :=
  featuresOf (s.cmap.seats.get mk.seat) (s.cmap.profileOf mk.seat) a

/-- FEAT's accumulator emptied, and a complete frame offered to the probe (R44, R45). -/
def frameOffered (before : Bool) (mk : Marker) (a : Accumulator) (s : State) : State :=
  let b := probeBufferOf (s.cmap.seats.get mk.seat) (featuresAt s mk a) a mk
  { s with
    feat := { s.feat with intake := .idle, acc := none }
    scan := { s.scan with probe := s.scan.probe.offer before b } }

/-- The handover slot after a complete frame: filled, unless its marker has the probe-only mark (R46). -/
def frameInSlot (s : State) (mk : Marker) (a : Accumulator) (slot : Option MatFrame) : Option MatFrame :=
  if mk.probeOnly then slot else some (matFrameOf (featuresAt s mk a) a mk)

theorem frameFinishes_torn {mk : Marker} {bp bc : Bool} (h : s.feat.intake = .finishing mk bp bc)
    (hc : completeFrame s.feat.acc s.cmap.seats mk = none) :
    frameFinishes s = featLook { s with
      feat := { s.feat with intake := .idle, acc := none }, scan := { s.scan with tornFlag := true } } := by
  simp only [frameFinishes, h, hc]

theorem frameFinishes_complete {mk : Marker} {bp bc : Bool} {a : Accumulator} (h : s.feat.intake = .finishing mk bp bc)
    (hc : completeFrame s.feat.acc s.cmap.seats mk = some a) :
    frameFinishes s = featLook { captureOffer bc mk a (frameOffered bp mk a s) with
      verd := { (captureOffer bc mk a (frameOffered bp mk a s)).verd with
        slot := frameInSlot s mk a (captureOffer bc mk a (frameOffered bp mk a s)).verd.slot } } := by
  simp only [frameFinishes, h, hc, frameInSlot]
  cases mk.probeOnly <;> rfl

theorem frameFinishes_idle (h : ∀ mk bp bc, s.feat.intake ≠ .finishing mk bp bc) : frameFinishes s = s := by
  unfold frameFinishes
  split
  · rename_i hi; exact absurd hi (h _ _ _)
  · rfl

theorem frameFinishes_quiet (s : State) : Quiet s (frameFinishes s) := by
  by_cases h : ∃ mk bp bc, s.feat.intake = .finishing mk bp bc
  · obtain ⟨mk, bp, bc, h⟩ := h
    rcases hc : completeFrame s.feat.acc s.cmap.seats mk with _ | a
    · rw [frameFinishes_torn h hc]
      exact (Quiet.blocks ..).trans (featLook_quiet _)
    · rw [frameFinishes_complete h hc]
      have hoffer : Quiet s (frameOffered bp mk a s) := .blocks ..
      exact ((hoffer.trans (captureOffer_quiet ..)).trans (.blocks ..)).trans (featLook_quiet _)
  · push Not at h
    rw [frameFinishes_idle h]
    exact .refl s

theorem releaseCapture_quiet (s : State) : Quiet s (releaseCapture s) := by
  unfold releaseCapture
  split
  · split
    · exact captureCommits_quiet ..
    · exact .refl s
  · exact .refl s

theorem finishCapture_quiet (passes : Bool) (s : State) : Quiet s (finishCapture passes s) := by
  unfold finishCapture
  split
  · split
    · split
      · exact (closeCapture_quiet s).trans (post_quiet ..)
      · exact closeCapture_quiet s
    · exact .refl s
  · exact .refl s

theorem commitCompletes_quiet (passes : Bool) (s : State) : Quiet s (commitCompletes passes s) := by
  unfold commitCompletes
  split
  · refine Quiet.trans ?_ (releaseCapture_quiet _)
    dsimp only
    split
    · exact ((Quiet.blocks _ _ _ _ _ _ _).trans (post_quiet _ _)).trans (finishCapture_quiet _ _)
    · exact (Quiet.blocks _ _ _ _ _ _ _).trans (post_quiet _ _)
  · exact .refl s

theorem clearCompletes_quiet (passes : BitVec 6) (s : State) : Quiet s (clearCompletes passes s) := by
  unfold clearCompletes
  dsimp only
  split
  · exact ((Quiet.blocks _ _ _ _ _ _ _).trans (postAll_quiet _ _)).trans (releaseCapture_quiet _)
  · exact .refl s

theorem linkError_quiet (st : Status) (code : Byte) (s : State) : Quiet s (linkError st code s) := by
  simp only [linkError]
  split
  · exact .blocks _ _ _ _ _ _ _
  · exact .blocks _ _ _ _ _ _ _

theorem interByteExpires_quiet (s : State) : Quiet s (interByteExpires s) := by
  unfold interByteExpires
  split
  · exact .blocks _ _ _ _ _ _ _
  · exact .refl s

theorem ignLine_quiet (level : Bool) (s : State) : Quiet s (ignLine level s) := by
  simp only [ignLine]
  split <;> exact ⟨rfl, fun _ => rfl, rfl, rfl, rfl, rfl, rfl, rfl, rfl⟩

theorem doorLine_quiet (d : Door) (level : Bool) (s : State) : Quiet s (doorLine d level s) := by
  simp only [doorLine]
  split <;> exact ⟨rfl, fun _ => rfl, rfl, rfl, rfl, rfl, rfl, rfl, rfl⟩

theorem doorChanges_quiet (d : Door) (isOpen : Bool) (s : State) : Quiet s (doorChanges d isOpen s) :=
  Quiet.trans (t := { s with ret := s.ret.doorSettles d isOpen })
    ⟨rfl, fun _ => rfl, rfl, rfl, rfl, rfl, rfl, rfl, rfl⟩ (evaluateHold_quiet _)

theorem handed_quiet {v : State} (h : Handed s v) : Quiet s v := by
  cases h <;> exact .blocks _ _ _ _ _ _ _

theorem replying_quiet (code : Byte) (a : Answer) : Quiet a.state (replying code a) := .blocks _ _ _ _ _ _ _

end Sys2Proof.Machine

/-! SUPPORT. The frames of REM's and ADV's operations, and of the events that reach every block; then the three statements on
every command: it answers a next state and keeps the queue (O52), it confirms no verdict but at a frame or a resume (O59),
and it moves the store only by its own completions (O60). -/

namespace Sys2Proof.Machine

open Sys2Proof.Safety

variable {s t u : State}

/-! ## Operations of REM -/

/-- From `s` to `t` only REM has moved. -/
def RemMoves (s t : State) : Prop := t = { s with rem := t.rem }

theorem RemMoves.refl (s : State) : RemMoves s s := rfl

theorem RemMoves.trans (h : RemMoves s t) (k : RemMoves t u) : RemMoves s u := by
  unfold RemMoves at *
  rw [k, h]

theorem RemMoves.rem (r : Rem) : RemMoves s { s with rem := r } := rfl

theorem RemMoves.cmap (h : RemMoves s t) : t.cmap = s.cmap := by rw [h]
theorem RemMoves.scan (h : RemMoves s t) : t.scan = s.scan := by rw [h]
theorem RemMoves.feat (h : RemMoves s t) : t.feat = s.feat := by rw [h]
theorem RemMoves.verd (h : RemMoves s t) : t.verd = s.verd := by rw [h]
theorem RemMoves.adv (h : RemMoves s t) : t.adv = s.adv := by rw [h]
theorem RemMoves.ret (h : RemMoves s t) : t.ret = s.ret := by rw [h]
theorem RemMoves.lnk (h : RemMoves s t) : t.lnk = s.lnk := by rw [h]
theorem RemMoves.store (h : RemMoves s t) : t.store = s.store := by rw [h]
theorem RemMoves.pins (h : RemMoves s t) : t.pins = s.pins := by rw [h]
theorem RemMoves.free (h : RemMoves s t) : t.free = s.free := by rw [h]
theorem RemMoves.pending (h : RemMoves s t) : t.pending = s.pending := by rw [h]

theorem evaluateTrigger_remMoves (b : Bool) (s : State) : RemMoves s (evaluateTrigger b s).1 := by
  unfold evaluateTrigger
  split
  · exact .rem _
  · exact .refl s

theorem endRemEvent_remMoves {r : State × List Notice} (h : RemMoves s r.1) : RemMoves s (endRemEvent r).1 :=
  h.trans (.rem _)

theorem startElapses_remMoves (s : State) : RemMoves s (startElapses s).1 :=
  .trans (.rem _) (evaluateTrigger_remMoves ..)

theorem countStart_remMoves (s : State) : RemMoves s (countStart s).1 := by
  rcases countStart_cases s with ⟨-, h⟩ | ⟨n, -, -, h⟩ | ⟨n, -, -, h⟩ <;> rw [h]
  · exact .refl s
  · exact .rem _
  · exact startElapses_remMoves s

theorem timerStep_remMoves (s : State) : RemMoves s (timerStep s).1 := by
  unfold timerStep
  split
  · refine endRemEvent_remMoves (RemMoves.trans ?_ (countStart_remMoves _))
    exact .rem _
  · exact .refl s

theorem startIntervalExpires_remMoves (s : State) : RemMoves s (startIntervalExpires s).1 := by
  unfold startIntervalExpires
  split
  · exact endRemEvent_remMoves (startElapses_remMoves s)
  split
  · exact timerStep_remMoves s
  · exact .refl s

theorem visualExpires_remMoves (i : Seat) (s : State) : RemMoves s (visualExpires i s).1 := by
  unfold visualExpires
  dsimp only
  split
  · exact endRemEvent_remMoves (.rem _)
  split
  · exact timerStep_remMoves s
  · exact .refl s

theorem budgetExpires_remMoves (i : Seat) (s : State) : RemMoves s (budgetExpires i s).1 := by
  unfold budgetExpires
  dsimp only
  split
  · exact endRemEvent_remMoves (.rem _)
  split
  · exact timerStep_remMoves s
  · exact .refl s

/-- REM's table with its timers lowered to new settings (R99). -/
def settingsTaken (new : ReminderSettings) (s : State) : State :=
  let s1 := { s with rem := { s.rem with settings := new } }
  s1.withTable (Tab.ofFn fun i => lowerTimers s1.reminderContext (s.rem.table.get i))

theorem applySettings_eq (new : ReminderSettings) (s : State) :
    applySettings new s = endRemEvent ((evaluateTrigger s.trigger (settingsTaken new s)).1,
      reminderNotices s.rem.table (evaluateTrigger s.trigger (settingsTaken new s)).1.rem.table) := rfl

theorem applySettings_remMoves (new : ReminderSettings) (s : State) : RemMoves s (applySettings new s).1 := by
  rw [applySettings_eq]
  refine endRemEvent_remMoves (RemMoves.trans ?_ (evaluateTrigger_remMoves ..))
  exact .rem _

theorem remIgnitionOff_remMoves (s : State) : RemMoves s (remIgnitionOff s).1 := endRemEvent_remMoves (.rem _)

theorem remIgnitionOn_remMoves (b : Seat → Option Nat) (s : State) : RemMoves s (remIgnitionOn b s).1 :=
  endRemEvent_remMoves (.rem _)

theorem remApply_remMoves (s : State) : RemMoves s (remApply s).1 := endRemEvent_remMoves (.rem _)

theorem remRowRemoved_remMoves (r : Row) (s : State) : RemMoves s (remRowRemoved r s).1 := endRemEvent_remMoves (.rem _)

theorem remRowInstalled_remMoves (r : Row) (s : State) : RemMoves s (remRowInstalled r s).1 :=
  endRemEvent_remMoves (.rem _)

theorem remRestart_remMoves (s : State) : RemMoves s (remRestart s).1 := .rem _

theorem remSeatChanged_remMoves (i : Seat) (s : State) : RemMoves s (remSeatChanged i s).1 :=
  endRemEvent_remMoves (.rem _)

/-! ## Operations of ADV -/

/-- From `s` to `t` only ADV, its pairs and ATTN have moved. -/
def AdvMoves (s t : State) : Prop :=
  t = { s with adv := t.adv, pins := { s.pins with sup := t.pins.sup, attn := t.pins.attn } }

theorem AdvMoves.refl (s : State) : AdvMoves s s := rfl

theorem AdvMoves.trans (h : AdvMoves s t) (k : AdvMoves t u) : AdvMoves s u := by
  unfold AdvMoves at *
  rw [k, h]

theorem AdvMoves.cmap (h : AdvMoves s t) : t.cmap = s.cmap := by rw [h]
theorem AdvMoves.scan (h : AdvMoves s t) : t.scan = s.scan := by rw [h]
theorem AdvMoves.feat (h : AdvMoves s t) : t.feat = s.feat := by rw [h]
theorem AdvMoves.verd (h : AdvMoves s t) : t.verd = s.verd := by rw [h]
theorem AdvMoves.rem (h : AdvMoves s t) : t.rem = s.rem := by rw [h]
theorem AdvMoves.ret (h : AdvMoves s t) : t.ret = s.ret := by rw [h]
theorem AdvMoves.lnk (h : AdvMoves s t) : t.lnk = s.lnk := by rw [h]
theorem AdvMoves.store (h : AdvMoves s t) : t.store = s.store := by rw [h]
theorem AdvMoves.free (h : AdvMoves s t) : t.free = s.free := by rw [h]
theorem AdvMoves.pending (h : AdvMoves s t) : t.pending = s.pending := by rw [h]

theorem evaluatePosition_advMoves (p : Pos) (s : State) : AdvMoves s (evaluatePosition p s) := evaluatePosition_frame p s

theorem evaluateIf_advMoves (g : Seat → Bool) (p : Pos) (s : State) : AdvMoves s (evaluateIf g p s) := by
  rcases evaluateIf_cases g p s with h | h <;> rw [h]
  · exact evaluatePosition_advMoves p s
  · exact .refl s

theorem advSeats_advMoves (g : Seat → Bool) (s : State) : AdvMoves s (advSeats g s) :=
  (evaluateIf_advMoves ..).trans (evaluateIf_advMoves ..)

theorem advBoth_advMoves (s : State) : AdvMoves s (advBoth s) :=
  (evaluatePosition_advMoves ..).trans (evaluatePosition_advMoves ..)

theorem emptyMailbox_advMoves (s : State) : AdvMoves s (emptyMailbox s) := rfl

theorem advApply_advMoves (s : State) : AdvMoves s (advApply s) := by
  refine AdvMoves.trans ?_ (advBoth_advMoves _)
  rfl

theorem advRestart_advMoves (s : State) : AdvMoves s (advRestart s) := (emptyMailbox_advMoves s).trans (advBoth_advMoves _)

/-! ## The events that reach every block, in parts -/

/-- RET and SCAN at ignition OFF (R136). -/
def scanTurnedOff (s : State) : State := scanIgnitionOff (retOff s)

/-- FEAT and REM at ignition OFF. -/
def remTurnedOff (s : State) : State × List Notice :=
  remIgnitionOff (withFeat (abortCapture (scanTurnedOff s).feat).1 (scanTurnedOff s))

theorem ignitionOff_eq (s : State) :
    ignitionOff s = postMerged [(remTurnedOff s).2, (abortCapture (scanTurnedOff s).feat).2] (remTurnedOff s).1 := rfl

/-- VERD and RET at ignition ON: the resumed seats written, no snapshot left (R137, R145). -/
def seatsResumed (s : State) : State :=
  { s with
    verd := { s.verd with seats := resumedSeats s }
    ret := { s.ret with ignition := .on, ignDebounce := false, snapshots := Tab.const 16 none, timer := none } }

/-- Then ADV with the RETENTION notices posted. -/
def resumesTold (s : State) : State :=
  postAll
    (retentionNotices none (heldSnapshots s.ret s.resumes) ++
      retentionNotices (some .ignition) (heldSnapshots s.ret fun i => !s.resumes i))
    (advSeats s.resumes (seatsResumed s))

theorem ignitionOn_eq (s : State) :
    ignitionOn s = scanIgnitionOn (postEvent (remIgnitionOn s.resumeBudget (resumesTold s))) := rfl

/-- CMAP and VERD at the installation of a row (R10). -/
def rowSeated (r : Row) (st : RowState) (l : Lifecycle) (s : State) : State :=
  post (.row r st) { s with
    cmap := s.cmap.rowBecomes r st
    verd := { s.verd with seats := s.freshRow (s.cmap.rowBecomes r st) r l } }

theorem installRow_eq (r : Row) (s : State) :
    installRow r s = postEvent (remRowInstalled r (rowSeated r .installed .active s)) := rfl

/-- SCAN at the removal of a row (R11, R31). -/
def rowUnscanned (r : Row) (s : State) : State := scanRowRemoved r (rowSeated r .removed .absent s)

/-- FEAT at the removal of a row. -/
def rowUncaptured (r : Row) (s : State) : Feat × List Notice :=
  abortCaptureOf ((s.cmap.rowBecomes r .removed).inRow r) (rowUnscanned r s).feat

/-- REM at the removal of a row. -/
def rowUnreminded (r : Row) (s : State) : State × List Notice :=
  remRowRemoved r (withFeat (rowUncaptured r s).1 (rowUnscanned r s))

/-- RET at the removal of a row. -/
def rowForgotten (r : Row) (s : State) : State × List Notice :=
  discardSnapshots .row ((s.cmap.rowBecomes r .removed).inRow r) (rowUnreminded r s).1

theorem removeRow_eq (r : Row) (s : State) :
    removeRow r s = postMerged [(rowUnreminded r s).2, (rowUncaptured r s).2, (rowForgotten r s).2] (rowForgotten r s).1 :=
  rfl

/-- VERD, SCAN and FEAT at RESTART (R18, R47, R82). -/
def scanRestarted (s : State) : State := scanRestart (verdFresh s)

/-- REM at RESTART (R118). -/
def remRestarted (s : State) : State × List Notice :=
  remRestart (withFeat (featFlush (scanRestarted s).feat).1 (scanRestarted s))

/-- RET and ADV at RESTART (R131, R143). -/
def advRestarted (s : State) : State :=
  advRestart (discardSnapshots .restart everySeat (remRestarted s).1).1

/-- The notices of a RESTART that outlive the emptying of the queue (R163). -/
def restartNotices (s : State) : List Notice :=
  afterCut (Config.restartCut (advRestarted s).free) (mergeNotices (advRestarted s).free
    [(remRestarted s).2, (featFlush (scanRestarted s).feat).2,
      (discardSnapshots .restart everySeat (remRestarted s).1).2])

theorem restartBlocks_eq (s : State) :
    restartBlocks s = postAll (restartNotices s)
      { advRestarted s with
        lnk := (advRestarted s).lnk.emptied, free := (advRestarted s).free + 3 }.refreshAttn := rfl

/-- SCAN and FEAT at a map apply (R7, R30, R47). -/
def mapScanned (recs : MapRecs) (valid : Bool) (s : State) : State :=
  scanApply (verdFresh { s with cmap := s.cmap.applied s.pins recs valid })

/-- REM at a map apply (R117). -/
def mapReminded (recs : MapRecs) (valid : Bool) (s : State) : State × List Notice :=
  remApply (withFeat (featFlush (mapScanned recs valid s).feat).1 (mapScanned recs valid s))

/-- RET at a map apply (R142). -/
def mapForgotten (recs : MapRecs) (valid : Bool) (s : State) : State × List Notice :=
  discardSnapshots .map everySeat (mapReminded recs valid s).1

theorem mapApply_eq (recs : MapRecs) (valid : Bool) (s : State) :
    mapApply recs valid s = postMerged
      [(mapReminded recs valid s).2, (featFlush (mapScanned recs valid s).feat).2, (mapForgotten recs valid s).2]
      (advApply (mapForgotten recs valid s).1) := rfl

/-! ## The waiting commands (O52) -/

theorem retOff_pending (s : State) : (retOff s).pending = s.pending := by
  simp only [retOff]; split <;> rfl

theorem scanTurnedOff_pending (s : State) : (scanTurnedOff s).pending = s.pending :=
  (scanIgnitionOff_scanMoves _).quiet.pending.trans (retOff_pending s)

theorem ignitionOff_pending (s : State) : (ignitionOff s).pending = s.pending := by
  rw [ignitionOff_eq, postMerged_pending]
  exact (remIgnitionOff_remMoves _).pending.trans (scanTurnedOff_pending s)

theorem resumesTold_pending (s : State) : (resumesTold s).pending = s.pending := by
  rw [resumesTold, postAll_pending, (advSeats_advMoves ..).pending]; rfl

theorem ignitionOn_pending (s : State) : (ignitionOn s).pending = s.pending := by
  rw [ignitionOn_eq, (scanIgnitionOn_scanMoves _).quiet.pending, postEvent, postAll_pending,
    (remIgnitionOn_remMoves ..).pending, resumesTold_pending]

theorem installRow_pending (r : Row) (s : State) : (installRow r s).pending = s.pending := by
  rw [installRow_eq, postEvent, postAll_pending]; exact (remRowInstalled_remMoves ..).pending

theorem removeRow_pending (r : Row) (s : State) : (removeRow r s).pending = s.pending := by
  rw [removeRow_eq, postMerged_pending, rowForgotten, discardSnapshots_state]
  dsimp only
  rw [rowUnreminded, (remRowRemoved_remMoves ..).pending, withFeat_pending, rowUnscanned,
    (scanRowRemoved_scanMoves ..).quiet.pending, rowSeated, post_pending]

theorem restartBlocks_pending (s : State) : (restartBlocks s).pending = s.pending := by
  rw [restartBlocks_eq, postAll_pending, State.refreshAttn_pending]
  exact (advRestart_advMoves _).pending.trans (remRestart_remMoves _).pending

theorem loadCompletes_pending (straps : BitVec 2) (s : State) : (loadCompletes straps s).pending = s.pending := by
  unfold loadCompletes
  split
  · exact mapApply_pending ..
  · rfl

theorem speedChanges_pending (speed : Option Nat) (freshness : Bool) (s : State) :
    (speedChanges speed freshness s).pending = s.pending := by
  rw [speedChanges, postEvent, postAll_pending]
  exact (endRemEvent_remMoves (evaluateTrigger_remMoves ..)).pending

theorem frameHandled_pending (s : State) : (frameHandled s).pending = s.pending := by
  rcases hslot : s.verd.slot with _ | f
  · simp only [frameHandled, hslot]
  rw [frameHandled_eq s f hslot, postMerged_pending]
  have hverd : (afterVerd s f).pending = s.pending := by rw [afterVerd, postAll_pending]
  have hadv : (afterAdv s f).pending = s.pending := by
    unfold afterAdv
    split
    · exact (advSeats_advMoves ..).pending.trans hverd
    · exact hverd
  unfold afterRem
  split
  · exact (remSeatChanged_remMoves ..).pending.trans hadv
  · exact hadv

theorem postEvent_pending {r : State × List Notice} (h : RemMoves s r.1) : (postEvent r).pending = s.pending := by
  rw [postEvent, postAll_pending, h.pending]

theorem clearSettings_pending (s : State) : (clearSettings s).pending = s.pending := by
  rw [clearSettings, postEvent_pending (applySettings_remMoves ..)]

/-- An owner keeps the waiting commands. -/
theorem Leaves.pending {sw : Bool} (h : Leaves s sw t) : t.pending = s.pending := by
  cases h with
  | mapWritten recs ps => rw [startCommit_pending, mapApply_pending, closeTransfer_pending]
  | probeArmed i => rw [armProbe_eq]
  | speedReported b => rw [speedChanges_pending]
  | remindersSet x => rw [startCommit_pending, postEvent_pending (applySettings_remMoves ..)]
  | cleared => rw [clearCommit_pending, clearMap, mapApply_pending, clearSettings_pending]
  | _ => rfl

theorem Does.pending {c : Instr} (h : Does s c t) : t.pending = s.pending := by
  cases h with
  | nothing | reset | rowLine | replyLeft | silenced | frameStarted | lengthTaken | byteTaken | checkTaken | frameDropped =>
    rfl
  | loaded straps => exact loadCompletes_pending straps s
  | ignLine level => exact (ignLine_quiet level s).pending
  | doorLine d level => exact (doorLine_quiet d level s).pending
  | turnedOff => exact ignitionOff_pending s
  | turnedOn => exact ignitionOn_pending s
  | doorMoved d isOpen => rfl
  | doorDiscards d => rw [postEvent, postAll_pending]; rfl
  | rowIn r => exact installRow_pending r s
  | rowOut r => exact removeRow_pending r s
  | intervalExpired => exact (intervalExpires_scanMoves s).quiet.pending
  | settled => exact (settleEnds_scanMoves s).quiet.pending
  | converted raw anch => exact (conversionCompletes_scanMoves raw anch s).quiet.pending
  | markerWaited => exact (pushWaiting_scanMoves s).quiet.pending
  | entryDone => exact (entryCompletes_quiet s).pending
  | markerTaken => exact (takeBlocked_quiet s).pending
  | frameDone => exact (frameFinishes_quiet s).pending
  | handled => exact frameHandled_pending s
  | remStepped => exact postEvent_pending (timerStep_remMoves s)
  | startExpired => exact postEvent_pending (startIntervalExpires_remMoves s)
  | visualExpired i => exact postEvent_pending (visualExpires_remMoves i s)
  | budgetExpired i => exact postEvent_pending (budgetExpires_remMoves i s)
  | speedLost => exact speedChanges_pending ..
  | retentionExpired => rw [retentionExpires_eq, postAll_pending]
  | committed passes => exact (commitCompletes_quiet passes s).pending
  | clearCommitted passes => exact (clearCompletes_quiet passes s).pending
  | linkFailed st code => exact (linkError_quiet st code s).pending
  | timedOut => exact (interByteExpires_quiet s).pending
  | restarted => exact restartBlocks_pending s
  | answered code hready hv ha =>
    exact (replying_quiet ..).pending.trans (ha.leaves.pending.trans (handed_quiet hv).pending)

/-- Settles O52, case by case of what a command leaves. -/
theorem everyCommandAnswersANextStateAndKeepsTheQueue : Obligations.EveryCommandAnswersANextStateAndKeepsTheQueue := by
  intro c s
  obtain ⟨t, ht, hd⟩ := exec_does c s
  exact ⟨t, ht, hd.pending⟩

end Sys2Proof.Machine

/-! SUPPORT. What the events that reach every block leave in the blocks that they move little. -/

namespace Sys2Proof.Machine

open Sys2Proof.Safety

variable {s t u : State}

/-! ## Fields of an operation of SCAN -/

theorem ScanMoves.cmap (h : ScanMoves s t) : t.cmap = s.cmap := by rw [h.frame]
theorem ScanMoves.verd (h : ScanMoves s t) : t.verd = s.verd := by rw [h.frame]
theorem ScanMoves.rem (h : ScanMoves s t) : t.rem = s.rem := by rw [h.frame]
theorem ScanMoves.adv (h : ScanMoves s t) : t.adv = s.adv := by rw [h.frame]
theorem ScanMoves.ret (h : ScanMoves s t) : t.ret = s.ret := by rw [h.frame]
theorem ScanMoves.lnk (h : ScanMoves s t) : t.lnk = s.lnk := by rw [h.frame]
theorem ScanMoves.store (h : ScanMoves s t) : t.store = s.store := by rw [h.frame]
theorem ScanMoves.free (h : ScanMoves s t) : t.free = s.free := by rw [h.frame]
theorem ScanMoves.acc (h : ScanMoves s t) : t.feat.acc = s.feat.acc := by rw [h.frame]
theorem ScanMoves.cal (h : ScanMoves s t) : t.feat.cal = s.feat.cal := by rw [h.frame]
theorem ScanMoves.capture (h : ScanMoves s t) : t.feat.capture = s.feat.capture := by rw [h.frame]
theorem ScanMoves.pins (h : ScanMoves s t) : t.pins = { s.pins with anch := t.pins.anch } := by rw [h.frame]
theorem ScanMoves.sup (h : ScanMoves s t) : t.pins.sup = s.pins.sup := by rw [h.frame]

/-! ## Ignition OFF (R136) -/

theorem retOff_frame (s : State) : retOff s = { s with ret := (retOff s).ret } := by
  simp only [retOff]; split <;> rfl

theorem scanTurnedOff_scanMoves (s : State) : ScanMoves (retOff s) (scanTurnedOff s) := scanIgnitionOff_scanMoves _

@[simp] theorem scanTurnedOff_cmap (s : State) : (scanTurnedOff s).cmap = s.cmap := by
  rw [(scanTurnedOff_scanMoves s).cmap, retOff_frame]
@[simp] theorem scanTurnedOff_verd (s : State) : (scanTurnedOff s).verd = s.verd := by
  rw [(scanTurnedOff_scanMoves s).verd, retOff_frame]
@[simp] theorem scanTurnedOff_rem (s : State) : (scanTurnedOff s).rem = s.rem := by
  rw [(scanTurnedOff_scanMoves s).rem, retOff_frame]
@[simp] theorem scanTurnedOff_adv (s : State) : (scanTurnedOff s).adv = s.adv := by
  rw [(scanTurnedOff_scanMoves s).adv, retOff_frame]
@[simp] theorem scanTurnedOff_ret (s : State) : (scanTurnedOff s).ret = (retOff s).ret := (scanTurnedOff_scanMoves s).ret
@[simp] theorem scanTurnedOff_lnk (s : State) : (scanTurnedOff s).lnk = s.lnk := by
  rw [(scanTurnedOff_scanMoves s).lnk, retOff_frame]
@[simp] theorem scanTurnedOff_store (s : State) : (scanTurnedOff s).store = s.store := by
  rw [(scanTurnedOff_scanMoves s).store, retOff_frame]
theorem scanTurnedOff_pins (s : State) :
    (scanTurnedOff s).pins = { s.pins with anch := (scanTurnedOff s).pins.anch } := by
  conv_lhs => rw [(scanTurnedOff_scanMoves s).pins, retOff_frame]

@[simp] theorem scanTurnedOff_sup (s : State) : (scanTurnedOff s).pins.sup = s.pins.sup := by rw [scanTurnedOff_pins]

/-- REM moves nothing of what SCAN and FEAT left. -/
theorem remTurnedOff_remMoves (s : State) :
    RemMoves (withFeat (abortCapture (scanTurnedOff s).feat).1 (scanTurnedOff s)) (remTurnedOff s).1 :=
  remIgnitionOff_remMoves _

@[simp] theorem ignitionOff_cmap (s : State) : (ignitionOff s).cmap = s.cmap := by
  simp [ignitionOff_eq, (remTurnedOff_remMoves s).cmap]
@[simp] theorem ignitionOff_scan (s : State) : (ignitionOff s).scan = (scanTurnedOff s).scan := by
  simp [ignitionOff_eq, (remTurnedOff_remMoves s).scan]
@[simp] theorem ignitionOff_feat (s : State) : (ignitionOff s).feat = (abortCapture (scanTurnedOff s).feat).1 := by
  simp [ignitionOff_eq, (remTurnedOff_remMoves s).feat]
@[simp] theorem ignitionOff_verd (s : State) : (ignitionOff s).verd = s.verd := by
  simp [ignitionOff_eq, (remTurnedOff_remMoves s).verd]
@[simp] theorem ignitionOff_rem (s : State) : (ignitionOff s).rem = (remTurnedOff s).1.rem := by simp [ignitionOff_eq]
@[simp] theorem ignitionOff_adv (s : State) : (ignitionOff s).adv = s.adv := by
  simp [ignitionOff_eq, (remTurnedOff_remMoves s).adv]
@[simp] theorem ignitionOff_ret (s : State) : (ignitionOff s).ret = (retOff s).ret := by
  simp [ignitionOff_eq, (remTurnedOff_remMoves s).ret]
@[simp] theorem ignitionOff_store (s : State) : (ignitionOff s).store = s.store := by
  simp [ignitionOff_eq, (remTurnedOff_remMoves s).store]
@[simp] theorem postMerged_pins_sup (gs : List (List Notice)) (s : State) : (postMerged gs s).pins.sup = s.pins.sup := by
  simp [postMerged]
@[simp] theorem ignitionOff_sup (s : State) : (ignitionOff s).pins.sup = s.pins.sup := by
  simp [ignitionOff_eq, (remTurnedOff_remMoves s).pins]

/-! ## Ignition ON (R137) -/

theorem advSeats_resumed (s : State) : AdvMoves (seatsResumed s) (advSeats s.resumes (seatsResumed s)) :=
  advSeats_advMoves ..

@[simp] theorem resumesTold_cmap (s : State) : (resumesTold s).cmap = s.cmap := by
  rw [resumesTold, postAll_cmap, (advSeats_resumed s).cmap]; rfl
@[simp] theorem resumesTold_scan (s : State) : (resumesTold s).scan = s.scan := by
  rw [resumesTold, postAll_scan, (advSeats_resumed s).scan]; rfl
@[simp] theorem resumesTold_feat (s : State) : (resumesTold s).feat = s.feat := by
  rw [resumesTold, postAll_feat, (advSeats_resumed s).feat]; rfl
@[simp] theorem resumesTold_verd (s : State) : (resumesTold s).verd = { s.verd with seats := resumedSeats s } := by
  simp [resumesTold, seatsResumed]
@[simp] theorem resumesTold_rem (s : State) : (resumesTold s).rem = s.rem := by
  rw [resumesTold, postAll_rem, (advSeats_resumed s).rem]; rfl
@[simp] theorem resumesTold_ret (s : State) : (resumesTold s).ret = (seatsResumed s).ret := by
  simp [resumesTold, (advSeats_resumed s).ret]
@[simp] theorem resumesTold_store (s : State) : (resumesTold s).store = s.store := by
  rw [resumesTold, postAll_store, (advSeats_resumed s).store]; rfl
@[simp] theorem resumesTold_adv (s : State) : (resumesTold s).adv = (advSeats s.resumes (seatsResumed s)).adv := by
  simp [resumesTold]
@[simp] theorem resumesTold_sup (s : State) :
    (resumesTold s).pins.sup = (advSeats s.resumes (seatsResumed s)).pins.sup := by simp [resumesTold]

/-- RET, VERD and ADV have acted, then REM; SCAN moves SCAN alone. -/
theorem scanIgnitionOn_frame (s : State) : scanIgnitionOn s = { s with scan := (scanIgnitionOn s).scan } := by
  unfold scanIgnitionOn; split <;> rfl

theorem remTurnedOn_remMoves (s : State) : RemMoves (resumesTold s) (remIgnitionOn s.resumeBudget (resumesTold s)).1 :=
  remIgnitionOn_remMoves ..

@[simp] theorem ignitionOn_cmap (s : State) : (ignitionOn s).cmap = s.cmap := by
  rw [ignitionOn_eq, scanIgnitionOn_frame]; simp [postEvent, (remTurnedOn_remMoves s).cmap]
@[simp] theorem ignitionOn_feat (s : State) : (ignitionOn s).feat = s.feat := by
  rw [ignitionOn_eq, scanIgnitionOn_frame]; simp [postEvent, (remTurnedOn_remMoves s).feat]
@[simp] theorem ignitionOn_verd (s : State) : (ignitionOn s).verd = { s.verd with seats := resumedSeats s } := by
  rw [ignitionOn_eq, scanIgnitionOn_frame]; simp [postEvent, (remTurnedOn_remMoves s).verd]
@[simp] theorem ignitionOn_rem (s : State) :
    (ignitionOn s).rem = (remIgnitionOn s.resumeBudget (resumesTold s)).1.rem := by
  rw [ignitionOn_eq, scanIgnitionOn_frame]; simp [postEvent]
@[simp] theorem ignitionOn_adv (s : State) : (ignitionOn s).adv = (advSeats s.resumes (seatsResumed s)).adv := by
  rw [ignitionOn_eq, scanIgnitionOn_frame]; simp [postEvent, (remTurnedOn_remMoves s).adv]
@[simp] theorem ignitionOn_ret (s : State) : (ignitionOn s).ret = (seatsResumed s).ret := by
  rw [ignitionOn_eq, scanIgnitionOn_frame]; simp [postEvent, (remTurnedOn_remMoves s).ret]
@[simp] theorem ignitionOn_store (s : State) : (ignitionOn s).store = s.store := by
  rw [ignitionOn_eq, scanIgnitionOn_frame]; simp [postEvent, (remTurnedOn_remMoves s).store]
@[simp] theorem ignitionOn_sup (s : State) :
    (ignitionOn s).pins.sup = (advSeats s.resumes (seatsResumed s)).pins.sup := by
  rw [ignitionOn_eq, scanIgnitionOn_frame]; simp [postEvent, (remTurnedOn_remMoves s).pins]

/-! ## Rows (R10, R11) -/

section
variable (r : Row) (st : RowState) (l : Lifecycle)

@[simp] theorem rowSeated_cmap : (rowSeated r st l s).cmap = s.cmap.rowBecomes r st := rfl
@[simp] theorem rowSeated_scan : (rowSeated r st l s).scan = s.scan := rfl
@[simp] theorem rowSeated_feat : (rowSeated r st l s).feat = s.feat := rfl
@[simp] theorem rowSeated_verd : (rowSeated r st l s).verd =
    { s.verd with seats := s.freshRow (s.cmap.rowBecomes r st) r l } := rfl
@[simp] theorem rowSeated_rem : (rowSeated r st l s).rem = s.rem := rfl
@[simp] theorem rowSeated_adv : (rowSeated r st l s).adv = s.adv := rfl
@[simp] theorem rowSeated_ret : (rowSeated r st l s).ret = s.ret := rfl
@[simp] theorem rowSeated_lnk : (rowSeated r st l s).lnk = s.lnk.post (.row r st) := rfl
@[simp] theorem rowSeated_store : (rowSeated r st l s).store = s.store := rfl
@[simp] theorem rowSeated_sup : (rowSeated r st l s).pins.sup = s.pins.sup := rfl
@[simp] theorem rowSeated_free : (rowSeated r st l s).free = s.free := rfl

end

theorem rowInstalled_remMoves (r : Row) (s : State) :
    RemMoves (rowSeated r .installed .active s) (remRowInstalled r (rowSeated r .installed .active s)).1 :=
  remRowInstalled_remMoves ..

@[simp] theorem installRow_cmap (r : Row) (s : State) : (installRow r s).cmap = s.cmap.rowBecomes r .installed := by
  simp [installRow_eq, postEvent, (rowInstalled_remMoves r s).cmap]
@[simp] theorem installRow_scan (r : Row) (s : State) : (installRow r s).scan = s.scan := by
  simp [installRow_eq, postEvent, (rowInstalled_remMoves r s).scan]
@[simp] theorem installRow_feat (r : Row) (s : State) : (installRow r s).feat = s.feat := by
  simp [installRow_eq, postEvent, (rowInstalled_remMoves r s).feat]
@[simp] theorem installRow_verd (r : Row) (s : State) : (installRow r s).verd =
    { s.verd with seats := s.freshRow (s.cmap.rowBecomes r .installed) r .active } := by
  simp [installRow_eq, postEvent, (rowInstalled_remMoves r s).verd]
@[simp] theorem installRow_rem (r : Row) (s : State) : (installRow r s).rem =
    (remRowInstalled r (rowSeated r .installed .active s)).1.rem := by simp [installRow_eq, postEvent]
@[simp] theorem installRow_adv (r : Row) (s : State) : (installRow r s).adv = s.adv := by
  simp [installRow_eq, postEvent, (rowInstalled_remMoves r s).adv]
@[simp] theorem installRow_ret (r : Row) (s : State) : (installRow r s).ret = s.ret := by
  simp [installRow_eq, postEvent, (rowInstalled_remMoves r s).ret]
@[simp] theorem installRow_store (r : Row) (s : State) : (installRow r s).store = s.store := by
  simp [installRow_eq, postEvent, (rowInstalled_remMoves r s).store]
@[simp] theorem installRow_sup (r : Row) (s : State) : (installRow r s).pins.sup = s.pins.sup := by
  simp [installRow_eq, postEvent, (rowInstalled_remMoves r s).pins]

theorem rowUnscanned_scanMoves (r : Row) (s : State) : ScanMoves (rowSeated r .removed .absent s) (rowUnscanned r s) :=
  scanRowRemoved_scanMoves ..

theorem rowUnreminded_remMoves (r : Row) (s : State) :
    RemMoves (withFeat (rowUncaptured r s).1 (rowUnscanned r s)) (rowUnreminded r s).1 := remRowRemoved_remMoves ..

@[simp] theorem removeRow_cmap (r : Row) (s : State) : (removeRow r s).cmap = s.cmap.rowBecomes r .removed := by
  simp [removeRow_eq, rowForgotten, (rowUnreminded_remMoves r s).cmap, (rowUnscanned_scanMoves r s).cmap]
@[simp] theorem removeRow_scan (r : Row) (s : State) : (removeRow r s).scan = (rowUnscanned r s).scan := by
  simp [removeRow_eq, rowForgotten, (rowUnreminded_remMoves r s).scan]
@[simp] theorem removeRow_feat (r : Row) (s : State) : (removeRow r s).feat = (rowUncaptured r s).1 := by
  simp [removeRow_eq, rowForgotten, (rowUnreminded_remMoves r s).feat]
@[simp] theorem removeRow_verd (r : Row) (s : State) : (removeRow r s).verd =
    { s.verd with seats := s.freshRow (s.cmap.rowBecomes r .removed) r .absent } := by
  simp [removeRow_eq, rowForgotten, (rowUnreminded_remMoves r s).verd, (rowUnscanned_scanMoves r s).verd]
@[simp] theorem removeRow_rem (r : Row) (s : State) : (removeRow r s).rem = (rowUnreminded r s).1.rem := by
  simp [removeRow_eq, rowForgotten]
@[simp] theorem removeRow_adv (r : Row) (s : State) : (removeRow r s).adv = s.adv := by
  simp [removeRow_eq, rowForgotten, (rowUnreminded_remMoves r s).adv, (rowUnscanned_scanMoves r s).adv]
theorem removeRow_ret (r : Row) (s : State) :
    (removeRow r s).ret = s.ret.drop ((s.cmap.rowBecomes r .removed).inRow r) := by
  simp [removeRow_eq, rowForgotten, (rowUnreminded_remMoves r s).ret, (rowUnscanned_scanMoves r s).ret]
@[simp] theorem removeRow_store (r : Row) (s : State) : (removeRow r s).store = s.store := by
  simp [removeRow_eq, rowForgotten, (rowUnreminded_remMoves r s).store, (rowUnscanned_scanMoves r s).store]
@[simp] theorem removeRow_sup (r : Row) (s : State) : (removeRow r s).pins.sup = s.pins.sup := by
  simp [removeRow_eq, rowForgotten, (rowUnreminded_remMoves r s).pins, (rowUnscanned_scanMoves r s).sup]

/-! ## RESTART (R163) -/

theorem remRestarted_remMoves (s : State) :
    RemMoves (withFeat (featFlush (scanRestarted s).feat).1 (scanRestarted s)) (remRestarted s).1 := remRestart_remMoves _

theorem advRestarted_advMoves (s : State) :
    AdvMoves (discardSnapshots .restart everySeat (remRestarted s).1).1 (advRestarted s) := advRestart_advMoves _

@[simp] theorem restartBlocks_cmap (s : State) : (restartBlocks s).cmap = s.cmap := by
  simp [restartBlocks_eq, (advRestarted_advMoves s).cmap, (remRestarted_remMoves s).cmap, scanRestarted]
@[simp] theorem restartBlocks_scan (s : State) : (restartBlocks s).scan = (scanRestarted s).scan := by
  simp [restartBlocks_eq, (advRestarted_advMoves s).scan, (remRestarted_remMoves s).scan]
@[simp] theorem restartBlocks_feat (s : State) : (restartBlocks s).feat =
    { intake := .idle, acc := none, cal := s.feat.cal, capture := none } := by
  simp [restartBlocks_eq, (advRestarted_advMoves s).feat, (remRestarted_remMoves s).feat, scanRestarted, featFlush_feat]
@[simp] theorem restartBlocks_verd (s : State) : (restartBlocks s).verd = { seats := s.cmap.freshSeats, slot := none } := by
  rw [restartBlocks_eq, postAll_verd, State.refreshAttn_verd]
  exact (advRestarted_advMoves s).verd.trans (remRestarted_remMoves s).verd
@[simp] theorem restartBlocks_rem (s : State) : (restartBlocks s).rem = (remRestarted s).1.rem := by
  simp [restartBlocks_eq, (advRestarted_advMoves s).rem]
@[simp] theorem restartBlocks_adv (s : State) : (restartBlocks s).adv = (advRestarted s).adv := by simp [restartBlocks_eq]
theorem restartBlocks_ret (s : State) : (restartBlocks s).ret = s.ret.drop everySeat := by
  simp [restartBlocks_eq, (advRestarted_advMoves s).ret, (remRestarted_remMoves s).ret, scanRestarted]
@[simp] theorem restartBlocks_store (s : State) : (restartBlocks s).store = s.store := by
  simp [restartBlocks_eq, (advRestarted_advMoves s).store, (remRestarted_remMoves s).store, scanRestarted]
@[simp] theorem restartBlocks_sup (s : State) : (restartBlocks s).pins.sup = (advRestarted s).pins.sup := by
  simp [restartBlocks_eq]

/-! ## The speed record and the settings of PROTECTION CLEAR -/

theorem speedChanges_eq (speed : Option Nat) (freshness : Bool) (s : State) :
    speedChanges speed freshness s = postEvent (endRemEvent (evaluateTrigger s.trigger
      (evaluateHold { s with rem := { s.rem with speed := speed, freshness := freshness } }))) := rfl

/-- The speed taken and motion hold evaluated (R77, R100). -/
def speedTaken (speed : Option Nat) (freshness : Bool) (s : State) : State :=
  evaluateHold { s with rem := { s.rem with speed := speed, freshness := freshness } }

theorem speedChanges_remMoves (speed : Option Nat) (freshness : Bool) (s : State) :
    RemMoves (speedTaken speed freshness s)
      (endRemEvent (evaluateTrigger s.trigger (speedTaken speed freshness s))).1 :=
  endRemEvent_remMoves (evaluateTrigger_remMoves ..)

/-- An event of REM alone: REM moves and its notices are posted. -/
theorem postEvent_verd {r : State × List Notice} (h : RemMoves s r.1) : (postEvent r).verd = s.verd := by
  rw [postEvent, postAll_verd, h.verd]
theorem postEvent_store {r : State × List Notice} (h : RemMoves s r.1) : (postEvent r).store = s.store := by
  rw [postEvent, postAll_store, h.store]
theorem postEvent_cmap {r : State × List Notice} (h : RemMoves s r.1) : (postEvent r).cmap = s.cmap := by
  rw [postEvent, postAll_cmap, h.cmap]
theorem postEvent_scan {r : State × List Notice} (h : RemMoves s r.1) : (postEvent r).scan = s.scan := by
  rw [postEvent, postAll_scan, h.scan]
theorem postEvent_feat {r : State × List Notice} (h : RemMoves s r.1) : (postEvent r).feat = s.feat := by
  rw [postEvent, postAll_feat, h.feat]
theorem postEvent_adv {r : State × List Notice} (h : RemMoves s r.1) : (postEvent r).adv = s.adv := by
  rw [postEvent, postAll_adv, h.adv]
theorem postEvent_ret {r : State × List Notice} (h : RemMoves s r.1) : (postEvent r).ret = s.ret := by
  rw [postEvent, postAll_ret, h.ret]
theorem postEvent_sup {r : State × List Notice} (h : RemMoves s r.1) : (postEvent r).pins.sup = s.pins.sup := by
  rw [postEvent, postAll_pins_sup, h.pins]

/-- Step 1 of PROTECTION CLEAR before REM takes its settings (R170). -/
def copiesCleared (s : State) : State :=
  { s with
    cmap := { s.cmap with profiles := defaultProfiles }
    scan := { s.scan with timing := defaultTiming }
    feat := { s.feat with cal := uncalibrated }
    ret := { s.ret with tRetain := defaultRetain }
    store := { s.store with switches := { permitted with clear := s.store.switches.clear } } }

theorem clearSettings_eq (s : State) : clearSettings s = postEvent (applySettings defaultSettings (copiesCleared s)) := rfl

theorem clearSettings_remMoves (s : State) : RemMoves (copiesCleared s) (applySettings defaultSettings (copiesCleared s)).1 :=
  applySettings_remMoves ..

/-! ## The load (R165) -/

/-- The working copies filled and the straps sampled (R5, R165). -/
def copiesLoaded (straps : BitVec 2) (s : State) : State :=
  { loadSections s with cmap := { (loadSections s).cmap with strap := straps } }

/-- The map of the straps applied (R5). -/
def mapLoaded (straps : BitVec 2) (s : State) : State :=
  mapApply (strapRecords straps s.store.stored.map)
    (if straps = 0 then mapValid (strapRecords straps s.store.stored.map) (copiesLoaded straps s).cmap.profiles else true)
    (copiesLoaded straps s)

theorem loadCompletes_eq (straps : BitVec 2) (s : State) (h : s.store.loading = true) :
    loadCompletes straps s =
      { mapLoaded straps s with ret := (mapLoaded straps s).ret.watch (mapLoaded straps s).pins } := by
  simp only [loadCompletes, h, if_true]; rfl

/-! ## The handling of a frame (R63, R66) -/

theorem afterAdv_advMoves (s : State) (f : MatFrame) : AdvMoves (afterVerd s f) (afterAdv s f) := by
  unfold afterAdv
  split
  · exact advSeats_advMoves ..
  · exact .refl _

theorem afterRem_remMoves (s : State) (f : MatFrame) :
    RemMoves (withFeat (captureAborted s f).1 (afterAdv s f)) (afterRem s f).1 := by
  unfold afterRem
  split
  · exact remSeatChanged_remMoves ..
  · exact .refl _

theorem frameHandled_empty (h : s.verd.slot = none) : frameHandled s = s := by simp only [frameHandled, h]

section
variable {f : MatFrame} (h : s.verd.slot = some f)
include h

theorem frameHandled_cmap : (frameHandled s).cmap = s.cmap := by
  simp [frameHandled_eq s f h, (afterRem_remMoves s f).cmap, (afterAdv_advMoves s f).cmap, afterVerd]
theorem frameHandled_scan : (frameHandled s).scan = s.scan := by
  simp [frameHandled_eq s f h, (afterRem_remMoves s f).scan, (afterAdv_advMoves s f).scan, afterVerd]
theorem frameHandled_feat : (frameHandled s).feat = (captureAborted s f).1 := by
  simp [frameHandled_eq s f h, (afterRem_remMoves s f).feat]
theorem frameHandled_verd : (frameHandled s).verd =
    { seats := s.verd.seats.set f.seat (handledBy s f).1, slot := none } := by
  simp [frameHandled_eq s f h, (afterRem_remMoves s f).verd, (afterAdv_advMoves s f).verd, afterVerd]
theorem frameHandled_rem : (frameHandled s).rem = (afterRem s f).1.rem := by
  simp [frameHandled_eq s f h]
theorem frameHandled_adv : (frameHandled s).adv = (afterAdv s f).adv := by
  simp [frameHandled_eq s f h, (afterRem_remMoves s f).adv]
theorem frameHandled_ret : (frameHandled s).ret = s.ret := by
  simp [frameHandled_eq s f h, (afterRem_remMoves s f).ret, (afterAdv_advMoves s f).ret, afterVerd]
theorem frameHandled_store : (frameHandled s).store = s.store := by
  simp [frameHandled_eq s f h, (afterRem_remMoves s f).store, (afterAdv_advMoves s f).store, afterVerd]
theorem frameHandled_sup : (frameHandled s).pins.sup = (afterAdv s f).pins.sup := by
  simp [frameHandled_eq s f h, (afterRem_remMoves s f).pins]

end

end Sys2Proof.Machine

/-! SUPPORT. No command but a frame's handling and a resume gives a verdict (O59); the store moves only at reset, load and
completions, and the switches only at their own requests (O60). -/

namespace Sys2Proof.Machine

open Sys2Proof.Safety

variable {s t u : State}

/-! ## Verdicts (O59) -/

/-- From `s` to `t` every confirmed verdict is kept or has become UNKNOWN. -/
structure NoNewVerdict (s t : State) : Prop where
  confirmed : ∀ i : Seat, (t.verd.seats.get i).confirmed = (s.verd.seats.get i).confirmed ∨
    (t.verd.seats.get i).confirmed = .unknown

theorem NoNewVerdict.trans (h : NoNewVerdict s t) (k : NoNewVerdict t u) : NoNewVerdict s u where
  confirmed i := by
    rcases k.confirmed i with hk | hk
    · rw [hk]; exact h.confirmed i
    · exact .inr hk

theorem NoNewVerdict.of_verd (h : t.verd = s.verd) : NoNewVerdict s t := ⟨fun i => .inl (by rw [h])⟩

theorem Quiet.noNewVerdict (h : Quiet s t) : NoNewVerdict s t := ⟨fun i => .inl (by rw [h.seats i])⟩

theorem NoNewVerdict.of_fresh {c : CMap} (h : t.verd.seats = c.freshSeats) : NoNewVerdict s t :=
  ⟨fun i => .inr (by simp [h, CMap.freshSeats, freshSeat])⟩

theorem NoNewVerdict.of_freshRow {c : CMap} {r : Row} {l : Lifecycle} (h : t.verd.seats = s.freshRow c r l) :
    NoNewVerdict s t where
  confirmed i := by
    simp only [h, State.freshRow, Tab.get_ofFn]
    split
    · exact .inr rfl
    · exact .inl rfl

theorem mapApply_noNewVerdict (recs : MapRecs) (valid : Bool) (s : State) : NoNewVerdict u (mapApply recs valid s) :=
  .of_fresh (congrArg Verd.seats (mapApply_verd recs valid s))

theorem speedChanges_noNewVerdict (speed : Option Nat) (freshness : Bool) (s : State) :
    NoNewVerdict s (speedChanges speed freshness s) := by
  have hhold : NoNewVerdict s (speedTaken speed freshness s) := ⟨fun i => .inl (by simp [speedTaken])⟩
  exact hhold.trans (.of_verd (postEvent_verd (speedChanges_remMoves ..)))

theorem Leaves.noNewVerdict {sw : Bool} (h : Leaves s sw t) : NoNewVerdict s t := by
  cases h with
  | mapWritten recs ps => exact (mapApply_noNewVerdict ..).trans (.of_verd (startCommit_verd ..))
  | probeArmed i => exact .of_verd (by rw [armProbe_eq])
  | speedReported b => exact speedChanges_noNewVerdict ..
  | remindersSet x => exact .of_verd (by rw [startCommit_verd, postEvent_verd (applySettings_remMoves ..)])
  | cleared => exact (mapApply_noNewVerdict ..).trans (.of_verd (clearCommit_verd _))
  | _ => exact .of_verd rfl

theorem Does.noNewVerdict {c : Instr} (h : Does s c t) (hframe : c ≠ .frameHandlingComplete) (hon : c ≠ .ignitionOn) :
    NoNewVerdict s t := by
  cases h with
  | nothing | rowLine | replyLeft | silenced | frameStarted | lengthTaken | byteTaken | checkTaken | frameDropped =>
    exact .of_verd rfl
  | reset => exact ⟨fun i => .inr (by simp [fullReset, State.reset, blankSeat])⟩
  | loaded straps h =>
    rw [loadCompletes_eq straps s h]
    exact (mapApply_noNewVerdict ..).trans (.of_verd rfl)
  | ignLine level => exact (ignLine_quiet level s).noNewVerdict
  | doorLine d level => exact (doorLine_quiet d level s).noNewVerdict
  | turnedOff => exact .of_verd (ignitionOff_verd s)
  | turnedOn => exact absurd rfl hon
  | doorMoved d isOpen => exact (doorChanges_quiet d isOpen s).noNewVerdict
  | doorDiscards d =>
    exact (doorChanges_quiet d true s).noNewVerdict.trans (.of_verd (by rw [postEvent, postAll_verd]; rfl))
  | rowIn r => exact .of_freshRow (congrArg Verd.seats (installRow_verd r s))
  | rowOut r => exact .of_freshRow (congrArg Verd.seats (removeRow_verd r s))
  | intervalExpired => exact (intervalExpires_scanMoves s).quiet.noNewVerdict
  | settled => exact (settleEnds_scanMoves s).quiet.noNewVerdict
  | converted raw anch => exact (conversionCompletes_scanMoves raw anch s).quiet.noNewVerdict
  | markerWaited => exact (pushWaiting_scanMoves s).quiet.noNewVerdict
  | entryDone => exact (entryCompletes_quiet s).noNewVerdict
  | markerTaken => exact (takeBlocked_quiet s).noNewVerdict
  | frameDone => exact (frameFinishes_quiet s).noNewVerdict
  | handled => exact absurd rfl hframe
  | remStepped => exact .of_verd (postEvent_verd (timerStep_remMoves s))
  | startExpired => exact .of_verd (postEvent_verd (startIntervalExpires_remMoves s))
  | visualExpired i => exact .of_verd (postEvent_verd (visualExpires_remMoves i s))
  | budgetExpired i => exact .of_verd (postEvent_verd (budgetExpires_remMoves i s))
  | speedLost => exact speedChanges_noNewVerdict ..
  | retentionExpired => exact .of_verd (by rw [retentionExpires_eq, postAll_verd])
  | committed passes => exact (commitCompletes_quiet passes s).noNewVerdict
  | clearCommitted passes => exact (clearCompletes_quiet passes s).noNewVerdict
  | linkFailed st code => exact (linkError_quiet st code s).noNewVerdict
  | timedOut => exact (interByteExpires_quiet s).noNewVerdict
  | restarted => exact .of_fresh (congrArg Verd.seats (restartBlocks_verd s))
  | answered code hready hv ha =>
    exact (handed_quiet hv).noNewVerdict.trans (ha.leaves.noNewVerdict.trans (replying_quiet ..).noNewVerdict)

/-- Settles O59, case by case of what a command leaves. -/
theorem verdictsAreConfirmedOnlyByFramesAndResumes : Obligations.VerdictsAreConfirmedOnlyByFramesAndResumes :=
  fun _ _ _ i h hframe hon => (does_of_exec h).noNewVerdict hframe hon |>.confirmed i

/-! ## The store (O60) -/

/-- From `s` to `t` the stored sections are kept, and so is a commit in flight. -/
structure CommitKept (s t : State) : Prop where
  stored : t.store.stored = s.store.stored
  commit : s.store.commit ≠ .idle → t.store.commit = s.store.commit

theorem CommitKept.of_store (h : t.store = s.store) : CommitKept s t := ⟨by rw [h], fun _ => by rw [h]⟩

theorem CommitKept.trans (h : CommitKept s t) (k : CommitKept t u) : CommitKept s u where
  stored := k.stored.trans h.stored
  commit hs := by rw [k.commit (by rwa [h.commit hs]), h.commit hs]

/-- What starts a commit starts it in an idle store. -/
theorem CommitKept.of_idle (hidle : s.store.commit = .idle) (hstored : t.store.stored = s.store.stored) :
    CommitKept s t := ⟨hstored, fun h => absurd hidle h⟩

theorem featLook_store (s : State) : (featLook s).store = s.store := by
  by_cases h : s.feat.intake = .idle
  · rw [featLook_idle s h]
  · rw [featLook_busy s h]

theorem captureEnds_commitKept (c : Capture) (s : State) :
    CommitKept s (captureEnds c s) ∧ (captureEnds c s).store.switches = s.store.switches := by
  simp only [captureEnds]
  split
  · exact ⟨.of_store rfl, rfl⟩
  split
  · exact ⟨.of_store rfl, rfl⟩
  · rename_i h
    exact ⟨.of_idle ((committing_false_iff _).1 (by simpa using h)) rfl, rfl⟩

theorem captureOffer_commitKept (before : Bool) (mk : Marker) (a : Accumulator) (s : State) :
    CommitKept s (captureOffer before mk a s) ∧ (captureOffer before mk a s).store.switches = s.store.switches := by
  unfold captureOffer
  split
  · split
    · dsimp only
      split
      · exact ⟨.of_store rfl, rfl⟩
      · exact captureEnds_commitKept ..
    · exact ⟨.of_store rfl, rfl⟩
  · exact ⟨.of_store rfl, rfl⟩

theorem frameFinishes_commitKept (s : State) :
    CommitKept s (frameFinishes s) ∧ (frameFinishes s).store.switches = s.store.switches := by
  by_cases h : ∃ mk bp bc, s.feat.intake = .finishing mk bp bc
  · obtain ⟨mk, bp, bc, h⟩ := h
    rcases hc : completeFrame s.feat.acc s.cmap.seats mk with _ | a
    · rw [frameFinishes_torn h hc]
      exact ⟨.of_store (featLook_store _), congrArg Store.switches (featLook_store _)⟩
    · rw [frameFinishes_complete h hc]
      obtain ⟨hk, hs⟩ := captureOffer_commitKept bc mk a (frameOffered bp mk a s)
      exact ⟨.trans ⟨hk.stored, hk.commit⟩ (.of_store (featLook_store _)),
        (congrArg Store.switches (featLook_store _)).trans hs⟩
  · push Not at h
    rw [frameFinishes_idle h]
    exact ⟨.of_store rfl, rfl⟩

theorem entryCompletes_store (s : State) : (entryCompletes s).store = s.store := by
  unfold entryCompletes
  split
  · exact featLook_store _
  · rfl

theorem takeBlocked_store (s : State) : (takeBlocked s).store = s.store := by
  unfold takeBlocked
  split
  · split
    · exact featLook_store _
    · rfl
  · rfl

theorem linkError_store (st : Status) (code : Byte) (s : State) : (linkError st code s).store = s.store := by
  simp only [linkError]; split <;> rfl

theorem interByteExpires_store (s : State) : (interByteExpires s).store = s.store := by
  simp only [interByteExpires]; split <;> rfl

theorem ignLine_store (level : Bool) (s : State) : (ignLine level s).store = s.store := by
  simp only [ignLine]; split <;> rfl

theorem doorLine_store (d : Door) (level : Bool) (s : State) : (doorLine d level s).store = s.store := by
  simp only [doorLine]; split <;> rfl

theorem speedChanges_store (speed : Option Nat) (freshness : Bool) (s : State) :
    (speedChanges speed freshness s).store = s.store :=
  (postEvent_store (speedChanges_remMoves ..)).trans (evaluateHold_store _)

theorem frameHandled_store' (s : State) : (frameHandled s).store = s.store := by
  rcases h : s.verd.slot with _ | f
  · rw [frameHandled_empty h]
  · exact frameHandled_store h

theorem handed_store {v : State} (h : Handed s v) : v.store = s.store := by cases h <;> rfl

theorem Leaves.commitKept {sw : Bool} (h : Leaves s sw t) : CommitKept s t := by
  cases h with
  | mapWritten recs ps hidle =>
    exact .of_idle hidle (by rw [startCommit_store, mapApply_store]; rfl)
  | probeArmed i => exact .of_store (by rw [armProbe_eq])
  | speedReported b => exact .of_store (speedChanges_store ..)
  | remindersSet x hidle =>
    exact .of_idle hidle (by rw [startCommit_store, postEvent_store (applySettings_remMoves ..)])
  | cleared hidle =>
    refine .of_idle hidle ?_
    have h : (clearMap (clearSettings s)).store = (clearSettings s).store := mapApply_store ..
    rw [clearCommit, h, clearSettings_eq, postEvent_store (clearSettings_remMoves s)]
    rfl
  | profileWritten _ hidle | timingSet _ hidle | calWritten _ _ hidle | retainSet _ hidle | switchesBarred _ hidle =>
    exact .of_idle hidle rfl
  | _ => exact .of_store rfl

/-- An owner that may not move the switches keeps them. -/
theorem Leaves.switches (h : Leaves s false t) : t.store.switches = s.store.switches := by
  cases h with
  | mapWritten recs ps hidle => rw [startCommit_store, mapApply_store]; rfl
  | probeArmed i => rw [armProbe_eq]
  | speedReported b => rw [speedChanges_store]
  | remindersSet x hidle => rw [startCommit_store, postEvent_store (applySettings_remMoves ..)]
  | _ => rfl

theorem releaseCapture_switches (s : State) : (releaseCapture s).store.switches = s.store.switches := by
  unfold releaseCapture
  split
  · split <;> rfl
  · rfl

theorem finishCapture_store (passes : Bool) (s : State) : (finishCapture passes s).store = s.store := by
  unfold finishCapture
  split
  · split
    · split <;> rfl
    · rfl
  · rfl

theorem commitCompletes_switches (passes : Bool) (s : State) :
    (commitCompletes passes s).store.switches = s.store.switches := by
  unfold commitCompletes
  split
  · dsimp only
    rw [releaseCapture_switches]
    split
    · rw [finishCapture_store]; rfl
    · rfl
  · rfl

theorem clearCompletes_switches (passes : BitVec 6) (s : State) :
    (clearCompletes passes s).store.switches = s.store.switches := by
  simp only [clearCompletes]
  split
  · rw [releaseCapture_switches, postAll_store]
  · rfl

/-- The store after a command: its sections and its commit are moved only by reset, load and completions, its switches only
by their own requests, reset and load. -/
theorem Does.store {c : Instr} (h : Does s c t) :
    (touchesStore c = false → CommitKept s t) ∧ (touchesSwitches c = false → t.store.switches = s.store.switches) := by
  have of_store (h : t.store = s.store) : (touchesStore c = false → CommitKept s t) ∧
      (touchesSwitches c = false → t.store.switches = s.store.switches) := ⟨fun _ => .of_store h, fun _ => by rw [h]⟩
  cases h with
  | nothing | rowLine | replyLeft | silenced | frameStarted | lengthTaken | byteTaken | checkTaken | frameDropped
  | doorMoved => exact of_store rfl
  | reset => exact ⟨nofun, nofun⟩
  | loaded straps => exact ⟨nofun, nofun⟩
  | committed passes => exact ⟨nofun, fun _ => commitCompletes_switches passes s⟩
  | clearCommitted passes => exact ⟨nofun, fun _ => clearCompletes_switches passes s⟩
  | ignLine level => exact of_store (ignLine_store ..)
  | doorLine d level => exact of_store (doorLine_store ..)
  | turnedOff => exact of_store (ignitionOff_store s)
  | turnedOn => exact of_store (ignitionOn_store s)
  | doorDiscards d => exact of_store (by rw [postEvent, postAll_store]; rfl)
  | rowIn r => exact of_store (installRow_store r s)
  | rowOut r => exact of_store (removeRow_store r s)
  | intervalExpired => exact of_store (intervalExpires_scanMoves s).store
  | settled => exact of_store (settleEnds_scanMoves s).store
  | converted raw anch => exact of_store (conversionCompletes_scanMoves raw anch s).store
  | markerWaited => exact of_store (pushWaiting_scanMoves s).store
  | entryDone => exact of_store (entryCompletes_store s)
  | markerTaken => exact of_store (takeBlocked_store s)
  | frameDone => exact ⟨fun _ => (frameFinishes_commitKept s).1, fun _ => (frameFinishes_commitKept s).2⟩
  | handled => exact of_store (frameHandled_store' s)
  | remStepped => exact of_store (postEvent_store (timerStep_remMoves s))
  | startExpired => exact of_store (postEvent_store (startIntervalExpires_remMoves s))
  | visualExpired i => exact of_store (postEvent_store (visualExpires_remMoves i s))
  | budgetExpired i => exact of_store (postEvent_store (budgetExpires_remMoves i s))
  | speedLost => exact of_store (speedChanges_store ..)
  | retentionExpired => exact of_store (by rw [retentionExpires_eq, postAll_store])
  | linkFailed st code => exact of_store (linkError_store ..)
  | timedOut => exact of_store (interByteExpires_store s)
  | restarted => exact of_store (restartBlocks_store s)
  | @answered _ v sw a code hready hv ha hsw =>
    refine ⟨fun _ => (CommitKept.of_store (handed_store hv)).trans (ha.leaves.commitKept.trans (.of_store rfl)),
      fun hno => ?_⟩
    have hfalse : sw = false := by
      cases sw
      · rfl
      · rw [hsw rfl] at hno; exact hno
    subst hfalse
    exact (ha.leaves.switches).trans (by rw [handed_store hv])

/-- Settles O60, case by case of what a command leaves. -/
theorem commitsRunAloneAndSwitchesMoveOnlyByTheirRequests :
    Obligations.CommitsRunAloneAndSwitchesMoveOnlyByTheirRequests := by
  intro c s t h
  obtain ⟨hcommit, hswitches⟩ := (does_of_exec h).store
  exact ⟨fun hc => ⟨(hcommit hc).stored, (hcommit hc).commit⟩, hswitches⟩

end Sys2Proof.Machine

/-! SUPPORT. The laws of the cabin records: the Seat Table, the advisories, the reminders and the snapshots, in four bundles
that every operation is held to. First what leaves all four alone, then the laws of the Seat Table (O54). -/

namespace Sys2Proof.Machine

open Sys2Proof.Safety

variable {s t u : State}

/-- The laws of the map and the Seat Table. -/
abbrev SeatLaws (s : State) : Prop := MapLaw s ∧ LifecycleLaw s ∧ VerdictLaw s ∧ RecordsLaw s

/-- The laws of the advisories. -/
abbrev AdvLaws (s : State) : Prop := MappedLaw s ∧ AdvisoryLaw s ∧ MailboxLaw s

/-- The laws of the reminders. -/
abbrev RemLaws (s : State) : Prop := ReminderLaw s ∧ TimerLaw s ∧ StartLaw s ∧ SummaryLaw s

/-- The laws of the cabin records, and the setting that keeps a start interval from being loaded with 0 (R98). -/
structure CabinLaws (s : State) : Prop where
  seats : SeatLaws s
  adv : AdvLaws s
  rem : RemLaws s
  retention : RetentionLaw s
  start : 10 ≤ s.rem.settings.tStart

theorem cabin_of_laws (h : Laws s) : CabinLaws s := by
  obtain ⟨-, -, -, -, -, -, -, -, -, -, htStart, -⟩ := h.settings
  exact ⟨⟨h.map, h.lifecycle, h.verdict, h.records⟩, ⟨h.mapped, h.advisory, h.mailbox⟩,
    ⟨h.reminder, h.timer, h.start, h.summary⟩, h.retention, htStart⟩

/-! ## What moves no cabin record -/

section
variable (h : Quiet s t)
include h

theorem Quiet.mapRows : t.cmap.rows = s.cmap.rows := by rw [h.cmap]
theorem Quiet.mapSeats : t.cmap.seats = s.cmap.seats := by rw [h.cmap]
theorem Quiet.valid : t.cmap.valid = s.cmap.valid := by rw [h.cmap]
theorem Quiet.rowState : t.cmap.rowState = s.cmap.rowState := by rw [h.cmap]
theorem Quiet.rowDebounce : t.cmap.rowDebounce = s.cmap.rowDebounce := by rw [h.cmap]
theorem Quiet.advisorySeat (p : Pos) : t.cmap.advisorySeat p = s.cmap.advisorySeat p := by rw [h.cmap]; rfl
theorem Quiet.lifecycle (i : Seat) : (t.verd.seats.get i).lifecycle = (s.verd.seats.get i).lifecycle := by
  rw [h.seats i]
theorem Quiet.confirmed (i : Seat) : (t.verd.seats.get i).confirmed = (s.verd.seats.get i).confirmed := by
  rw [h.seats i]
theorem Quiet.record (i : Seat) (hr : RecordLaw (s.verd.seats.get i)) : RecordLaw (t.verd.seats.get i) := by
  rw [h.seats i]; exact hr
theorem Quiet.caseOf (i : Seat) : Machine.caseOf (t.cmap.seats.get i) (t.verd.seats.get i) =
    Machine.caseOf (s.cmap.seats.get i) (s.verd.seats.get i) := by rw [h.mapSeats, h.seats i]; rfl
theorem Quiet.personOccupied (i : Seat) : Machine.personOccupied (t.cmap.seats.get i) (t.verd.seats.get i) =
    Machine.personOccupied (s.cmap.seats.get i) (s.verd.seats.get i) := by rw [h.mapSeats, h.seats i]; rfl

theorem Quiet.seatLaws (hs : SeatLaws s) : SeatLaws t := by
  obtain ⟨hmap, hlife, hverdict, hrecords⟩ := hs
  refine ⟨?_, ?_, ?_, fun i => h.record i (hrecords i)⟩
  · simp only [MapLaw, h.mapRows, h.mapSeats, h.valid, h.rowState, h.rowDebounce]; exact hmap
  · simp only [LifecycleLaw, h.lifecycle, h.mapSeats, h.valid, h.rowState]; exact hlife
  · simp only [VerdictLaw, h.lifecycle, h.confirmed]; exact hverdict

theorem Quiet.advLaws (hs : AdvLaws s) : AdvLaws t := by
  simp only [AdvLaws, MappedLaw, AdvisoryLaw, MailboxLaw, h.adv, h.sup, h.advisorySeat, h.lifecycle, h.confirmed]
  exact hs

theorem Quiet.remLaws (hs : RemLaws s) : RemLaws t := by
  simp only [RemLaws, ReminderLaw, TimerLaw, StartLaw, SummaryLaw, h.rem, h.ignition, h.caseOf, h.personOccupied]
  exact hs

theorem Quiet.retentionLaw (hs : RetentionLaw s) : RetentionLaw t := by
  simp only [RetentionLaw, h.timer, h.snapshots, h.ignition, h.lifecycle]
  exact hs

theorem Quiet.cabin (hs : CabinLaws s) : CabinLaws t :=
  ⟨h.seatLaws hs.seats, h.advLaws hs.adv, h.remLaws hs.rem, h.retentionLaw hs.retention, by rw [h.rem]; exact hs.start⟩

end

/-! ## The laws of the Seat Table, read from CMAP and the table -/

theorem SeatLaws.congr (hs : SeatLaws s) (hcmap : t.cmap = s.cmap) (hseats : t.verd.seats = s.verd.seats) :
    SeatLaws t := by
  simp only [SeatLaws, MapLaw, LifecycleLaw, VerdictLaw, RecordsLaw, hcmap, hseats]
  exact hs

/-- What an image needs for the law of the map while it is valid: row 0 is not removable, advisory seats stand in row 0. -/
structure ImageFits (recs : MapRecs) : Prop where
  row0 : (recs.rows.get 0).removable = false
  advisory : ∀ i : Seat, (recs.seats.get i).fitted = true → (recs.seats.get i).advisoryPos ≠ none →
    (recs.seats.get i).rowIx = 0

theorem lifecycleOf_unmapped_iff (c : CMap) (i : Seat) :
    c.lifecycleOf i = .unmapped ↔ ¬ (c.valid = true ∧ (c.seats.get i).fitted = true) := by
  unfold CMap.lifecycleOf
  dsimp only
  cases hv : c.valid <;> cases hf : (c.seats.get i).fitted <;> simp
  split <;> simp_all

theorem lifecycleOf_absent_iff (c : CMap) (i : Seat) :
    c.lifecycleOf i = .absent ↔
      c.valid = true ∧ (c.seats.get i).fitted = true ∧ c.rowState.get (c.seats.get i).rowIx = .removed := by
  unfold CMap.lifecycleOf
  dsimp only
  cases hv : c.valid <;> cases hf : (c.seats.get i).fitted <;> simp

theorem freshSeat_record (m : SeatMap) (l : Lifecycle) : RecordLaw (freshSeat m l) := by
  simp [RecordLaw, freshSeat]

/-- A table of fresh records with the lifecycles of the map meets the laws (R12, R13). -/
theorem freshSeats_laws (hseats : t.verd.seats = t.cmap.freshSeats) (hmap : MapLaw t) : SeatLaws t := by
  refine ⟨hmap, fun i => ?_, fun i _ => ?_, fun i => ?_⟩ <;> rw [hseats] <;> simp only [CMap.freshSeats, Tab.get_ofFn]
  · exact ⟨lifecycleOf_unmapped_iff .., lifecycleOf_absent_iff ..⟩
  · rfl
  · exact freshSeat_record ..

/-- CMAP right after an image is applied meets the law of the map (R7). -/
theorem applied_mapLaw {recs : MapRecs} {valid : Bool} {c : CMap} {p : Pins} (ht : t.cmap = c.applied p recs valid)
    (h : valid = true → ImageFits recs) : MapLaw t := by
  rw [MapLaw, ht]
  refine ⟨fun hv => (h hv).row0, fun hv => (h hv).advisory, fun r => ?_⟩
  simp only [CMap.applied, Tab.get_ofFn]
  cases valid <;> cases (recs.rows.get r).removable <;> simp

theorem mapApply_seatLaws {recs : MapRecs} {valid : Bool} (h : valid = true → ImageFits recs) (s : State) :
    SeatLaws (mapApply recs valid s) := by
  refine freshSeats_laws ?_ (applied_mapLaw (mapApply_cmap recs valid s) h)
  rw [mapApply_verd, mapApply_cmap]

theorem restartBlocks_seatLaws (h : MapLaw s) : SeatLaws (restartBlocks s) := by
  refine freshSeats_laws (by simp) ?_
  rw [MapLaw, restartBlocks_cmap]
  exact h

/-! ### Rows (R10, R11) -/

/-- A row of a valid map that is INSTALLED or REMOVED is removable, and so not row 0. -/
theorem removable_of_notFixed (h : MapLaw s) {r : Row} (hr : s.cmap.rowState.get r ≠ .fixed) :
    s.cmap.valid = true ∧ (s.cmap.rows.get r).removable = true ∧ r ≠ 0 := by
  obtain ⟨h0, -, hrows⟩ := h
  have hvr := Classical.not_not.1 fun hn => hr ((hrows r).1.2 hn)
  refine ⟨hvr.1, hvr.2, fun e => ?_⟩
  subst e
  have := h0 hvr.1
  rw [hvr.2] at this
  exact absurd this (by decide)

theorem rowBecomes_inRow (c : CMap) (r : Row) (st : RowState) : (c.rowBecomes r st).inRow r = c.inRow r := rfl

theorem inRow_iff (c : CMap) (r : Row) (i : Seat) :
    c.inRow r i = true ↔ (c.seats.get i).fitted = true ∧ (c.seats.get i).rowIx = r := by simp [CMap.inRow]

/-- A row that moves between INSTALLED and REMOVED with its seats fresh in the lifecycle of its state keeps the laws. -/
theorem rowMoved_seatLaws (h : SeatLaws s) {r : Row} {st : RowState} {l : Lifecycle}
    (hr : s.cmap.rowState.get r ≠ .fixed) (hst : st ≠ .fixed) (hl : l ≠ .unmapped) (hlst : l = .absent ↔ st = .removed)
    (hcmap : t.cmap = s.cmap.rowBecomes r st)
    (hseats : t.verd.seats = s.freshRow (s.cmap.rowBecomes r st) r l) : SeatLaws t := by
  obtain ⟨hmap, hlife, hverdict, hrecords⟩ := h
  obtain ⟨hvalid, hrem, -⟩ := removable_of_notFixed hmap hr
  have hget (i : Seat) : t.verd.seats.get i =
      if s.cmap.inRow r i = true then freshSeat (s.cmap.seats.get i) l else s.verd.seats.get i := by
    rw [hseats]; simp [State.freshRow, rowBecomes_inRow]; rfl
  refine ⟨?_, fun i => ?_, fun i => ?_, fun i => ?_⟩
  · obtain ⟨h0, hadv, hrows⟩ := hmap
    rw [MapLaw, hcmap]
    refine ⟨h0, hadv, fun q => ?_⟩
    simp only [CMap.rowBecomes, Tab.get_set]
    by_cases hq : q = r
    · subst hq; simp [hst, hvalid, hrem]
    · simpa [hq] using hrows q
  · rw [hget, hcmap]
    obtain ⟨hun, hab⟩ := hlife i
    have hrow : (s.cmap.rowBecomes r st).rowState.get (s.cmap.seats.get i).rowIx =
        if (s.cmap.seats.get i).rowIx = r then st else s.cmap.rowState.get (s.cmap.seats.get i).rowIx := by
      simp [CMap.rowBecomes, Tab.get_set]
    by_cases hi : s.cmap.inRow r i = true
    · rw [if_pos hi]
      obtain ⟨hfit, hix⟩ := (inRow_iff ..).1 hi
      rw [show (s.cmap.rowBecomes r st).seats = s.cmap.seats from rfl, hrow, if_pos hix]
      simp [freshSeat, hl, hlst, hvalid, hfit, CMap.rowBecomes]
    · rw [if_neg hi, show (s.cmap.rowBecomes r st).seats = s.cmap.seats from rfl, hrow]
      refine ⟨hun, ?_⟩
      rw [hab]
      by_cases hix : (s.cmap.seats.get i).rowIx = r
      · have hfit : ¬ (s.cmap.seats.get i).fitted = true := fun hf => hi ((inRow_iff ..).2 ⟨hf, hix⟩)
        simp [hfit]
      · rw [if_neg hix]; rfl
  · rw [hget]
    split
    · exact fun _ => rfl
    · exact hverdict i
  · rw [hget]
    split
    · exact freshSeat_record ..
    · exact hrecords i

theorem installRow_seatLaws (h : SeatLaws s) {r : Row} (hr : s.cmap.rowState.get r = .removed) :
    SeatLaws (installRow r s) :=
  rowMoved_seatLaws (st := .installed) (l := .active) h (by simp [hr]) (by decide) (by decide) (by decide)
    (installRow_cmap r s) (by simp)

theorem removeRow_seatLaws (h : SeatLaws s) {r : Row} (hr : s.cmap.rowState.get r = .installed) :
    SeatLaws (removeRow r s) :=
  rowMoved_seatLaws (st := .removed) (l := .absent) h (by simp [hr]) (by decide) (by decide) (by decide)
    (removeRow_cmap r s) (by simp)

/-! ### Resumed seats (R145) -/

theorem resumedSeats_get (s : State) (i : Seat) :
    (resumedSeats s).get i =
      if s.resumes i = true then
        (s.verd.seats.get i).resumed (s.cmap.seats.get i) (((s.ret.snapshots.get i).map Snapshot.confirmed).getD .unknown)
      else s.verd.seats.get i := by
  simp only [resumedSeats, Tab.get_ofFn]
  rcases hsnap : s.ret.snapshots.get i with _ | snap
  · have hno : s.resumes i = false := by simp [State.resumes, hsnap]
    simp [hno]
  · simp

theorem resumes_iff (s : State) (i : Seat) :
    s.resumes i = true ↔ (s.ret.snapshots.get i).isSome = true ∧ (s.verd.seats.get i).lifecycle = .active := by
  simp [State.resumes]

theorem ignitionOn_seatLaws (h : SeatLaws s) : SeatLaws (ignitionOn s) := by
  obtain ⟨hmap, hlife, hverdict, hrecords⟩ := h
  have hl (i : Seat) : ((ignitionOn s).verd.seats.get i).lifecycle = (s.verd.seats.get i).lifecycle := by
    rw [ignitionOn_verd, resumedSeats_get]; split <;> rfl
  refine ⟨?_, fun i => ?_, fun i hi => ?_, fun i => ?_⟩
  · rw [MapLaw, ignitionOn_cmap]; exact hmap
  · rw [hl, ignitionOn_cmap]; exact hlife i
  · rw [hl] at hi
    rw [ignitionOn_verd, resumedSeats_get, if_neg fun hr => hi ((resumes_iff ..).1 hr).2]
    exact hverdict i hi
  · rw [ignitionOn_verd, resumedSeats_get]
    split
    · obtain ⟨-, -, -, -, -, -, -, hts, hms, hcs, -⟩ := hrecords i
      refine ⟨?_, ?_, ?_, ?_, ?_, ?_, ?_, hts, hms, hcs, ?_⟩ <;> simp
    · exact hrecords i

/-! ### Frames (R64) -/

/-- The part of the law of a record that a judgement writes: candidate, count, history and evicted code (R70 to R72). -/
structure Judged (c : Option Verdict) (n : Nat) (h : List Verdict) (e : Option Verdict) : Prop where
  candidate : c = none ↔ n = 0
  count : n ≤ 255
  known : c ≠ some .unknown
  length : h.length ≤ 8
  history : Verdict.unknown ∉ h
  evicted : e ≠ some .unknown

/-- The law of a record without latched-while-empty, which the last step of a frame writes again (R78). -/
structure InRange (r : SeatRec) : Prop where
  judged : Judged r.candidate r.candidateCount r.history r.evicted
  buckle : r.buckleStreak ≤ 3
  tension : r.tensionStreak ≤ 2
  mat : r.matStreak ≤ 3
  clean : r.cleanStreak ≤ 5

theorem inRange_of_law {r : SeatRec} (h : RecordLaw r) : InRange r := by
  obtain ⟨hc, hcount, hcand, hlen, hmem, hev, hbs, hts, hms, hcs, -⟩ := h
  exact ⟨⟨hc, hcount, hcand, hlen, hmem, hev⟩, hbs, hts, hms, hcs⟩

/-- The last step of a frame makes a record in range lawful (R78). -/
theorem InRange.latchedEmptyStep {r : SeatRec} (h : InRange r) : RecordLaw (latchedEmptyStep r) := by
  obtain ⟨⟨hc, hcount, hcand, hlen, hmem, hev⟩, hbs, hts, hms, hcs⟩ := h
  exact ⟨hc, hcount, hcand, hlen, hmem, hev, hbs, hts, hms, hcs, (latchedEmptyStep_iff r).1⟩

theorem matStreaks_inRange (f : MatFrame) {r : SeatRec} (h : InRange r) : InRange (matStreaks f r) := by
  unfold matStreaks
  split
  · exact ⟨h.judged, h.buckle, h.tension, Nat.min_le_left .., Nat.zero_le _⟩
  · exact ⟨h.judged, h.buckle, h.tension, Nat.zero_le _, Nat.min_le_left ..⟩

theorem matStep_inRange (f : MatFrame) {r : SeatRec} (h : InRange r) : InRange (matStep f r).1 := by
  have hs := matStreaks_inRange f h
  unfold matStep
  dsimp only
  split
  · split
    · exact ⟨⟨by simp [SeatRec.faulted], by simp [SeatRec.faulted], by simp [SeatRec.faulted], by simp [SeatRec.faulted],
        by simp [SeatRec.faulted], by simp [SeatRec.faulted]⟩, hs.buckle, hs.tension, hs.mat, hs.clean⟩
    · exact hs
  · split
    · exact ⟨hs.judged, hs.buckle, hs.tension, hs.mat, hs.clean⟩
    · exact hs
  · exact hs

theorem goodBand_inRange (i : Seat) (b : Bool) {r : SeatRec} (h : InRange r) : InRange (goodBand i b r).1 := by
  simp only [goodBand]
  split <;> exact ⟨h.judged, Nat.zero_le _, h.tension, h.mat, h.clean⟩

theorem badBand_inRange (i : Seat) {r : SeatRec} (h : InRange r) : InRange (badBand i r).1 := by
  simp only [badBand]
  split <;> exact ⟨h.judged, Nat.min_le_left .., h.tension, h.mat, h.clean⟩

theorem buckleStep_inRange (f : MatFrame) {r : SeatRec} (h : InRange r) : InRange (buckleStep f r).1 := by
  unfold buckleStep
  split
  · exact h
  · exact goodBand_inRange _ _ h
  · exact goodBand_inRange _ _ h
  · exact badBand_inRange _ h
  · exact badBand_inRange _ h

theorem anchorStep_inRange (m : SeatMap) (f : MatFrame) {r : SeatRec} (h : InRange r) : InRange (anchorStep m f r) := by
  rw [anchorStep_eq]
  exact ⟨h.judged, h.buckle, h.tension, h.mat, h.clean⟩

theorem tensionStep_inRange (f : MatFrame) {r : SeatRec} (h : InRange r) : InRange (tensionStep f r).1 := by
  have hkeep {b : Bool} {n : Nat} (hn : n ≤ 2) : InRange { r with tensionFault := b, tensionStreak := n } :=
    ⟨h.judged, h.buckle, hn, h.mat, h.clean⟩
  unfold tensionStep
  split
  · exact h
  rename_i valid _
  by_cases hd : r.tensionFault = valid
  · rw [if_pos hd]
    by_cases hn : (if valid = true then 2 else 3) ≤ r.tensionStreak + 1
    · rw [if_pos hn]
      exact hkeep (Nat.zero_le _)
    · rw [if_neg hn]
      refine hkeep (b := r.tensionFault) ?_
      cases valid <;> simp at hn <;> omega
  · rw [if_neg hd]
    exact hkeep (b := r.tensionFault) (Nat.zero_le _)

theorem followed_inRange (m : SeatMap) (f : MatFrame) {r : SeatRec} (h : InRange r) : InRange (followed m f r).1 :=
  tensionStep_inRange f (anchorStep_inRange m f (buckleStep_inRange f (matStep_inRange f h)))

theorem pushed_inRange (p : Profile) (f : MatFrame) {v : Verdict} (hv : v ≠ .unknown) {r : SeatRec} (h : InRange r) :
    InRange (pushed p f v r) := by
  refine ⟨⟨h.judged.candidate, h.judged.count, h.judged.known, ?_, fun hm => ?_, ?_⟩, h.buckle, h.tension, h.mat, h.clean⟩
  · exact List.length_take_le ..
  · rcases List.mem_cons.1 (List.mem_of_mem_take hm) with e | e
    · exact hv e.symm
    · exact h.judged.history e
  · simp only [pushed]
    split
    · exact h.judged.evicted
    · exact fun e => h.judged.history (List.mem_of_getLast? e)

theorem confirmation_inRange (p : Profile) {v : Verdict} (hv : v ≠ .unknown) {r : SeatRec} (h : InRange r) (i : Seat) :
    InRange (confirmStep p i v r).1 := by
  rw [confirmStep_eq]
  refine ⟨?_, h.buckle, h.tension, h.mat, h.clean⟩
  have hcount : 1 ≤ countOf v r ∧ countOf v r ≤ 255 := by unfold countOf; split <;> omega
  unfold confirmation
  split
  · exact ⟨h.judged.candidate, h.judged.count, h.judged.known, h.judged.length, h.judged.history, h.judged.evicted⟩
  split
  · exact ⟨by simp, by simp, by simp, h.judged.length, h.judged.history, h.judged.evicted⟩
  split
  · exact ⟨by simp, by simp, by simp, h.judged.length, h.judged.history, h.judged.evicted⟩
  · exact ⟨by simp; omega, hcount.2, by simpa using hv, h.judged.length, h.judged.history, h.judged.evicted⟩

theorem instantaneous_known (p : Profile) (r : SeatRec) (f : MatFrame) : instantaneous p r f ≠ .unknown := by
  simp only [instantaneous]
  repeat' split
  all_goals simp

theorem judge_inRange (p : Profile) (f : MatFrame) {r : SeatRec} (h : InRange r) : InRange (judge p f r).1 := by
  rw [judge_eq p f r _ rfl]
  have hv := instantaneous_known p r f
  rw [instantaneous_eq_verdictAt] at hv
  exact confirmation_inRange p hv (pushed_inRange p f hv h) f.seat

theorem judge_lifecycle (p : Profile) (f : MatFrame) (r : SeatRec) : (judge p f r).1.lifecycle = r.lifecycle := by
  rw [judge_eq p f r _ rfl, confirmStep_eq]
  rfl

/-- What a seat with a mat keeps through a frame: it has one still, and stays UNKNOWN while it is not ACTIVE. -/
structure Followed (r : SeatRec) : Prop where
  mounted : r.lifecycle = .active ∨ r.lifecycle = .faulted
  unknown : r.lifecycle ≠ .active → r.confirmed = .unknown

theorem matStep_followed (f : MatFrame) {r : SeatRec} (h : Followed r) : Followed (matStep f r).1 := by
  have hl : (matStreaks f r).lifecycle = r.lifecycle ∧ (matStreaks f r).confirmed = r.confirmed := by
    unfold matStreaks; split <;> exact ⟨rfl, rfl⟩
  have hs : Followed (matStreaks f r) := ⟨hl.1 ▸ h.mounted, hl.1 ▸ hl.2 ▸ h.unknown⟩
  unfold matStep
  dsimp only
  split
  · split
    · exact ⟨.inr rfl, fun _ => rfl⟩
    · exact hs
  · split
    · exact ⟨.inl rfl, fun hn => absurd rfl hn⟩
    · exact hs
  · exact hs

theorem followed_followed (m : SeatMap) (f : MatFrame) {r : SeatRec} (h : Followed r) : Followed (followed m f r).1 := by
  have hm := matStep_followed f h
  obtain ⟨b, a, n, hb⟩ := buckleStep_frame f (matStep f r).1
  obtain ⟨k, ht⟩ := tensionStep_frame f (anchorStep m f (buckleStep f (matStep f r).1).1)
  rw [followed, ht, anchorStep_eq, hb]
  exact ⟨hm.mounted, hm.unknown⟩

/-- A frame keeps a mounted seat mounted, its verdict UNKNOWN while it is not ACTIVE, and its record in range (R64). -/
theorem handleFrame_kept (m : SeatMap) (p : Profile) (f : MatFrame) {r : SeatRec} (h : Followed r) (hr : InRange r) :
    Followed (handleFrame m p f r).1 ∧ RecordLaw (handleFrame m p f r).1 := by
  have hf := followed_followed m f h
  have hi := followed_inRange m f hr
  rw [handleFrame_eq m p f r h.mounted]
  split
  · rename_i hacc
    have hl : (judge p f (followed m f r).1).1.lifecycle = .active := by
      rw [judge_lifecycle]
      simp only [accepted, Bool.and_eq_true, decide_eq_true_eq] at hacc
      exact hacc.1
    exact ⟨⟨.inl hl, fun hn => absurd hl hn⟩, (judge_inRange p f hi).latchedEmptyStep⟩
  · exact ⟨⟨hf.mounted, hf.unknown⟩, hi.latchedEmptyStep⟩

/-- A frame of a seat that is UNMAPPED or ABSENT leaves its record. -/
theorem handleFrame_unmounted (m : SeatMap) (p : Profile) (f : MatFrame) {r : SeatRec}
    (h : ¬ (r.lifecycle = .active ∨ r.lifecycle = .faulted)) : handleFrame m p f r = (r, []) := by
  unfold handleFrame
  split
  · rfl
  · rfl
  · rename_i h1 h2
    rcases hl : r.lifecycle <;> simp_all

theorem frameHandled_seatLaws (h : SeatLaws s) {f : MatFrame} (hf : s.verd.slot = some f) :
    SeatLaws (frameHandled s) := by
  by_cases hm : (s.verd.seats.get f.seat).lifecycle = .active ∨ (s.verd.seats.get f.seat).lifecycle = .faulted
  case neg =>
    refine h.congr (by simp [frameHandled_cmap hf]) ?_
    rw [frameHandled_verd hf]
    refine Tab.ext_get fun i => ?_
    rw [Tab.get_set]
    split
    · subst_vars; rw [handledBy, handleFrame_unmounted _ _ _ hm]
    · rfl
  obtain ⟨hmap, hlife, hverdict, hrecords⟩ := h
  obtain ⟨hkept, hrec⟩ := handleFrame_kept (s.cmap.seats.get f.seat) (profileAt s f.seat) f
    (r := s.verd.seats.get f.seat) ⟨hm, hverdict f.seat⟩ (inRange_of_law (hrecords f.seat))
  have hget (i : Seat) : (frameHandled s).verd.seats.get i =
      if i = f.seat then (handledBy s f).1 else s.verd.seats.get i := by
    rw [frameHandled_verd hf]; exact Tab.get_set ..
  refine ⟨?_, fun i => ?_, fun i => ?_, fun i => ?_⟩
  · rw [MapLaw, frameHandled_cmap hf]; exact hmap
  · rw [hget, frameHandled_cmap hf]
    split
    · subst_vars
      obtain ⟨hun, hab⟩ := hlife f.seat
      rw [← hun, ← hab]
      rcases hm with hm | hm <;> rcases hkept.mounted with hk | hk <;> simp [hm, handledBy, hk]
    · exact hlife i
  · rw [hget]
    split
    · exact hkept.unknown
    · exact hverdict i
  · rw [hget]
    split
    · exact hrec
    · exact hrecords i

end Sys2Proof.Machine

/-! SUPPORT. Every way in which a command, or the count of the retention timer, moves a cabin record; what it keeps follows
case by case. The laws of the Seat Table come first (O54). -/

namespace Sys2Proof.Machine

open Sys2Proof.Safety

variable {s t u : State}

/-! ## Images that pass R4, and presets -/

theorem firstFailing_none_iff (l : List (Bool × MapReason)) : firstFailing l = none ↔ ∀ x ∈ l, x.1 = false := by
  induction l with
  | nil => simp [firstFailing]
  | cons x l ih => obtain ⟨b, r⟩ := x; cases b <;> simp [firstFailing, ih]

theorem firstRecord_none_iff {n : Nat} (kind : RecordKind) (test : Fin n → Option MapReason) (l : List (Fin n)) :
    firstRecord kind test l = none ↔ ∀ i ∈ l, test i = none := by
  induction l with
  | nil => simp [firstRecord]
  | cons i l ih => cases h : test i <;> simp [firstRecord, h, ih]

/-- What an image that passes R4 gives, test by test. -/
theorem mapFailure_none_iff (m : MapRecs) (ps : Tab 4 Profile) :
    mapFailure m ps = none ↔ (∀ r : Row, m.rowFailure r = none) ∧ (∀ i : Seat, m.seatFailure i = none) ∧
      m.noSeat = false ∧ ∀ k : ProfileIx, (ps.get k).failure = none := by
  have hrow := firstRecord_none_iff .row m.rowFailure (List.finRange 5)
  have hseat := firstRecord_none_iff .seat m.seatFailure allSeats
  have hprofile := firstRecord_none_iff .profile (fun k => (ps.get k).failure) (List.finRange 4)
  simp only [List.mem_finRange, allSeats, forall_const] at hrow hseat hprofile
  rw [← hrow, ← hseat, ← hprofile, mapFailure_eq_or, allSeats]
  cases m.noSeat <;> simp [Option.or_eq_none_iff, and_assoc]

theorem imageFits_of_valid {recs : MapRecs} {ps : Tab 4 Profile} (h : mapFailure recs ps = none) : ImageFits recs := by
  obtain ⟨hrow, hseat, -⟩ := (mapFailure_none_iff recs ps).1 h
  constructor
  · have h0 := (firstFailing_none_iff _).1 (hrow 0) _ (List.mem_cons_self ..)
    simpa using h0
  · intro i hfit hpos
    have hi := hseat i
    rw [MapRecs.seatFailure] at hi
    simp only [hfit, if_true] at hi
    have hadv := (firstFailing_none_iff _).1 hi
      (decide ((recs.seats.get i).advisory ≠ 0xF) && decide ((recs.seats.get i).row ≠ 0), .advisoryRow) (by simp)
    have hmapped : (recs.seats.get i).advisory ≠ 0xF := fun e => hpos (by rw [SeatMap.advisoryPos, e]; rfl)
    have hrow0 : (recs.seats.get i).advisory ≠ 0xF → (recs.seats.get i).row = 0 := by simpa using hadv
    rw [SeatMap.rowIx, hrow0 hmapped]
    rfl

theorem preset_fits (straps : BitVec 2) : ImageFits (preset straps) := by
  constructor
  · revert straps; decide
  · have h : ∀ (straps : BitVec 2) (i : Seat), ((preset straps).seats.get i).fitted = true →
        ((preset straps).seats.get i).advisoryPos ≠ none → ((preset straps).seats.get i).rowIx = 0 := by
      intro straps i hfit hpos
      rw [preset, Tab.get_ofFn] at hfit hpos ⊢
      rcases hm : (presetSeats straps)[i.val]? with _ | m
      · rw [hm] at hfit; simp [unfittedPresetSeat] at hfit
      · rw [hm] at hpos
        have hall : ∀ straps : BitVec 2, ∀ m ∈ presetSeats straps, m.advisoryPos ≠ none → m.rowIx = 0 := by decide
        exact hall straps m (List.mem_of_getElem? hm) hpos
    exact h straps

/-- The records that straps choose fit a valid map, when they passed R4 or are a preset (R5). -/
theorem strapRecords_fits {straps : BitVec 2} {stored : Option MapRecs} {ps : Tab 4 Profile} {valid : Bool}
    (h : valid = true → straps = 0 → mapFailure (strapRecords straps stored) ps = none) (hv : valid = true) :
    ImageFits (strapRecords straps stored) := by
  by_cases h0 : straps = 0
  · exact imageFits_of_valid (h hv h0)
  · rw [strapRecords, if_neg h0]; exact preset_fits straps

/-! ## Row lines (R9) -/

theorem removable_of_lineIs {r : RowRec} {line : Line} (h : r.lineIs line = true) : r.removable = true :=
  (Bool.and_eq_true_iff.1 h).1

theorem rowLine_seatLaws (h : SeatLaws s) (p : Pins) (line : Line) (level : Bool) :
    SeatLaws { s with pins := p, cmap := s.cmap.lineChanged line level } := by
  obtain ⟨⟨h0, hadv, hrows⟩, hlife, hverdict, hrecords⟩ := h
  refine ⟨⟨h0, hadv, fun r => ⟨(hrows r).1, ?_⟩⟩, hlife, hverdict, hrecords⟩
  simp only [CMap.lineChanged, Tab.get_ofFn]
  split
  · rename_i hw
    rw [Bool.and_eq_true] at hw
    exact fun _ hf => (hrows r).1.1 hf ⟨hw.1, removable_of_lineIs hw.2⟩
  · exact (hrows r).2

/-! ## What moves a cabin record -/

/-- What moves a record of the cabin: an event of the vehicle, a frame, a count, a request or a reset. -/
inductive Stirs (s : State) : State → Prop
  | reset : Stirs s (fullReset s)
  | loaded (straps : BitVec 2) : Stirs s (mapLoaded straps s)
  | rowLine (line : Line) (level : Bool) : Stirs s { s with
      pins := { s.pins with rowp := s.pins.rowp.set line level }, cmap := s.cmap.lineChanged line level }
  | turnedOff (h : s.ret.ignition = .on) : Stirs s (ignitionOff s)
  | turnedOn (h : s.ret.ignition = .off) : Stirs s (ignitionOn s)
  | discarded (c : DiscardCause) (g : Seat → Bool) : Stirs s (postEvent (discardSnapshots c g s))
  | counted (n : Nat) (h : s.ret.timer = some n) (hn : 2 ≤ n) :
      Stirs s { s with ret := { s.ret with timer := some (n - 1) } }
  | rowIn (r : Row) (h : s.cmap.rowState.get r = .removed) : Stirs s (installRow r s)
  | rowOut (r : Row) (h : s.cmap.rowState.get r = .installed) : Stirs s (removeRow r s)
  | handled (f : MatFrame) (h : s.verd.slot = some f) : Stirs s (frameHandled s)
  | remStepped : Stirs s (postEvent (timerStep s))
  | startExpired : Stirs s (postEvent (startIntervalExpires s))
  | visualExpired (i : Seat) : Stirs s (postEvent (visualExpires i s))
  | budgetExpired (i : Seat) : Stirs s (postEvent (budgetExpires i s))
  | speedChanged (x : Option Nat) (b : Bool) : Stirs s (speedChanges x b s)
  | restarted : Stirs s (restartBlocks s)
  | mapWritten (recs : MapRecs) (h : ImageFits recs) : Stirs s (mapApply recs true s)
  | remindersSet (x : ReminderSettings) : Stirs s (postEvent (applySettings x.clamped s))
  | mailboxRead : Stirs s (emptyMailbox s)
  | cleared : Stirs s (clearMap (clearSettings s))

/-- From `s` to `t` at most one thing moves a cabin record. -/
inductive Stirred (s t : State) : Prop
  | quiet (h : Quiet s t)
  | stirs (v u : State) (h : Quiet s v) (hu : Stirs v u) (k : Quiet u t)

theorem Stirs.stirred (h : Stirs s t) : Stirred s t := .stirs s t (.refl s) h (.refl t)

theorem Stirs.then (h : Stirs s u) (k : Quiet u t) : Stirred s t := .stirs s u (.refl s) h k

theorem Stirred.wrap {a b : State} (ha : Quiet a s) (h : Stirred s t) (hb : Quiet t b) : Stirred a b := by
  cases h with
  | quiet h => exact .quiet ((ha.trans h).trans hb)
  | stirs v u h hu k => exact .stirs v u (ha.trans h) hu (k.trans hb)

theorem startCommit_quiet (image : SectionImage) (s : State) : Quiet s (startCommit image s) := .blocks _ _ _ _ _ _ _

theorem clearCommit_quiet (s : State) : Quiet s (clearCommit s) := .blocks _ _ _ _ _ _ _

theorem armProbe_quiet (i : Seat) (s : State) : Quiet s (armProbe i s) := by
  rw [armProbe_eq]; exact .blocks _ _ _ _ _ _ _

theorem Leaves.stirred {sw : Bool} (h : Leaves s sw t) : Stirred s t := by
  cases h with
  | mapWritten recs ps hidle hvalid =>
    refine Stirred.wrap ?_ (Stirs.mapWritten recs (imageFits_of_valid hvalid)).stirred (startCommit_quiet ..)
    exact ⟨rfl, fun _ => rfl, rfl, rfl, rfl, rfl, rfl, rfl, rfl⟩
  | profileWritten ps => exact .quiet ⟨rfl, fun _ => rfl, rfl, rfl, rfl, rfl, rfl, rfl, rfl⟩
  | probeArmed i => exact .quiet (armProbe_quiet i s)
  | speedReported b => exact (Stirs.speedChanged _ _).stirred
  | remindersSet x => exact (Stirs.remindersSet x).then (startCommit_quiet ..)
  | mailboxRead => exact Stirs.mailboxRead.stirred
  | retainSet n => exact .quiet ⟨rfl, fun _ => rfl, rfl, rfl, rfl, rfl, rfl, rfl, rfl⟩
  | cleared => exact Stirs.cleared.then (clearCommit_quiet _)
  | same => exact .quiet (.refl _)
  | _ => exact .quiet (.blocks _ _ _ _ _ _ _)

theorem Does.stirred {c : Instr} (h : Does s c t) : Stirred s t := by
  cases h with
  | nothing => exact .quiet (.refl _)
  | reset => exact Stirs.reset.stirred
  | loaded straps h =>
    rw [loadCompletes_eq straps s h]
    exact (Stirs.loaded straps).then ⟨rfl, fun _ => rfl, rfl, rfl, rfl, rfl, rfl, rfl, rfl⟩
  | ignLine level => exact .quiet (ignLine_quiet level s)
  | doorLine d level => exact .quiet (doorLine_quiet d level s)
  | rowLine line level => exact (Stirs.rowLine line level).stirred
  | turnedOff h => exact (Stirs.turnedOff h).stirred
  | turnedOn hdebounce h => exact (Stirs.turnedOn h).stirred
  | doorMoved d isOpen => exact .quiet (doorChanges_quiet d isOpen s)
  | doorDiscards d => exact (Stirs.discarded _ _).stirred.wrap (doorChanges_quiet d true s) (.refl _)
  | rowIn r hvalid h => exact (Stirs.rowIn r h).stirred
  | rowOut r hvalid h => exact (Stirs.rowOut r h).stirred
  | intervalExpired => exact .quiet (intervalExpires_scanMoves s).quiet
  | settled => exact .quiet (settleEnds_scanMoves s).quiet
  | converted raw anch => exact .quiet (conversionCompletes_scanMoves raw anch s).quiet
  | markerWaited => exact .quiet (pushWaiting_scanMoves s).quiet
  | entryDone => exact .quiet (entryCompletes_quiet s)
  | markerTaken => exact .quiet (takeBlocked_quiet s)
  | frameDone => exact .quiet (frameFinishes_quiet s)
  | handled =>
    rcases hf : s.verd.slot with _ | f
    · rw [frameHandled_empty hf]; exact .quiet (.refl _)
    · exact (Stirs.handled f hf).stirred
  | remStepped => exact Stirs.remStepped.stirred
  | startExpired => exact Stirs.startExpired.stirred
  | visualExpired i => exact (Stirs.visualExpired i).stirred
  | budgetExpired i => exact (Stirs.budgetExpired i).stirred
  | speedLost => exact (Stirs.speedChanged _ _).stirred
  | retentionExpired => exact (Stirs.discarded .timer fun _ => true).stirred
  | committed passes => exact .quiet (commitCompletes_quiet passes s)
  | clearCommitted passes => exact .quiet (clearCompletes_quiet passes s)
  | linkFailed st code => exact .quiet (linkError_quiet st code s)
  | timedOut => exact .quiet (interByteExpires_quiet s)
  | restarted => exact Stirs.restarted.then (.blocks _ _ _ _ _ _ _)
  | answered code hready hv ha => exact ha.leaves.stirred.wrap (handed_quiet hv) (replying_quiet ..)
  | replyLeft | silenced | frameStarted | lengthTaken | byteTaken | checkTaken | frameDropped =>
    exact .quiet (.blocks _ _ _ _ _ _ _)

theorem retentionTick_stirred (s : State) : Stirred s (retentionTick s) := by
  rcases retentionTick_cases s with ⟨-, h⟩ | ⟨n, -, ht, hn, h⟩ | ⟨-, -, -, -, h⟩ <;> rw [h]
  · exact .quiet (.refl _)
  · exact (Stirs.counted n ht hn).stirred
  · exact (Stirs.discarded .timer fun _ => true).stirred

/-- A step is the count with no command waiting, and the command at the front otherwise. -/
theorem step_cases (h : step s = .next t) :
    s.pending = [] ∧ t = retentionTick s ∨
      ∃ c rest, s.pending = c :: rest ∧ Does { s with pending := rest } c t := by
  unfold step at h
  split at h
  · rename_i hp
    exact .inl ⟨hp, by cases h; rfl⟩
  · rename_i c rest hp
    exact .inr ⟨c, rest, hp, does_of_exec h⟩

/-- A property of the cabin records that every move of one keeps holds after every step from a lawful state. -/
theorem step_keeps_cabin {P : State → Prop} (hlaws : ∀ {s}, CabinLaws s → P s)
    (hquiet : ∀ {s t}, Quiet s t → P s → P t) (hstirs : ∀ {s t}, CabinLaws s → Stirs s t → P t)
    (h : Laws s) (ht : step s = .next t) : P t := by
  have hkeep {s t : State} (h : CabinLaws s) (hst : Stirred s t) : P t := by
    cases hst with
    | quiet hq => exact hquiet hq (hlaws h)
    | stirs v u hq hu hk => exact hquiet hk (hstirs (hq.cabin h) hu)
  have hs := cabin_of_laws h
  rcases step_cases ht with ⟨-, rfl⟩ | ⟨c, rest, -, hd⟩
  · exact hkeep hs (retentionTick_stirred s)
  · have hrest : CabinLaws { s with pending := rest } := ⟨hs.seats, hs.adv, hs.rem, hs.retention, hs.start⟩
    exact hkeep hrest hd.stirred

/-! ## The laws of the Seat Table (O54) -/

theorem fullReset_seatLaws (s : State) : SeatLaws (fullReset s) := by
  have hmap : MapLaw (fullReset s) := by
    refine ⟨nofun, nofun, fun r => ?_⟩
    simp [fullReset, State.reset, CMap.reset]
  refine ⟨hmap, fun i => ?_, fun i _ => ?_, fun i => ?_⟩ <;> simp [fullReset, State.reset, CMap.reset, blankSeat, RecordLaw]

theorem Stirs.seatLaws (hs : SeatLaws s) (h : Stirs s t) : SeatLaws t := by
  cases h with
  | reset => exact fullReset_seatLaws s
  | loaded straps =>
    refine mapApply_seatLaws (fun hv => strapRecords_fits (ps := (copiesLoaded straps s).cmap.profiles) (fun hv h0 => ?_) hv) _
    rw [if_pos h0] at hv
    exact Option.isNone_iff_eq_none.1 hv
  | rowLine line level => exact rowLine_seatLaws hs _ line level
  | turnedOff => exact hs.congr (ignitionOff_cmap s) (congrArg Verd.seats (ignitionOff_verd s))
  | turnedOn => exact ignitionOn_seatLaws hs
  | discarded c g => exact hs.congr (by simp [postEvent]) (by simp [postEvent])
  | rowIn r h => exact installRow_seatLaws hs h
  | rowOut r h => exact removeRow_seatLaws hs h
  | handled f h => exact frameHandled_seatLaws hs h
  | remStepped => exact hs.congr (postEvent_cmap (timerStep_remMoves s)) (congrArg Verd.seats (postEvent_verd (timerStep_remMoves s)))
  | startExpired =>
    have hm := startIntervalExpires_remMoves s
    exact hs.congr (postEvent_cmap hm) (congrArg Verd.seats (postEvent_verd hm))
  | visualExpired i =>
    have hm := visualExpires_remMoves i s
    exact hs.congr (postEvent_cmap hm) (congrArg Verd.seats (postEvent_verd hm))
  | budgetExpired i =>
    have hm := budgetExpires_remMoves i s
    exact hs.congr (postEvent_cmap hm) (congrArg Verd.seats (postEvent_verd hm))
  | speedChanged x b =>
    have hm := speedChanges_remMoves x b s
    have hq : Quiet { s with rem := (speedTaken x b s).rem } (speedTaken x b s) := evaluateHold_quiet _
    exact (hq.seatLaws hs).congr (postEvent_cmap hm) (congrArg Verd.seats (postEvent_verd hm))
  | restarted => exact restartBlocks_seatLaws hs.1
  | mapWritten recs h => exact mapApply_seatLaws (fun _ => h) s
  | remindersSet x =>
    have hm := applySettings_remMoves x.clamped s
    exact hs.congr (postEvent_cmap hm) (congrArg Verd.seats (postEvent_verd hm))
  | cleared =>
    rw [clearMap]
    exact mapApply_seatLaws (fun hv => strapRecords_fits (ps := defaultProfiles)
      (fun hv h0 => absurd h0 (of_decide_eq_true hv)) hv) (clearSettings s)
  | counted | mailboxRead => exact hs

/-- Settles O54: what moves a cabin record keeps the laws of the Seat Table. -/
theorem everyStepKeepsTheSeatLaws : Obligations.EveryStepKeepsTheSeatLaws :=
  fun _ _ h ht => step_keeps_cabin (P := SeatLaws) CabinLaws.seats Quiet.seatLaws (fun h k => k.seatLaws h.seats) h ht

end Sys2Proof.Machine

/-! SUPPORT. ADV's evaluations: what they report of a position, and that every move of a cabin record leaves each position
showing the record of its mapped seat (O55). -/

namespace Sys2Proof.Machine

open Sys2Proof.Safety

variable {s t u : State}

/-! ## An evaluation -/

/-- Each pair shows the value of its position (R125). -/
def PairsShow (s : State) : Prop := ∀ p : Pos, s.pins.sup.get p = (s.adv.positions.get p).value.pair

/-- The value of a position is that of its mapped seat's record (R123). -/
def ValueTrue (s : State) (p : Pos) : Prop :=
  (s.adv.positions.get p).value = advisoryValue s.verd.seats (s.adv.positions.get p).seat

theorem pairOf_eq_pair (v : AdvisoryValue) : pairOf v = v.pair := by cases v <;> rfl

theorem advisoryValue_eq (seats : Tab 16 SeatRec) (mapped : Option Seat) :
    advisoryValue seats mapped =
      (match mapped with
        | none => .fault
        | some i => if (seats.get i).lifecycle = .active then
            if (seats.get i).confirmed = .adult then .enable else .suppress
          else .fault) := by
  cases mapped with
  | none => rfl
  | some i => rcases h : (seats.get i).lifecycle <;> simp [advisoryValue, h]

theorem advisoryLaw_iff (s : State) : AdvisoryLaw s ↔ (∀ p, ValueTrue s p) ∧ PairsShow s := by
  simp only [AdvisoryLaw, PairsShow, ValueTrue, advisoryValue_eq, ← forall_and]
  rfl

theorem evaluatePosition_pairsShow (p : Pos) (h : PairsShow s) : PairsShow (evaluatePosition p s) := by
  intro q
  by_cases hq : q = p
  · subst hq; exact evaluatePosition_pair q s (h q)
  · obtain ⟨hpos, hsup⟩ := evaluatePosition_other p q s hq
    rw [hpos, hsup, h q]

theorem evaluatePosition_true (p : Pos) (s : State) : ValueTrue (evaluatePosition p s) p := by
  rw [ValueTrue, evaluatePosition_value, evaluatePosition_verd, evaluatePosition_seat]

theorem evaluatePosition_keepsTrue (p : Pos) {q : Pos} (h : ValueTrue s q) : ValueTrue (evaluatePosition p s) q := by
  by_cases hq : q = p
  · subst hq; exact evaluatePosition_true q s
  · rw [ValueTrue, (evaluatePosition_other p q s hq).1, evaluatePosition_verd]; exact h

theorem advBoth_seat (p : Pos) (s : State) :
    ((advBoth s).adv.positions.get p).seat = (s.adv.positions.get p).seat := by
  simp [advBoth, evaluatePosition_seat]

theorem advBoth_true (p : Pos) (s : State) : ValueTrue (advBoth s) p := by
  match p with
  | 0 => exact evaluatePosition_keepsTrue 1 (evaluatePosition_true 0 s)
  | 1 => exact evaluatePosition_true 1 _

theorem advBoth_value (p : Pos) (s : State) :
    ((advBoth s).adv.positions.get p).value = advisoryValue s.verd.seats (s.adv.positions.get p).seat := by
  rw [advBoth_true p s, (advBoth_advMoves s).verd, advBoth_seat]

theorem advBoth_advLaws (hmapped : MappedLaw s) (hpairs : PairsShow s) (hmail : MailboxLaw s) : AdvLaws (advBoth s) := by
  refine ⟨fun p => ?_, (advisoryLaw_iff _).2 ⟨fun p => advBoth_true p s, ?_⟩, ?_⟩
  · rw [advBoth_seat, (advBoth_advMoves s).cmap]; exact hmapped p
  · exact evaluatePosition_pairsShow 1 (evaluatePosition_pairsShow 0 hpairs)
  · exact evaluatePosition_mailbox 1 _ (evaluatePosition_mailbox 0 s hmail)

/-- Evaluating the positions of the seats concerned is evaluating both, when the others show their records already. -/
theorem advSeats_eq_advBoth {g : Seat → Bool}
    (h : ∀ p : Pos, (∀ i, (s.adv.positions.get p).seat = some i → g i = false) → ValueTrue s p) :
    advSeats g s = advBoth s := by
  have hif {s : State} {p : Pos} (h : (∀ i, (s.adv.positions.get p).seat = some i → g i = false) → ValueTrue s p) :
      evaluateIf g p s = evaluatePosition p s := by
    have hsame (hv : ValueTrue s p) : s = evaluatePosition p s := (evaluatePosition_same p s hv.symm).symm
    unfold evaluateIf
    split
    · rename_i i hi
      split
      · rfl
      · rename_i hg
        refine hsame (h fun j hj => ?_)
        rw [hi] at hj; cases hj
        simpa using hg
    · rename_i hn; exact hsame (h fun i hi => by rw [hn] at hi; cases hi)
  rw [advSeats, advBoth, hif (h 0), hif fun hg => ?_]
  refine evaluatePosition_keepsTrue 0 (h 1 fun i hi => hg i ?_)
  rw [evaluatePosition_seat]; exact hi

/-- What an evaluation of one position leaves: a changed value has driven its pair and filled the mailbox, or superseded the
record held (R125, R127, R128); the other position stands. -/
structure Reported (p : Pos) (s t : State) : Prop where
  pair : t.pins.sup.get p =
    if (t.adv.positions.get p).value = (s.adv.positions.get p).value then s.pins.sup.get p
    else pairOf (t.adv.positions.get p).value
  mailbox : t.adv.mailbox = if (t.adv.positions.get p).value ≠ (s.adv.positions.get p).value
    then some (recordAtPosition t p) else s.adv.mailbox
  superseded : t.adv.superseded = (s.adv.superseded ||
    (decide ((t.adv.positions.get p).value ≠ (s.adv.positions.get p).value) && s.adv.mailbox.isSome))
  other : ∀ q : Pos, q ≠ p → t.adv.positions.get q = s.adv.positions.get q ∧ t.pins.sup.get q = s.pins.sup.get q
  verd : t.verd = s.verd

theorem Reported.refl (p : Pos) (s : State) : Reported p s s := by
  constructor <;> simp

theorem evaluatePosition_reported (p : Pos) (s : State) : Reported p s (evaluatePosition p s) := by
  by_cases h : advisoryValue s.verd.seats (s.adv.positions.get p).seat = (s.adv.positions.get p).value
  · rw [evaluatePosition_same p s h]; exact .refl p s
  · refine ⟨?_, ?_, ?_, fun q => evaluatePosition_other p q s, evaluatePosition_verd p s⟩ <;>
      simp only [evaluatePosition_value, ne_eq, h, not_false_eq_true, if_true, if_false, decide_true, Bool.true_and] <;>
      simp only [evaluatePosition, if_neg h, recordAtPosition, pairOf_eq_pair]
    · simp
    · simp [Adv.mail, advisoryRecord]
    · simp [Adv.mail]

theorem evaluateIf_reported (g : Seat → Bool) (p : Pos) (s : State) : Reported p s (evaluateIf g p s) := by
  rcases evaluateIf_cases g p s with h | h <;> rw [h]
  · exact evaluatePosition_reported p s
  · exact .refl p s

/-- Position 0 reported and then position 1 (R124). -/
theorem Reported.both (h0 : Reported 0 s u) (h1 : Reported 1 u t) : PositionsReported s t := by
  obtain ⟨hpos1, hpins1⟩ := h0.other 1 (by decide)
  obtain ⟨hpos0, hpins0⟩ := h1.other 0 (by decide)
  have hrec : recordAtPosition t 0 = recordAtPosition u 0 := by
    simp only [recordAtPosition, hpos0, h1.verd]
  have hpair := h1.pair
  have hmail := h1.mailbox
  have hover := h1.superseded
  rw [hpos1] at hpair hmail hover
  rw [hpins1] at hpair
  refine ⟨fun p => ?_, ?_, ?_⟩
  · match p with
    | 0 => rw [hpins0, hpos0]; exact h0.pair
    | 1 => exact hpair
  · rw [hrec, hmail, h0.mailbox, hpos0]
  · rw [hover, h0.superseded, h0.mailbox, hpos0]
    congr 2
    by_cases h : (u.adv.positions.get 0).value = (s.adv.positions.get 0).value <;> simp [h]

/-- What both evaluations report (R124, R125, R127, R128). -/
theorem advBoth_reported (s : State) : PositionsReported s (advBoth s) :=
  (evaluatePosition_reported 0 s).both (evaluatePosition_reported 1 _)

theorem advSeats_reported (g : Seat → Bool) (s : State) : PositionsReported s (advSeats g s) :=
  (evaluateIf_reported g 0 s).both (evaluateIf_reported g 1 _)

/-! ## Every move of a cabin record (O55) -/

theorem AdvLaws.congr (hs : AdvLaws s) (hadv : t.adv = s.adv) (hsup : t.pins.sup = s.pins.sup)
    (hmapped : ∀ p, t.cmap.advisorySeat p = s.cmap.advisorySeat p)
    (hvalue : ∀ p i, s.cmap.advisorySeat p = some i → (t.verd.seats.get i).lifecycle = (s.verd.seats.get i).lifecycle ∧
      (t.verd.seats.get i).confirmed = (s.verd.seats.get i).confirmed) : AdvLaws t := by
  obtain ⟨hmap, hadvisory, hmail⟩ := hs
  obtain ⟨htrue, hpairs⟩ := (advisoryLaw_iff s).1 hadvisory
  refine ⟨fun p => by rw [hadv, hmapped]; exact hmap p, (advisoryLaw_iff t).2 ⟨fun p => ?_, ?_⟩, ?_⟩
  · rw [ValueTrue, hadv, htrue p, hmap p]
    rcases hi : s.cmap.advisorySeat p with _ | i
    · rfl
    · obtain ⟨hl, hc⟩ := hvalue p i hi
      simp only [advisoryValue, hl, hc]
  · unfold PairsShow; rw [hsup, hadv]; exact hpairs
  · unfold MailboxLaw; rw [hadv]; exact hmail

/-- Nothing that ADV reads or writes has moved. -/
theorem AdvLaws.same (hs : AdvLaws s) (hadv : t.adv = s.adv) (hsup : t.pins.sup = s.pins.sup) (hcmap : t.cmap = s.cmap)
    (hverd : t.verd = s.verd) : AdvLaws t :=
  hs.congr hadv hsup (fun _ => by rw [hcmap]) fun _ _ _ => by rw [hverd]; exact ⟨rfl, rfl⟩

/-- The seats concerned are evaluated after their records alone have moved. -/
theorem advSeats_advLaws {g : Seat → Bool} (hs : AdvLaws s) (hadv : t.adv = s.adv) (hsup : t.pins.sup = s.pins.sup)
    (hcmap : t.cmap = s.cmap) (hverd : ∀ i, g i = false → t.verd.seats.get i = s.verd.seats.get i) :
    AdvLaws (advSeats g t) ∧ advSeats g t = advBoth t := by
  obtain ⟨hmap, hadvisory, hmail⟩ := hs
  obtain ⟨htrue, hpairs⟩ := (advisoryLaw_iff s).1 hadvisory
  have hboth : advSeats g t = advBoth t := by
    refine advSeats_eq_advBoth fun p hp => ?_
    rw [ValueTrue, hadv, htrue p]
    rcases hi : (s.adv.positions.get p).seat with _ | i
    · rfl
    · have hg := hp i (by rw [hadv]; exact hi)
      simp only [advisoryValue, hverd i hg]
  refine ⟨hboth ▸ advBoth_advLaws ?_ ?_ ?_, hboth⟩
  · unfold MappedLaw; rw [hadv, hcmap]; exact hmap
  · unfold PairsShow; rw [hsup, hadv]; exact hpairs
  · unfold MailboxLaw; rw [hadv]; exact hmail

/-- The mapped seat of a position is fitted in a valid map, and names it (R122). -/
theorem advisorySeat_some {c : CMap} {p : Pos} {i : Seat} (h : c.advisorySeat p = some i) :
    c.valid = true ∧ (c.seats.get i).fitted = true ∧ (c.seats.get i).advisoryPos = some p := by
  unfold CMap.advisorySeat at h
  split at h
  · have hi := List.find?_some h
    rw [Bool.and_eq_true, decide_eq_true_eq] at hi
    exact ⟨‹_›, hi⟩
  · cases h

/-- An advisory seat stands in row 0, and so in no row that moves. -/
theorem advisorySeat_notInRow (h : SeatLaws s) {r : Row} (hr : s.cmap.rowState.get r ≠ .fixed) {p : Pos} {i : Seat}
    (hi : s.cmap.advisorySeat p = some i) : s.cmap.inRow r i = false := by
  obtain ⟨hvalid, hfit, hpos⟩ := advisorySeat_some hi
  have hrow := h.1.2.1 hvalid i hfit (by simp [hpos])
  obtain ⟨-, -, h0⟩ := removable_of_notFixed h.1 hr
  rw [Bool.eq_false_iff, Ne, inRow_iff, hrow]
  exact fun e => h0 e.2.symm

theorem rowMoved_advLaws (hseats : SeatLaws s) (hs : AdvLaws s) {r : Row} {st : RowState} {l : Lifecycle}
    (hr : s.cmap.rowState.get r ≠ .fixed) (hadv : t.adv = s.adv) (hsup : t.pins.sup = s.pins.sup)
    (hcmap : t.cmap = s.cmap.rowBecomes r st)
    (htable : t.verd.seats = s.freshRow (s.cmap.rowBecomes r st) r l) : AdvLaws t := by
  refine hs.congr hadv hsup (fun p => by rw [hcmap]; rfl) fun p i hi => ?_
  have hout := advisorySeat_notInRow hseats hr hi
  rw [htable, State.freshRow, Tab.get_ofFn, rowBecomes_inRow, if_neg (by simp [hout])]
  exact ⟨rfl, rfl⟩

/-- What ADV derives at a map apply. -/
def advMapped (recs : MapRecs) (valid : Bool) (s : State) : State :=
  let positions := Tab.ofFn fun p =>
    { (mapForgotten recs valid s).1.adv.positions.get p with seat := (mapForgotten recs valid s).1.cmap.advisorySeat p }
  { (mapForgotten recs valid s).1 with adv := { (mapForgotten recs valid s).1.adv with positions := positions } }

section
variable (recs : MapRecs) (valid : Bool) (s : State)

theorem mapForgotten_adv : (mapForgotten recs valid s).1.adv = s.adv := by
  simp [mapForgotten, mapReminded, (remApply_remMoves _).adv, mapScanned]

theorem mapForgotten_sup : (mapForgotten recs valid s).1.pins.sup = s.pins.sup := by
  simp [mapForgotten, mapReminded, (remApply_remMoves _).pins, mapScanned]

theorem mapApply_adv : (mapApply recs valid s).adv = (advBoth (advMapped recs valid s)).adv := by
  rw [mapApply_eq, postMerged_adv]; rfl

theorem mapApply_sup : (mapApply recs valid s).pins.sup = (advBoth (advMapped recs valid s)).pins.sup := by
  rw [mapApply_eq, postMerged_pins_sup]; rfl

end

theorem mapApply_advLaws (recs : MapRecs) (valid : Bool) (hpairs : PairsShow s) (hmail : MailboxLaw s) :
    AdvLaws (mapApply recs valid s) := by
  have hboth : AdvLaws (advBoth (advMapped recs valid s)) := by
    refine advBoth_advLaws (fun p => by simp [advMapped]) (fun p => ?_) ?_
    · simp only [advMapped, Tab.get_ofFn, mapForgotten_sup, mapForgotten_adv]; exact hpairs p
    · simp only [MailboxLaw, advMapped, mapForgotten_adv]; exact hmail
  have hmoves := advBoth_advMoves (advMapped recs valid s)
  refine hboth.same (mapApply_adv ..) (mapApply_sup ..) ?_ ?_
  · rw [hmoves.cmap, mapApply_eq, postMerged_cmap]; exact (advApply_advMoves _).cmap
  · rw [hmoves.verd, mapApply_eq, postMerged_verd]; exact (advApply_advMoves _).verd

theorem AdvLaws.pairs (h : AdvLaws s) : PairsShow s := ((advisoryLaw_iff s).1 h.2.1).2

theorem restartBlocks_advLaws (hs : AdvLaws s) : AdvLaws (restartBlocks s) := by
  have hadv : (discardSnapshots .restart everySeat (remRestarted s).1).1.adv = s.adv := by
    simp [(remRestarted_remMoves s).adv, scanRestarted]
  have hsup : (discardSnapshots .restart everySeat (remRestarted s).1).1.pins.sup = s.pins.sup := by
    simp [(remRestarted_remMoves s).pins, scanRestarted]
  have hcmap : (discardSnapshots .restart everySeat (remRestarted s).1).1.cmap = s.cmap := by
    simp [(remRestarted_remMoves s).cmap, scanRestarted]
  have hboth : AdvLaws (advRestarted s) := by
    refine advBoth_advLaws (fun p => ?_) (fun p => ?_) nofun
    · rw [(emptyMailbox_advMoves _).cmap, hcmap]
      simp only [emptyMailbox, State.refreshAttn_adv, hadv]
      exact hs.1 p
    · change (discardSnapshots .restart everySeat (remRestarted s).1).1.pins.sup.get p =
        ((discardSnapshots .restart everySeat (remRestarted s).1).1.adv.positions.get p).value.pair
      rw [hsup, hadv]
      exact hs.pairs p
  refine hboth.same (restartBlocks_adv s) (restartBlocks_sup s) ?_ ?_
  · rw [restartBlocks_cmap, (advRestarted_advMoves s).cmap, hcmap]
  · rw [restartBlocks_eq, postAll_verd, State.refreshAttn_verd]

theorem frameHandled_advLaws (hs : AdvLaws s) {f : MatFrame} (hf : s.verd.slot = some f) : AdvLaws (frameHandled s) := by
  have hverd : (afterVerd s f).verd.seats = s.verd.seats.set f.seat (handledBy s f).1 := by simp [afterVerd]
  have hadv : (afterVerd s f).adv = s.adv := by simp [afterVerd]
  have hsup : (afterVerd s f).pins.sup = s.pins.sup := by simp [afterVerd]
  have hcmap : (afterVerd s f).cmap = s.cmap := by simp [afterVerd]
  have hafter : AdvLaws (afterAdv s f) := by
    unfold afterAdv
    split
    · refine (advSeats_advLaws hs hadv hsup hcmap fun i hi => ?_).1
      rw [hverd, Tab.get_set_other _ _ (of_decide_eq_false hi)]
    · rename_i hsame
      refine hs.congr hadv hsup (fun _ => by rw [hcmap]) fun p i _ => ?_
      rw [hverd, Tab.get_set]
      split
      · subst_vars
        simp only [changedForAdv, Bool.or_eq_true, decide_eq_true_eq, not_or, not_not] at hsame
        exact ⟨hsame.1.symm, hsame.2.symm⟩
      · exact ⟨rfl, rfl⟩
  refine hafter.same (frameHandled_adv hf) (frameHandled_sup hf) ?_ ?_
  · rw [frameHandled_cmap hf, (afterAdv_advMoves s f).cmap, hcmap]
  · rw [frameHandled_verd hf, (afterAdv_advMoves s f).verd, afterVerd, postAll_verd]

theorem ignitionOn_advLaws (hs : AdvLaws s) :
    AdvLaws (ignitionOn s) ∧ advSeats s.resumes (seatsResumed s) = advBoth (seatsResumed s) := by
  obtain ⟨hlaws, hboth⟩ := advSeats_advLaws (t := seatsResumed s) (g := s.resumes) hs rfl rfl rfl fun i hi => by
    rw [seatsResumed, resumedSeats_get, if_neg (by simp [hi])]
  have hmoves := advSeats_resumed s
  refine ⟨hlaws.same (ignitionOn_adv s) (ignitionOn_sup s) ?_ ?_, hboth⟩
  · rw [ignitionOn_cmap, hmoves.cmap]; rfl
  · rw [ignitionOn_verd, hmoves.verd]; rfl

theorem RemMoves.advLaws {r : State × List Notice} (hs : AdvLaws s) (h : RemMoves s r.1) : AdvLaws (postEvent r) :=
  hs.same (postEvent_adv h) (postEvent_sup h) (postEvent_cmap h) (postEvent_verd h)

theorem speedTaken_advLaws (hs : AdvLaws s) (x : Option Nat) (b : Bool) : AdvLaws (speedTaken x b s) :=
  hs.congr rfl rfl (fun _ => rfl) fun _ _ _ => by simp [speedTaken]

theorem fullReset_advLaws (s : State) : AdvLaws (fullReset s) := by
  refine ⟨fun p => ?_, fun p => ?_, nofun⟩ <;>
    simp [fullReset, State.reset, Adv.reset, CMap.reset, CMap.advisorySeat]

theorem Stirs.advLaws (hseats : SeatLaws s) (hs : AdvLaws s) (h : Stirs s t) : AdvLaws t := by
  cases h with
  | reset => exact fullReset_advLaws s
  | loaded straps => exact mapApply_advLaws (s := copiesLoaded straps s) _ _ hs.pairs hs.2.2
  | rowLine line level => exact hs.congr rfl rfl (fun _ => rfl) fun _ _ _ => ⟨rfl, rfl⟩
  | turnedOff => exact hs.same (ignitionOff_adv s) (ignitionOff_sup s) (ignitionOff_cmap s) (ignitionOff_verd s)
  | turnedOn => exact (ignitionOn_advLaws hs).1
  | discarded c g => exact hs.same (by simp [postEvent]) (by simp [postEvent]) (by simp [postEvent]) (by simp [postEvent])
  | rowIn r h =>
    exact rowMoved_advLaws (l := .active) hseats hs (by simp [h]) (installRow_adv r s) (installRow_sup r s)
      (installRow_cmap r s) (by simp)
  | rowOut r h =>
    exact rowMoved_advLaws (l := .absent) hseats hs (by simp [h]) (removeRow_adv r s) (removeRow_sup r s)
      (removeRow_cmap r s) (by simp)
  | handled f h => exact frameHandled_advLaws hs h
  | remStepped => exact (timerStep_remMoves s).advLaws hs
  | startExpired => exact (startIntervalExpires_remMoves s).advLaws hs
  | visualExpired i => exact (visualExpires_remMoves i s).advLaws hs
  | budgetExpired i => exact (budgetExpires_remMoves i s).advLaws hs
  | speedChanged x b => exact (speedChanges_remMoves x b s).advLaws (speedTaken_advLaws hs x b)
  | restarted => exact restartBlocks_advLaws hs
  | mapWritten recs h => exact mapApply_advLaws _ _ hs.pairs hs.2.2
  | remindersSet x => exact (applySettings_remMoves x.clamped s).advLaws hs
  | mailboxRead =>
    exact ⟨hs.1, hs.2.1, nofun⟩
  | cleared =>
    have hcopies : AdvLaws (copiesCleared s) := hs.congr rfl rfl (fun _ => rfl) fun _ _ _ => ⟨rfl, rfl⟩
    have hsettings : AdvLaws (clearSettings s) := (clearSettings_remMoves s).advLaws hcopies
    rw [clearMap]
    exact mapApply_advLaws (s := clearSettings s) _ _ hsettings.pairs hsettings.2.2
  | counted => exact hs.same rfl rfl rfl rfl

/-- Settles O55: what moves a cabin record leaves the advisories true to the records. -/
theorem everyStepKeepsTheAdvisoryTrue : Obligations.EveryStepKeepsTheAdvisoryTrue :=
  fun _ _ h ht => step_keeps_cabin (P := AdvLaws) CabinLaws.adv Quiet.advLaws (fun h k => k.advLaws h.seats h.adv) h ht

end Sys2Proof.Machine

/-! SUPPORT. REM's laws: a record's timers stay in bounds through every move of the machine, every evaluated seat stands in its
case, and so every move of a cabin record leaves the reminders lawful (O56). -/

namespace Sys2Proof.Machine

open Sys2Proof.Safety

variable {s t u : State}

/-! ## The timers of one record (R104, R105, R108, R109) -/

/-- The timers of a record, in steps, against the two stage lengths. -/
structure TimersOk (visual budget : Nat) (r : ReminderRec) : Prop where
  outside : r.state ≠ .visual → r.visual = 0
  inside : r.state = .visual → 0 < r.visual
  audible : r.state = .audible → 0 < r.budget
  visualMax : r.visual ≤ visual
  budgetMax : r.budget ≤ budget

theorem timerLaw_iff (s : State) : TimerLaw s ↔
    ∀ i : Seat, TimersOk (steps s.rem.settings.tVisual) (steps s.rem.settings.tChime) (s.rem.table.get i) := by
  have hsteps (n : Nat) : steps n = 10 * n := Nat.mul_comm n 10
  constructor
  · intro h i
    obtain ⟨ho, hi, ha, hv, hb⟩ := h i
    exact ⟨ho, hi, ha, by rwa [hsteps], by rwa [hsteps]⟩
  · intro h i
    obtain ⟨ho, hi, ha, hv, hb⟩ := h i
    exact ⟨ho, hi, ha, by rwa [← hsteps], by rwa [← hsteps]⟩

section
variable {v b : Nat} {r : ReminderRec}

theorem to_timersOk {st : ReminderState} (hst : st ≠ .visual) (ha : st = .audible → 0 < r.budget) (hb : r.budget ≤ b) :
    TimersOk v b (r.to st) :=
  ⟨fun _ => rfl, fun h => absurd h hst, ha, Nat.zero_le _, hb⟩

theorem enterAudible_timersOk (hb : r.budget ≤ b) : TimersOk v b (enterAudible r) := by
  unfold enterAudible
  split
  · exact to_timersOk (by decide) nofun hb
  · exact to_timersOk (by decide) (fun _ => by omega) hb

theorem enterVisual_timersOk (c : ReminderContext) (hc : c.visual = v) (hb : r.budget ≤ b) :
    TimersOk v b (enterVisual c r) := by
  rcases enterVisual_cases c r with ⟨h, hv⟩ | ⟨h, -⟩ <;> rw [h]
  · exact ⟨fun hn => absurd rfl hn, fun _ => Nat.pos_of_ne_zero hv, nofun, hc.le, hb⟩
  · exact enterAudible_timersOk hb

theorem enterStages_timersOk (c : ReminderContext) (hc : c.visual = v) (hb : r.budget ≤ b) :
    TimersOk v b (enterStages c r) := by
  unfold enterStages
  split
  · exact enterVisual_timersOk c hc hb
  · exact to_timersOk (by decide) nofun hb

theorem moveUnbelted_timersOk (c : ReminderContext) (hc : c.visual = v) (h : TimersOk v b r) :
    TimersOk v b (moveUnbelted c r) := by
  unfold moveUnbelted
  split
  · exact enterStages_timersOk c hc h.budgetMax
  · exact enterStages_timersOk c hc h.budgetMax
  · split
    · exact enterVisual_timersOk c hc h.budgetMax
    · exact h
  · exact h
  · exact h
  · exact h
  · split
    · exact enterAudible_timersOk h.budgetMax
    · exact enterStages_timersOk c hc h.budgetMax

theorem moveReminder_timersOk (c : ReminderContext) (hc : c.visual = v) (hb : c.budget = b) (k : ReminderCase)
    (h : TimersOk v b r) : TimersOk v b (moveReminder c k r) := by
  unfold moveReminder
  split
  · exact to_timersOk (by decide) nofun h.budgetMax
  · split
    · exact h
    · exact ⟨fun _ => rfl, nofun, nofun, Nat.zero_le _, hb.le⟩
  · exact moveUnbelted_timersOk c hc h
  · split
    · exact h
    · exact to_timersOk (by decide) nofun h.budgetMax
  · split
    · exact h
    · exact to_timersOk (by decide) nofun h.budgetMax

theorem countDown_timersOk (h : TimersOk v b r) : TimersOk v b (countDown r) := by
  unfold countDown
  split
  · rename_i hst
    split
    · exact enterAudible_timersOk h.budgetMax
    · have hv := h.visualMax
      refine ⟨fun hn => absurd hst hn, fun _ => ?_, fun ha => ?_, Nat.le_trans (Nat.sub_le ..) hv, h.budgetMax⟩
      · simp only; omega
      · rw [hst] at ha; cases ha
  · rename_i hst
    have hb := h.budgetMax
    split
    · exact to_timersOk (by decide) nofun (Nat.zero_le _)
    · refine ⟨h.outside, h.inside, fun _ => ?_, h.visualMax, Nat.le_trans (Nat.sub_le ..) hb⟩
      simp only; omega
  · exact h

/-- Timers lowered to new settings are in their bounds; one that thereby reached 0 has gone on (R99). -/
theorem lowerTimers_timersOk (c : ReminderContext) (h : TimersOk v b r) :
    TimersOk c.visual c.budget (lowerTimers c r) := by
  unfold lowerTimers
  dsimp only
  split
  · exact enterAudible_timersOk (Nat.min_le_right ..)
  rename_i hvis
  split
  · exact to_timersOk (by decide) nofun (Nat.min_le_right ..)
  rename_i haud
  refine ⟨fun hn => ?_, fun hst => ?_, fun hst => ?_, Nat.min_le_right .., Nat.min_le_right ..⟩
  · simp [h.outside hn]
  · have hpos := h.inside hst
    exact Nat.pos_of_ne_zero fun h0 => hvis ⟨hst, h0, by omega⟩
  · have hpos := h.audible hst
    exact Nat.pos_of_ne_zero fun h0 => haud ⟨hst, h0, by omega⟩

theorem resting_timersOk (n : Nat) : TimersOk v (steps n) (restingReminder n) :=
  ⟨fun _ => rfl, nofun, nofun, Nat.zero_le _, Nat.le_refl _⟩

end

/-! ## The state of one record -/

theorem fitsCase_countDown {k : ReminderCase} {r : ReminderRec} (h : fitsCase k r.state = true) :
    fitsCase k (countDown r).state = true := by
  rcases countDown_state r with hs | ⟨hs, ht⟩
  · rw [hs]; exact h
  · rcases hs with hs | hs <;> rw [hs] at h <;> cases k <;> simp [fitsCase] at h <;> rcases ht with ht | ht <;>
      rw [ht] <;> rfl

theorem lowerTimers_state (c : ReminderContext) (r : ReminderRec) :
    (lowerTimers c r).state = r.state ∨
      ((r.state = .visual ∨ r.state = .audible) ∧ ((lowerTimers c r).state = .audible ∨ (lowerTimers c r).state = .capped)) := by
  unfold lowerTimers
  dsimp only
  split
  · rename_i h
    refine .inr ⟨.inl h.1, ?_⟩
    rw [enterAudible_state]
    split <;> simp
  · split
    · rename_i h; exact .inr ⟨.inr h.1, .inr rfl⟩
    · exact .inl rfl

theorem fitsCase_lowerTimers (c : ReminderContext) {k : ReminderCase} {r : ReminderRec} (h : fitsCase k r.state = true) :
    fitsCase k (lowerTimers c r).state = true := by
  rcases lowerTimers_state c r with hs | ⟨hs, ht⟩
  · rw [hs]; exact h
  · rcases hs with hs | hs <;> rw [hs] at h <;> cases k <;> simp [fitsCase] at h <;> rcases ht with ht | ht <;>
      rw [ht] <;> rfl

/-! ## REM's laws but the summary, which the end of an event writes -/

/-- The laws of the reminder table and the start interval. -/
structure RemCore (s : State) : Prop where
  fits : ReminderLaw s
  timers : ∀ i : Seat, TimersOk (steps s.rem.settings.tVisual) (steps s.rem.settings.tChime) (s.rem.table.get i)
  start : StartLaw s

theorem RemLaws.core (h : RemLaws s) : RemCore s := by
  obtain ⟨hfits, htimer, hstart, -⟩ := h
  exact ⟨hfits, (timerLaw_iff s).1 htimer, hstart⟩

/-- The end of an event makes them REM's laws (R119, R120). -/
theorem RemCore.refreshed (h : RemCore s) : RemLaws s.refreshSummary :=
  ⟨h.fits, (timerLaw_iff _).2 h.timers, h.start, refreshSummary_law s⟩

/-- Nothing that REM's laws read has moved. -/
theorem RemLaws.congr (h : RemLaws s) (hrem : t.rem = s.rem) (hign : t.ret.ignition = s.ret.ignition)
    (hmap : t.cmap.seats = s.cmap.seats) (hseats : t.verd.seats = s.verd.seats) : RemLaws t := by
  simp only [RemLaws, ReminderLaw, TimerLaw, StartLaw, SummaryLaw, hrem, hign, hmap, hseats]
  exact h

theorem RemLaws.posted {r : State × List Notice} (h : RemLaws r.1) : RemLaws (postEvent r) :=
  h.congr (by simp [postEvent]) (by simp [postEvent]) (by simp [postEvent]) (by simp [postEvent])

/-- An evaluation leaves the seats chosen in their case, so it is enough that the others stand in theirs (R107). -/
theorem evaluate_remCore (g : Seat → Bool)
    (hoff : s.ret.ignition = .off → ∀ i : Seat, (s.rem.table.get i).state = .none)
    (hon : s.ret.ignition = .on → ∀ i : Seat, g i = false →
      fitsCase (caseOf (s.cmap.seats.get i) (s.verd.seats.get i)) (s.rem.table.get i).state = true)
    (htimers : ∀ i : Seat, TimersOk (steps s.rem.settings.tVisual) (steps s.rem.settings.tChime) (s.rem.table.get i))
    (hstart : StartLaw s) : RemCore (evaluateReminders g s).1 := by
  refine ⟨⟨fun hi i => ?_, fun hi i => ?_⟩, fun i => ?_, hstart⟩
  · simp only [evaluateReminders_state, State.withTable_rem] at hi ⊢
    rw [evaluatedTable_off g s hi]; exact hoff hi i
  · simp only [evaluateReminders_state, State.withTable_rem] at hi ⊢
    rw [evaluatedTable_on g s hi]
    split
    · exact moveReminder_fits ..
    · rename_i hg; exact hon hi i (by simpa using hg)
  · simp only [evaluateReminders_state, State.withTable_rem, State.evaluatedTable, Tab.get_ofFn]
    split
    · exact moveReminder_timersOk s.reminderContext rfl rfl _ (htimers i)
    · exact htimers i

theorem evaluateTrigger_remCore (b : Bool) (h : RemCore s) : RemCore (evaluateTrigger b s).1 := by
  rcases evaluateTrigger_cases b s with ⟨-, -, he⟩ | ⟨-, he⟩ <;> rw [he]
  · exact evaluate_remCore _ h.fits.1 (fun hi i _ => h.fits.2 hi i) h.timers h.start
  · exact h

/-! ## Counts and expiries -/

theorem startElapses_remCore (h : RemCore s) (hon : s.ret.ignition = .on) : RemCore (startElapses s).1 := by
  refine evaluateTrigger_remCore _ ⟨h.fits, h.timers, nofun, fun hoff => ?_, fun _ => by simp⟩
  rw [hon] at hoff; cases hoff

theorem countStart_remCore (h : RemCore s) (hon : s.ret.ignition = .on) : RemCore (countStart s).1 := by
  rcases countStart_cases s with ⟨-, he⟩ | ⟨n, ht, hn, he⟩ | ⟨n, -, -, he⟩ <;> rw [he]
  · exact h
  · obtain ⟨-, -, hrun⟩ := h.start
    refine ⟨h.fits, h.timers, ?_, fun hoff => ?_, fun hi => ?_⟩
    · simp only [ne_eq, Option.some.injEq]; omega
    · simp only [hon] at hoff; cases hoff
    · have := hrun hi
      rw [ht] at this
      simpa using this
  · exact startElapses_remCore h hon

theorem counted_remCore (h : RemCore s) (hon : s.ret.ignition = .on) : RemCore (s.withTable s.countedTable) := by
  have hget (i : Seat) : s.countedTable.get i =
      if s.countCondition then countDown (s.rem.table.get i) else s.rem.table.get i := by simp [State.countedTable]
  refine ⟨⟨fun hoff => ?_, fun _ i => ?_⟩, fun i => ?_, h.start⟩
  · simp only [State.withTable_ret, hon] at hoff; cases hoff
  · simp only [State.withTable_rem, State.withTable_cmap, State.withTable_verd]
    rw [hget]
    split
    · exact fitsCase_countDown (h.fits.2 hon i)
    · exact h.fits.2 hon i
  · simp only [State.withTable_rem]
    rw [hget]
    split
    · exact countDown_timersOk (h.timers i)
    · exact h.timers i

theorem timerStep_remLaws (h : RemLaws s) : RemLaws (timerStep s).1 := by
  rcases hi : s.ret.ignition with _ | _
  · rw [timerStep_off s hi]; exact h
  · rw [timerStep_on s hi]
    exact (countStart_remCore (counted_remCore h.core hi) hi).refreshed

/-- With the start law no expiry command finds its timer at 0: each is the step, or has no effect (assumption log 9). -/
theorem startIntervalExpires_remLaws (h : RemLaws s) : RemLaws (startIntervalExpires s).1 := by
  unfold startIntervalExpires
  rw [if_neg h.core.start.1]
  split
  · exact timerStep_remLaws h
  · exact h

theorem visualExpires_remLaws (h : RemLaws s) (i : Seat) : RemLaws (visualExpires i s).1 := by
  unfold visualExpires
  dsimp only
  rw [if_neg fun hz => (h.core.timers i).inside hz.1 |>.ne' hz.2]
  split
  · exact timerStep_remLaws h
  · exact h

theorem budgetExpires_remLaws (h : RemLaws s) (i : Seat) : RemLaws (budgetExpires i s).1 := by
  unfold budgetExpires
  dsimp only
  rw [if_neg fun hz => (h.core.timers i).audible hz.1 |>.ne' hz.2]
  split
  · exact timerStep_remLaws h
  · exact h

/-! ## Settings and speed -/

theorem applySettings_remLaws (h : RemCore s) (new : ReminderSettings) : RemLaws (applySettings new s).1 := by
  refine (evaluateTrigger_remCore s.trigger (s := settingsTaken new s) ⟨⟨fun hi i => ?_, fun hi i => ?_⟩, fun i => ?_,
    h.start⟩).refreshed
  · simp only [settingsTaken, State.withTable_rem, State.withTable_ret, Tab.get_ofFn] at hi ⊢
    have hnone := h.fits.1 hi i
    rcases lowerTimers_state { s with rem := { s.rem with settings := new } }.reminderContext (s.rem.table.get i) with
      hs | ⟨hs, -⟩
    · rw [hs, hnone]
    · rcases hs with hs | hs <;> rw [hnone] at hs <;> cases hs
  · simp only [settingsTaken, State.withTable_rem, State.withTable_cmap, State.withTable_verd, Tab.get_ofFn]
    exact fitsCase_lowerTimers _ (h.fits.2 hi i)
  · simp only [settingsTaken, State.withTable_rem, Tab.get_ofFn]
    exact lowerTimers_timersOk { s with rem := { s.rem with settings := new } }.reminderContext (h.timers i)

theorem speedChanges_remLaws (h : RemLaws s) (x : Option Nat) (b : Bool) : RemLaws (speedChanges x b s) := by
  have hq : Quiet { s with rem := (speedTaken x b s).rem } (speedTaken x b s) := evaluateHold_quiet _
  have hspeed : RemLaws { s with rem := (speedTaken x b s).rem } := h
  exact RemLaws.posted (evaluateTrigger_remCore s.trigger (hq.remLaws hspeed).core).refreshed

/-! ## Events that rest records -/

/-- Every record rested, then every seat evaluated (R117, R118). -/
theorem rested_remCore (hstart : StartLaw s) (htable : s.rem.table = s.restedTable fun _ => true) :
    RemCore (evaluateReminders (fun _ => true) s).1 := by
  have hrest (i : Seat) : s.rem.table.get i = restingReminder s.rem.settings.tChime := by
    rw [htable]; simp [State.restedTable]
  refine evaluate_remCore _ (fun _ i => ?_) nofun (fun i => ?_) hstart <;> rw [hrest]
  · rfl
  · exact resting_timersOk _

theorem remApply_remLaws (hstart : StartLaw s) : RemLaws (remApply s).1 := by
  refine (rested_remCore (s := s.withTable (s.restedTable fun _ => true)) hstart ?_).refreshed
  simp [State.restedTable]

theorem remRestart_remLaws (ht : 10 ≤ s.rem.settings.tStart) : RemLaws (remRestart s).1 := by
  refine (rested_remCore (s := { s with rem := { s.rem with
    startTimer := if s.ret.ignition = .on then some (steps s.rem.settings.tStart) else none
    startElapsed := false, table := s.restedTable fun _ => true } }) ?_ ?_).refreshed
  · refine ⟨?_, fun hoff => ?_, fun hon => ?_⟩
    · split
      · simp only [ne_eq, Option.some.injEq, steps]; omega
      · simp
    · simp_all
    · simp_all
  · simp [State.restedTable]

theorem mapReminded_remLaws (recs : MapRecs) (valid : Bool) (hstart : StartLaw s) :
    RemLaws (mapReminded recs valid s).1 :=
   remApply_remLaws (s := withFeat (featFlush (mapScanned recs valid s).feat).1 (mapScanned recs valid s)) hstart

theorem mapApply_remLaws (recs : MapRecs) (valid : Bool) (hstart : StartLaw s) : RemLaws (mapApply recs valid s) := by
  have hrem : (mapApply recs valid s).rem = (mapReminded recs valid s).1.rem := by
    rw [mapApply_eq, postMerged_rem, (advApply_advMoves _).rem]; rfl
  have hcmap : (mapApply recs valid s).cmap = (mapReminded recs valid s).1.cmap := by
    rw [mapApply_eq, postMerged_cmap, (advApply_advMoves _).cmap]; rfl
  have hverd : (mapApply recs valid s).verd = (mapReminded recs valid s).1.verd := by
    rw [mapApply_eq, postMerged_verd, (advApply_advMoves _).verd]; rfl
  have hret : (mapApply recs valid s).ret.ignition = (mapReminded recs valid s).1.ret.ignition := by
    rw [mapApply_eq, postMerged_ret, (advApply_advMoves _).ret]; rfl
  exact (mapReminded_remLaws recs valid hstart).congr hrem hret (by rw [hcmap]) (by rw [hverd])

theorem restartBlocks_remLaws (ht : 10 ≤ s.rem.settings.tStart) : RemLaws (restartBlocks s) := by
  have hmoves := remRestarted_remMoves s
  have h : RemLaws (remRestarted s).1 := remRestart_remLaws (by simpa [scanRestarted] using ht)
  refine h.congr (restartBlocks_rem s) ?_ ?_ ?_
  · rw [restartBlocks_ret, hmoves.ret]; rfl
  · rw [restartBlocks_cmap, hmoves.cmap]; rfl
  · rw [restartBlocks_verd, hmoves.verd]; rfl

/-! ## Ignition -/

theorem remIgnitionOff_remLaws (hoff : s.ret.ignition = .off)
    (htimers : ∀ i : Seat, TimersOk (steps s.rem.settings.tVisual) (steps s.rem.settings.tChime) (s.rem.table.get i)) :
    RemLaws (remIgnitionOff s).1 := by
  refine RemCore.refreshed (s := { s with rem := { s.rem with
    startTimer := none, startElapsed := false, table := Tab.ofFn fun i => (s.rem.table.get i).to .none } })
    ⟨⟨fun _ i => ?_, fun hon => ?_⟩, fun i => ?_, nofun, fun _ => ⟨rfl, rfl⟩, fun hon => ?_⟩
  · simp [ReminderRec.to]
  · simp [hoff] at hon
  · simp only [Tab.get_ofFn]
    exact to_timersOk (by decide) nofun (htimers i).budgetMax
  · simp [hoff] at hon

theorem ignitionOff_remLaws (h : RemLaws s) : RemLaws (ignitionOff s) := by
  have hmoves := remTurnedOff_remMoves s
  have hret : (retOff s).ret.ignition = .off := by simp only [retOff]; split <;> rfl
  have hoff : RemLaws (remTurnedOff s).1 :=
    remIgnitionOff_remLaws (by simpa using hret) (by simpa using h.core.timers)
  refine hoff.congr (ignitionOff_rem s) ?_ ?_ ?_
  · rw [ignitionOff_ret, hmoves.ret]; simp
  · rw [ignitionOff_cmap, hmoves.cmap]; simp
  · rw [ignitionOff_verd, hmoves.verd]; simp

theorem remIgnitionOn_remLaws (budgets : Seat → Option Nat) (hon : s.ret.ignition = .on)
    (hnone : ∀ i : Seat, (s.rem.table.get i).state = .none ∧ (s.rem.table.get i).visual = 0)
    (ht : 10 ≤ s.rem.settings.tStart) : RemLaws (remIgnitionOn budgets s).1 := by
  let v := { s with rem := { s.rem with
    startTimer := some (steps s.rem.settings.tStart), startElapsed := false
    table := Tab.ofFn fun i => { s.rem.table.get i with
      budget := match budgets i with
        | some b => min b (steps s.rem.settings.tChime)
        | none => steps s.rem.settings.tChime } } }
  refine RemCore.refreshed (s := (evaluateReminders (fun _ => true) v).1) (evaluate_remCore (s := v) _ ?_ nofun ?_ ?_)
  · intro hoff
    simp only [v, hon] at hoff
    cases hoff
  · intro i
    simp only [v, Tab.get_ofFn]
    obtain ⟨hst, hvis⟩ := hnone i
    refine ⟨fun _ => hvis, fun h => ?_, fun h => ?_, ?_, ?_⟩
    · simp [hst] at h
    · simp [hst] at h
    · simp [hvis]
    · simp only
      split
      · exact Nat.min_le_right ..
      · exact Nat.le_refl _
  · refine ⟨?_, fun hoff => ?_, fun _ => by simp [v]⟩
    · simp only [v, ne_eq, Option.some.injEq, steps]; omega
    · simp only [v, hon] at hoff; cases hoff

theorem ignitionOn_remLaws (h : RemLaws s) (ht : 10 ≤ s.rem.settings.tStart) (hoff : s.ret.ignition = .off) :
    RemLaws (ignitionOn s) := by
  have hmoves := remTurnedOn_remMoves s
  have hon : RemLaws (remIgnitionOn s.resumeBudget (resumesTold s)).1 := by
    refine remIgnitionOn_remLaws _ (by simp [seatsResumed]) (fun i => ?_) (by simpa using ht)
    have hnone := h.core.fits.1 hoff i
    rw [resumesTold_rem]
    exact ⟨hnone, (h.core.timers i).outside (by simp [hnone])⟩
  refine hon.congr (ignitionOn_rem s) ?_ ?_ ?_
  · rw [ignitionOn_ret, hmoves.ret, resumesTold_ret]
  · rw [ignitionOn_cmap, hmoves.cmap]; simp
  · rw [ignitionOn_verd, hmoves.verd, resumesTold_verd]

/-! ## Rows -/

theorem caseOf_absent {m : SeatMap} {r : SeatRec} (h : r.lifecycle = .absent) : caseOf m r = .notReminded := by
  simp [caseOf, h]

/-- The seats of a REMOVED row are ABSENT, and so not reminded (R11, R106). -/
theorem removedRow_resting (hseats : SeatLaws s) (h : RemLaws s) {r : Row} (hr : s.cmap.rowState.get r = .removed)
    {i : Seat} (hi : s.cmap.inRow r i = true) : (s.rem.table.get i).state = .none := by
  obtain ⟨hfit, hix⟩ := (inRow_iff ..).1 hi
  obtain ⟨hvalid, -, -⟩ := removable_of_notFixed hseats.1 (r := r) (by simp [hr])
  have habsent : (s.verd.seats.get i).lifecycle = .absent := (hseats.2.1 i).2.2 ⟨hvalid, hfit, by rw [hix]; exact hr⟩
  rcases hign : s.ret.ignition with _ | _
  · exact h.core.fits.1 hign i
  · have hfits := h.core.fits.2 hign i
    rw [caseOf_absent habsent] at hfits
    simpa [fitsCase] using hfits

theorem freshRow_get (s : State) (c : CMap) (r : Row) (l : Lifecycle) (i : Seat) :
    (s.freshRow c r l).get i = if c.inRow r i = true then freshSeat (c.seats.get i) l else s.verd.seats.get i := by
  simp [State.freshRow]

theorem installRow_remLaws (hseats : SeatLaws s) (h : RemLaws s) {r : Row} (hr : s.cmap.rowState.get r = .removed) :
    RemLaws (installRow r s) := by
  have hmoves := rowInstalled_remMoves r s
  have hrow : RemLaws (remRowInstalled r (rowSeated r .installed .active s)).1 := by
    refine (evaluate_remCore ((s.cmap.rowBecomes r .installed).inRow r)
      (s := (rowSeated r .installed .active s).withTable (Tab.ofFn fun i =>
        if (s.cmap.rowBecomes r .installed).inRow r i then
          { s.rem.table.get i with visual := 0, budget := steps s.rem.settings.tChime }
        else s.rem.table.get i)) (fun hoff i => ?_) (fun hon i hi => ?_) (fun i => ?_) h.core.start).refreshed
    · simp only [State.withTable_rem, Tab.get_ofFn]
      split <;> exact h.core.fits.1 hoff i
    · simp only [State.withTable_rem, State.withTable_cmap, State.withTable_verd, Tab.get_ofFn, rowSeated_cmap,
        rowSeated_verd, freshRow_get, hi, Bool.false_eq_true, if_false]
      exact h.core.fits.2 hon i
    · simp only [State.withTable_rem, Tab.get_ofFn, rowSeated_rem]
      by_cases hi : (s.cmap.rowBecomes r .installed).inRow r i = true
      · rw [if_pos hi]
        have hnone := removedRow_resting hseats h hr hi
        exact ⟨fun _ => rfl, fun hv => by simp [hnone] at hv, fun ha => by simp [hnone] at ha, Nat.zero_le _, Nat.le_refl _⟩
      · rw [if_neg hi]; exact h.core.timers i
  refine hrow.congr (installRow_rem r s) ?_ ?_ ?_
  · rw [installRow_ret, hmoves.ret]; rfl
  · rw [installRow_cmap, hmoves.cmap]; rfl
  · rw [installRow_verd, hmoves.verd]; rfl

theorem removeRow_remLaws (h : RemLaws s) (r : Row) : RemLaws (removeRow r s) := by
  have hmoves := rowUnreminded_remMoves r s
  have hscan := rowUnscanned_scanMoves r s
  have hcmap : (rowUnscanned r s).cmap = s.cmap.rowBecomes r .removed := hscan.cmap
  have hverd : (rowUnscanned r s).verd.seats = s.freshRow (s.cmap.rowBecomes r .removed) r .absent :=
    congrArg Verd.seats hscan.verd
  have hrem : (rowUnscanned r s).rem = s.rem := hscan.rem
  have hret : (rowUnscanned r s).ret = s.ret := hscan.ret
  have hrow : RemLaws (rowUnreminded r s).1 := by
    let v := (withFeat (rowUncaptured r s).1 (rowUnscanned r s)).withTable
      ((withFeat (rowUncaptured r s).1 (rowUnscanned r s)).restedTable ((rowUnscanned r s).cmap.inRow r))
    have hget (i : Seat) : v.rem.table.get i = if s.cmap.inRow r i = true then
        restingReminder s.rem.settings.tChime else s.rem.table.get i := by
      simp [v, State.restedTable, hcmap, hrem, rowBecomes_inRow]
    have hseat (i : Seat) : v.verd.seats.get i = if s.cmap.inRow r i = true then
        freshSeat (s.cmap.seats.get i) .absent else s.verd.seats.get i := by
      simp only [v, State.withTable_verd, withFeat_verd, hverd, freshRow_get, rowBecomes_inRow]; rfl
    have hv : v.cmap.seats = s.cmap.seats ∧ v.ret = s.ret ∧ v.rem.settings = s.rem.settings := by
      refine ⟨?_, hret, by simp [v, hrem]⟩
      simp [v, hcmap, CMap.rowBecomes]
    refine RemCore.refreshed (s := v) ⟨⟨fun hoff i => ?_, fun hon i => ?_⟩, fun i => ?_, ?_⟩
    · rw [hget]
      split
      · rfl
      · exact h.core.fits.1 (hv.2.1 ▸ hoff) i
    · rw [hget, hseat, hv.1]
      split
      · rw [caseOf_absent rfl]; rfl
      · exact h.core.fits.2 (hv.2.1 ▸ hon) i
    · rw [hget, hv.2.2]
      split
      · exact resting_timersOk _
      · exact h.core.timers i
    · have hstart := h.core.start
      simp only [StartLaw, v, State.withTable_rem, State.withTable_ret, withFeat_rem, withFeat_ret, hrem, hret]
      exact hstart
  refine hrow.congr (removeRow_rem r s) ?_ ?_ ?_
  · rw [removeRow_ret, hmoves.ret, withFeat_ret, hret]; rfl
  · rw [removeRow_cmap, hmoves.cmap, withFeat_cmap, hcmap]
  · rw [removeRow_verd, hmoves.verd, withFeat_verd, hverd]

/-! ## Frames -/

theorem caseOf_congr {m : SeatMap} {a b : SeatRec} (h : changedForRem a b = false) :
    caseOf m b = caseOf m a ∧ personOccupied m b = personOccupied m a := by
  simp only [changedForRem, Bool.or_eq_false_iff, decide_eq_false_iff_not, not_not] at h
  obtain ⟨⟨⟨hl, hc⟩, hb⟩, ha⟩ := h
  simp only [caseOf, personOccupied, hl, hc, hb, ha]
  exact ⟨rfl, trivial⟩

theorem frameHandled_remLaws (h : RemLaws s) {f : MatFrame} (hf : s.verd.slot = some f) : RemLaws (frameHandled s) := by
  let v := withFeat (captureAborted s f).1 (afterAdv s f)
  have hadv := afterAdv_advMoves s f
  have hcmap : v.cmap = s.cmap := by simp [v, hadv.cmap, afterVerd]
  have hrem : v.rem = s.rem := by simp [v, hadv.rem, afterVerd]
  have hret : v.ret = s.ret := by simp [v, hadv.ret, afterVerd]
  have hverd : v.verd.seats = s.verd.seats.set f.seat (handledBy s f).1 := by simp [v, hadv.verd, afterVerd]
  have hother (i : Seat) (hi : i ≠ f.seat) : v.verd.seats.get i = s.verd.seats.get i := by
    rw [hverd, Tab.get_set_other _ _ hi]
  have hafter : RemLaws (afterRem s f).1 := by
    unfold afterRem
    split
    · refine (evaluate_remCore (fun j => decide (j = f.seat)) (s := v) (fun hoff i => ?_) (fun hon i hi => ?_)
        (fun i => ?_) ?_).refreshed
      · rw [hrem]; exact h.core.fits.1 (hret ▸ hoff) i
      · rw [hrem, hcmap, hother i (of_decide_eq_false hi)]
        exact h.core.fits.2 (hret ▸ hon) i
      · rw [hrem]; exact h.core.timers i
      · simp only [StartLaw, hrem, hret]; exact h.core.start
    · rename_i hsame
      rw [Bool.not_eq_true] at hsame
      have hread (i : Seat) : caseOf (v.cmap.seats.get i) (v.verd.seats.get i) =
          caseOf (s.cmap.seats.get i) (s.verd.seats.get i) ∧
          personOccupied (v.cmap.seats.get i) (v.verd.seats.get i) =
            personOccupied (s.cmap.seats.get i) (s.verd.seats.get i) := by
        rw [hcmap]
        by_cases hi : i = f.seat
        · subst hi
          rw [hverd, Tab.get_set_same]
          exact caseOf_congr hsame
        · rw [hother i hi]; exact ⟨rfl, rfl⟩
      change RemLaws v
      simp only [RemLaws, ReminderLaw, TimerLaw, StartLaw, SummaryLaw, hrem, hret, hread]
      exact h
  have hmoves := afterRem_remMoves s f
  refine hafter.congr (frameHandled_rem hf) ?_ ?_ ?_
  · rw [frameHandled_ret hf, hmoves.ret]; exact congrArg Ret.ignition hret.symm
  · rw [frameHandled_cmap hf, hmoves.cmap]; exact congrArg CMap.seats hcmap.symm
  · rw [frameHandled_verd hf, hmoves.verd]; exact hverd.symm

/-! ## Every move of a cabin record (O56) -/

theorem fullReset_remLaws (s : State) : RemLaws (fullReset s) := by
  have hcore : RemCore (fullReset s) := by
    refine ⟨⟨fun _ i => ?_, nofun⟩, fun i => ?_, nofun, fun _ => ⟨rfl, rfl⟩, nofun⟩ <;>
      simp only [fullReset, State.reset, Rem.reset, Tab.get_const]
    · rfl
    · exact resting_timersOk _
  refine ⟨hcore.fits, (timerLaw_iff _).2 hcore.timers, hcore.start, ?_⟩
  refine ⟨?_, fun i => ?_, fun i => ?_, ?_, ?_⟩ <;>
    simp [fullReset, State.reset, Rem.reset, restingReminder, blankSeat, personOccupied]

theorem Stirs.remLaws (h : CabinLaws s) (hst : Stirs s t) : RemLaws t := by
  have hrem := h.rem
  cases hst with
  | reset => exact fullReset_remLaws s
  | loaded straps => exact mapApply_remLaws (s := copiesLoaded straps s) _ _ hrem.core.start
  | rowLine line level => exact hrem.congr rfl rfl rfl rfl
  | turnedOff => exact ignitionOff_remLaws hrem
  | turnedOn hoff => exact ignitionOn_remLaws hrem h.start hoff
  | discarded c g =>
    exact hrem.congr (by simp [postEvent]) (by simp [postEvent]) (by simp [postEvent]) (by simp [postEvent])
  | counted => exact hrem.congr rfl rfl rfl rfl
  | rowIn r hr => exact installRow_remLaws h.seats hrem hr
  | rowOut r => exact removeRow_remLaws hrem r
  | handled f hf => exact frameHandled_remLaws hrem hf
  | remStepped => exact (timerStep_remLaws hrem).posted
  | startExpired => exact (startIntervalExpires_remLaws hrem).posted
  | visualExpired i => exact (visualExpires_remLaws hrem i).posted
  | budgetExpired i => exact (budgetExpires_remLaws hrem i).posted
  | speedChanged x b => exact speedChanges_remLaws hrem x b
  | restarted => exact restartBlocks_remLaws h.start
  | mapWritten recs => exact mapApply_remLaws _ _ hrem.core.start
  | remindersSet x => exact (applySettings_remLaws hrem.core _).posted
  | mailboxRead => exact hrem.congr rfl rfl rfl rfl
  | cleared =>
    have hsettings : RemLaws (clearSettings s) :=
      (applySettings_remLaws (s := copiesCleared s) ⟨hrem.core.fits, hrem.core.timers, hrem.core.start⟩ _).posted
    rw [clearMap]
    exact mapApply_remLaws _ _ hsettings.core.start

/-- Settles O56: what moves a cabin record leaves the reminders lawful. -/
theorem everyStepKeepsTheRemindersInTheirCase : Obligations.EveryStepKeepsTheRemindersInTheirCase :=
  fun _ _ h ht => step_keeps_cabin (P := RemLaws) CabinLaws.rem Quiet.remLaws Stirs.remLaws h ht

end Sys2Proof.Machine

/-! SUPPORT. RET's law of snapshots and their timer: every move of a cabin record keeps it (R138 to R145). -/

namespace Sys2Proof.Machine

open Sys2Proof.Safety

variable {s t : State}

/-- A seat that has a mat of its own to judge: ACTIVE or FAULTED. -/
def Mounted (s : State) (i : Seat) : Prop :=
  (s.verd.seats.get i).lifecycle = .active ∨ (s.verd.seats.get i).lifecycle = .faulted

theorem mounted_congr {i : Seat} (h : (t.verd.seats.get i).lifecycle = (s.verd.seats.get i).lifecycle)
    (hm : Mounted s i) : Mounted t i := by
  rw [Mounted, h]; exact hm

/-- Snapshots of a class of seats discarded, the seats left with one still mounted (R140 to R144). -/
theorem retentionLaw_dropped (h : RetentionLaw s) {g : Seat → Bool} (hret : t.ret = s.ret.drop g)
    (hmounted : ∀ i, g i = false → Mounted s i → Mounted t i) : RetentionLaw t := by
  obtain ⟨hzero, hon, hrun, hheld⟩ := h
  have hget (i : Seat) : t.ret.snapshots.get i = if g i = true then none else s.ret.snapshots.get i := by
    rw [hret]; exact drop_get ..
  have htimer : t.ret.timer = if ∃ i : Seat, (t.ret.snapshots.get i).isSome = true then s.ret.timer else none := by
    rw [hret]; exact drop_timer ..
  refine ⟨?_, fun hi i => ?_, ?_, fun i hi => ?_⟩
  · rw [htimer]
    split
    · exact hzero
    · simp
  · rw [hget]
    split
    · rfl
    · exact hon (by rw [hret] at hi; exact hi) i
  · rw [htimer]
    split
    · rename_i hany
      obtain ⟨i, hi⟩ := hany
      rw [hget] at hi
      refine ⟨fun _ => ⟨i, by rw [hget]; exact hi⟩, fun _ => hrun.2 ⟨i, ?_⟩⟩
      split at hi
      · cases hi
      · exact hi
    · rename_i hnone
      exact ⟨nofun, fun hi => absurd hi hnone⟩
  · rw [hget] at hi ⊢
    split at hi
    · cases hi
    · rename_i hg
      rw [if_neg hg]
      exact ⟨(hheld i hi).1, hmounted i (by simpa using hg) (hheld i hi).2⟩

/-- Nothing that the law reads has moved but the lifecycle of seats that stay mounted. -/
theorem retentionLaw_congr (h : RetentionLaw s) (hsnap : t.ret.snapshots = s.ret.snapshots)
    (htimer : t.ret.timer = s.ret.timer) (hign : t.ret.ignition = s.ret.ignition)
    (hmounted : ∀ i, Mounted s i → Mounted t i) : RetentionLaw t := by
  obtain ⟨hzero, hon, hrun, hheld⟩ := h
  unfold RetentionLaw
  rw [hsnap, htimer, hign]
  exact ⟨hzero, hon, hrun, fun i hi => ⟨(hheld i hi).1, hmounted i (hheld i hi).2⟩⟩

theorem retentionLaw_sameRet (h : RetentionLaw s) (hret : t.ret = s.ret) (hverd : t.verd = s.verd) : RetentionLaw t :=
  retentionLaw_congr h (by rw [hret]) (by rw [hret]) (by rw [hret]) fun _ => mounted_congr (by rw [hverd])

/-- Every snapshot discarded. -/
theorem retentionLaw_emptied (h : RetentionLaw s) (hret : t.ret = s.ret.drop everySeat) : RetentionLaw t :=
  retentionLaw_dropped h hret fun i hi => by simp [everySeat] at hi

theorem retOff_retentionLaw (h : RetentionLaw s) (hret : t.ret = (retOff s).ret)
    (hverd : t.verd = s.verd) : RetentionLaw t := by
  obtain ⟨hzero, hon, hrun, hheld⟩ := h
  unfold RetentionLaw
  rw [hret, hverd]
  unfold retOff
  dsimp only
  split
  · exact ⟨hzero, nofun, hrun, hheld⟩
  rename_i ht
  have htaken (i : Seat) : (takenSnapshots s).get i =
      if (s.verd.seats.get i).lifecycle = .active ∧ (s.verd.seats.get i).confirmed ≠ .unknown then
        some { confirmed := (s.verd.seats.get i).confirmed, buckle := (s.verd.seats.get i).buckle
               budget := (s.rem.table.get i).budget }
      else none := by simp [takenSnapshots]
  refine ⟨?_, nofun, ?_, fun i hi => ?_⟩
  · dsimp only
    split
    · simp only [ne_eq, Option.some.injEq, steps]; omega
    · simp
  · dsimp only
    rw [← anySnapshot_iff]
    split <;> simp [*]
  · dsimp only at hi ⊢
    rw [htaken] at hi ⊢
    split at hi
    · rename_i hact
      rw [if_pos hact]
      exact ⟨by simpa using hact.2, .inl hact.1⟩
    · cases hi

theorem ignitionOn_retentionLaw (s : State) : RetentionLaw (ignitionOn s) := by
  simp [RetentionLaw, seatsResumed]

theorem installRow_retentionLaw (h : RetentionLaw s) (r : Row) : RetentionLaw (installRow r s) := by
  refine retentionLaw_congr h (by simp) (by simp) (by simp) fun i hi => ?_
  rw [Mounted, installRow_verd, freshRow_get]
  split
  · exact .inl rfl
  · exact hi

theorem removeRow_retentionLaw (h : RetentionLaw s) (r : Row) : RetentionLaw (removeRow r s) := by
  refine retentionLaw_dropped h (removeRow_ret r s) fun i hi => ?_
  rw [Mounted, Mounted, removeRow_verd, freshRow_get, if_neg (by simp [hi])]
  exact id

theorem frameHandled_retentionLaw (hs : SeatLaws s) (h : RetentionLaw s) {f : MatFrame} (hf : s.verd.slot = some f) :
    RetentionLaw (frameHandled s) := by
  refine retentionLaw_congr h (by rw [frameHandled_ret hf]) (by rw [frameHandled_ret hf]) (by rw [frameHandled_ret hf]) fun i hi => ?_
  have hget : (frameHandled s).verd.seats.get i = if i = f.seat then (handledBy s f).1 else s.verd.seats.get i := by
    rw [frameHandled_verd hf]; exact Tab.get_set ..
  rw [Mounted, hget]
  split
  · subst_vars
    exact (handleFrame_kept _ _ f ⟨hi, hs.2.2.1 f.seat⟩ (inRange_of_law (hs.2.2.2 f.seat))).1.mounted
  · exact hi

theorem RemMoves.retentionLaw {r : State × List Notice} (hs : RetentionLaw s) (h : RemMoves s r.1) :
    RetentionLaw (postEvent r) := retentionLaw_sameRet hs (postEvent_ret h) (postEvent_verd h)

theorem mapApply_retentionLaw (h : RetentionLaw s) (recs : MapRecs) (valid : Bool) :
    RetentionLaw (mapApply recs valid s) := retentionLaw_emptied h (mapApply_ret recs valid s)

theorem Stirs.retentionLaw (h : CabinLaws s) (hst : Stirs s t) : RetentionLaw t := by
  have hret := h.retention
  cases hst with
  | reset => simp [RetentionLaw, fullReset, State.reset, Ret.reset]
  | loaded straps =>
    exact mapApply_retentionLaw (s := copiesLoaded straps s) (retentionLaw_congr hret rfl rfl rfl fun _ => id) _ _
  | rowLine line level => exact retentionLaw_sameRet hret rfl rfl
  | turnedOff => exact retOff_retentionLaw hret (ignitionOff_ret s) (ignitionOff_verd s)
  | turnedOn => exact ignitionOn_retentionLaw s
  | discarded c g =>
    exact retentionLaw_dropped hret (g := g) (by simp [postEvent]) fun i _ => mounted_congr (by simp [postEvent])
  | counted n ht hn =>
    obtain ⟨-, hon, hrun, hheld⟩ := hret
    refine ⟨?_, hon, ?_, hheld⟩
    · simp only [ne_eq, Option.some.injEq]; omega
    · rw [ht] at hrun; exact hrun
  | rowIn r => exact installRow_retentionLaw hret r
  | rowOut r => exact removeRow_retentionLaw hret r
  | handled f hf => exact frameHandled_retentionLaw h.seats hret hf
  | remStepped => exact (timerStep_remMoves s).retentionLaw hret
  | startExpired => exact (startIntervalExpires_remMoves s).retentionLaw hret
  | visualExpired i => exact (visualExpires_remMoves i s).retentionLaw hret
  | budgetExpired i => exact (budgetExpires_remMoves i s).retentionLaw hret
  | speedChanged x b =>
    have hspeed : RetentionLaw (speedTaken x b s) := retentionLaw_congr hret rfl rfl rfl fun _ => mounted_congr (by simp [speedTaken])
    exact (speedChanges_remMoves x b s).retentionLaw hspeed
  | restarted => exact retentionLaw_emptied hret (restartBlocks_ret s)
  | mapWritten recs => exact mapApply_retentionLaw hret _ _
  | remindersSet x => exact (applySettings_remMoves x.clamped s).retentionLaw hret
  | mailboxRead => exact retentionLaw_sameRet hret rfl rfl
  | cleared =>
    have hcopies : RetentionLaw (copiesCleared s) := retentionLaw_congr hret rfl rfl rfl fun _ => id
    rw [clearMap]
    exact mapApply_retentionLaw (s := clearSettings s) ((clearSettings_remMoves s).retentionLaw hcopies) _ _

theorem step_keeps_retentionLaw (h : Laws s) (ht : step s = .next t) : RetentionLaw t :=
  step_keeps_cabin (P := RetentionLaw) CabinLaws.retention Quiet.retentionLaw Stirs.retentionLaw h ht

end Sys2Proof.Machine

/-! SUPPORT. SCAN's law and the law of the queue: every operation of SCAN and of FEAT's intake, and every event that reaches
them, keeps both (R17 to R40). -/

namespace Sys2Proof.Machine

open Sys2Proof.Safety

variable {s t : State}

/-! ## SCAN's law, read from SCAN, the map and the ignition state -/

/-- What holds of SCAN with the map valid or not and ignition ON or OFF (R17, R20, R28). -/
structure ScanOk (c : Scan) (valid : Bool) (ign : Ignition) : Prop where
  halted : c.state = .halted ↔ valid = false
  stopped : c.state = .stopped → ign = .off
  waiting : c.state = .waiting → ign = .on
  pass : c.state = .pass → c.closing = false → ign = .on
  closing : c.closing = true → c.state = .pass
  interval : c.interval.isSome = true ↔ c.state = .waiting ∨ (c.state = .pass ∧ c.closing = false)
  step : c.step.isSome = true ↔ c.state = .pass ∨ c.state = .probing
  list : c.state ≠ .pass → c.visited = [] ∧ c.rest = []

theorem scanLaw_iff (s : State) : ScanLaw s ↔ ScanOk s.scan s.cmap.valid s.ret.ignition :=
  ⟨fun ⟨h1, h2, h3, h4, h5, h6, h7, h8⟩ => ⟨h1, h2, h3, h4, h5, h6, h7, h8⟩,
    fun ⟨h1, h2, h3, h4, h5, h6, h7, h8⟩ => ⟨h1, h2, h3, h4, h5, h6, h7, h8⟩⟩

section
variable {c d : Scan} {valid : Bool} {ign : Ignition}

/-- What the law does not read is free. -/
theorem ScanOk.congr (h : ScanOk c valid ign) (hstate : d.state = c.state) (hclosing : d.closing = c.closing)
    (hinterval : d.interval.isSome = c.interval.isSome) (hstep : d.step.isSome = c.step.isSome)
    (hlist : d.state ≠ .pass → d.visited = c.visited ∧ d.rest = c.rest) : ScanOk d valid ign where
  halted := by rw [hstate]; exact h.halted
  stopped := by rw [hstate]; exact h.stopped
  waiting := by rw [hstate]; exact h.waiting
  pass := by rw [hstate, hclosing]; exact h.pass
  closing := by rw [hstate, hclosing]; exact h.closing
  interval := by rw [hstate, hclosing, hinterval]; exact h.interval
  step := by rw [hstate, hstep]; exact h.step
  list hp := by
    obtain ⟨hv, hr⟩ := hlist hp
    rw [hv, hr]
    exact h.list (by rw [← hstate]; exact hp)

/-- SCAN at rest is lawful in a state that agrees with the map and ignition (R18, R20, R30). -/
theorem settled_ok (c : Scan) (valid : Bool) (ign : Ignition) : ScanOk (c.settled valid ign) valid ign := by
  cases valid <;> cases ign <;> constructor <;> simp [Scan.settled, Scan.atRest]

theorem probing_ok (c : Scan) (st : SeatStep) (ign : Ignition) (hstate : c.state = .probing) (hinterval : c.interval = none)
    (hclosing : c.closing = false) (hlist : c.visited = [] ∧ c.rest = []) (hstep : c.step = some st) :
    ScanOk c true ign := by
  constructor <;> simp [*]

/-- With a seat step in flight the map is valid (R17). -/
theorem ScanOk.valid_of_step (h : ScanOk c valid ign) (hstep : c.step.isSome = true) : valid = true := by
  rcases h.step.1 hstep with hs | hs <;> cases valid <;> have hh := h.halted <;> simp [hs] at hh ⊢

end

theorem settledScan_ok (s : State) (hvalid : s.cmap.valid = true) : ScanOk (settledScan s) s.cmap.valid s.ret.ignition := by
  rw [hvalid]
  cases hi : s.ret.ignition <;> constructor <;> simp [settledScan, hi]

theorem probePassOf_ok (s : State) (i : Seat) (ign : Ignition) : ScanOk (probePassOf s i) true ign :=
  probing_ok _ (stepAt s i) ign rfl rfl rfl ⟨rfl, rfl⟩ rfl

/-- SCAN going on after a marker stays lawful (R25, R28, R35). -/
theorem proceeds_ok (st : SeatStep) (h : ScanOk s.scan s.cmap.valid s.ret.ignition) (hstep : s.scan.step.isSome = true) :
    ScanOk (proceeds st s) s.cmap.valid s.ret.ignition := by
  have hvalid := h.valid_of_step hstep
  have hrest := settledScan_ok s hvalid
  rw [hvalid] at hrest ⊢
  have hprobe (i : Seat) := probePassOf_ok s i s.ret.ignition
  unfold proceeds
  by_cases hp : s.scan.state = .probing
  · rw [if_pos hp]
    split
    · split
      · exact hprobe _
      · exact hrest
    · exact hrest
    · exact hrest
  rw [if_neg hp]
  have hpass : s.scan.state = .pass := (h.step.1 hstep).resolve_right hp
  by_cases hc : s.scan.closing = true
  · rw [if_pos hc]
    split
    · exact (hprobe _).congr rfl rfl rfl rfl fun _ => ⟨rfl, rfl⟩
    all_goals exact hrest
  · rw [if_neg hc]
    have hclosing : s.scan.closing = false := by simpa using hc
    have hon := h.pass hpass hclosing
    have hrun := h.interval.2 (.inr ⟨hpass, hclosing⟩)
    split
    · constructor <;> simp [hon, hrun]
    · constructor <;> simp [hpass, hclosing, hon, hrun]

/-! ## The queue and FEAT's intake -/

/-- The intake fits the queue (R40). -/
structure IntakeFits (x : Intake) (q : List Entry) : Prop where
  idle : x = .idle → q = []
  blocked : x = .blocked → ∃ m rest, q = .marker m :: rest

theorem queueLaw_iff (s : State) : QueueLaw s ↔ s.scan.queue.length ≤ 64 ∧ IntakeFits s.feat.intake s.scan.queue :=
  ⟨fun ⟨h, hi, hb⟩ => ⟨h, hi, hb⟩, fun ⟨h, hi, hb⟩ => ⟨h, hi, hb⟩⟩

theorem looked_fits (s : State) (q : List Entry) :
    IntakeFits (looked s q).1 (looked s q).2 ∧ (looked s q).2.length ≤ q.length := by
  unfold looked
  split
  · exact ⟨⟨fun _ => rfl, nofun⟩, Nat.le_refl _⟩
  · exact ⟨⟨nofun, nofun⟩, by simp⟩
  · split
    · exact ⟨⟨nofun, nofun⟩, by simp⟩
    · exact ⟨⟨nofun, fun _ => ⟨_, _, rfl⟩⟩, Nat.le_refl _⟩

theorem pushed_fits (e : Entry) (h : QueueLaw s) (hroom : s.scan.queue.length < 64) :
    (Safety.pushed e s).2.length ≤ 64 ∧ IntakeFits (Safety.pushed e s).1 (Safety.pushed e s).2 := by
  obtain ⟨-, -, hb⟩ := h
  unfold Safety.pushed
  split
  · obtain ⟨hfit, hlen⟩ := looked_fits s (s.scan.queue ++ [e])
    refine ⟨?_, hfit⟩
    simp only [List.length_append, List.length_singleton] at hlen
    omega
  · rename_i hbusy
    refine ⟨by simp only [List.length_append, List.length_singleton]; omega, fun hi => absurd hi hbusy, fun hi => ?_⟩
    obtain ⟨m, rest, hq⟩ := hb hi
    exact ⟨m, rest ++ [e], by rw [hq]; rfl⟩

/-- A look of FEAT leaves queue and intake lawful when it was IDLE, or they were. -/
theorem featLook_queueLaw (hlen : s.scan.queue.length ≤ 64) (h : s.feat.intake = .idle ∨ QueueLaw s) :
    QueueLaw (featLook s) := by
  by_cases hi : s.feat.intake = .idle
  · rw [featLook_idle s hi]
    obtain ⟨hfit, hl⟩ := looked_fits s s.scan.queue
    exact (queueLaw_iff _).2 ⟨Nat.le_trans hl hlen, hfit⟩
  · rw [featLook_busy s hi]
    exact h.resolve_left hi

theorem featLook_scanLaw (h : ScanLaw s) : ScanLaw (featLook s) := by
  by_cases hi : s.feat.intake = .idle
  · rw [featLook_idle s hi]
    exact (scanLaw_iff _).2 (((scanLaw_iff s).1 h).congr rfl rfl rfl rfl fun _ => ⟨rfl, rfl⟩)
  · rw [featLook_busy s hi]; exact h

/-! ## Both laws through the operations of SCAN -/

/-- The laws of SCAN and of the queue. -/
abbrev ScanLaws (s : State) : Prop := ScanLaw s ∧ QueueLaw s

/-- Nothing that the two laws read has moved. -/
theorem ScanLaws.congr (h : ScanLaws s) (hscan : t.scan = s.scan) (hintake : t.feat.intake = s.feat.intake)
    (hvalid : t.cmap.valid = s.cmap.valid) (hign : t.ret.ignition = s.ret.ignition) : ScanLaws t := by
  simp only [ScanLaws, ScanLaw, QueueLaw, hscan, hintake, hvalid, hign]
  exact h

/-- Only what SCAN's law does not read has moved in SCAN. -/
theorem ScanLaws.scan (h : ScanLaws s) {c : Scan} (hok : ScanOk c s.cmap.valid s.ret.ignition) (hq : c.queue = s.scan.queue) :
    ScanLaws { s with scan := c } := by
  refine ⟨(scanLaw_iff _).2 hok, (queueLaw_iff _).2 ?_⟩
  rw [hq]
  exact (queueLaw_iff s).1 h.2

theorem markerIn_scanLaws (st : SeatStep) (m : Marker) (h : ScanLaws s) (hstep : s.scan.step.isSome = true)
    (hroom : s.scan.queue.length < 64) : ScanLaws (markerIn st m s) := by
  obtain ⟨hscan, hqueue⟩ := h
  refine ⟨(scanLaw_iff _).2 ?_, (queueLaw_iff _).2 (pushed_fits (.marker m) hqueue hroom)⟩
  exact (proceeds_ok st ((scanLaw_iff s).1 hscan) hstep).congr rfl rfl rfl rfl fun _ => ⟨rfl, rfl⟩

/-- The seat step in flight replaced. -/
theorem withStep_scanLaws (st : SeatStep) (h : ScanLaws s) (hstep : s.scan.step.isSome = true) :
    ScanLaws (s.withStep st) :=
  h.scan (((scanLaw_iff s).1 h.1).congr rfl rfl rfl hstep.symm fun _ => ⟨rfl, rfl⟩) rfl

theorem formMarker_scanLaws (st : SeatStep) (h : ScanLaws s) (hstep : s.scan.step.isSome = true) :
    ScanLaws (formMarker st s) := by
  rw [formMarker_eq, marked]
  dsimp only
  split
  · exact markerIn_scanLaws st _ h hstep ‹_›
  · exact withStep_scanLaws _ h hstep

theorem cutShort_scanLaws (h : ScanLaws s) : ScanLaws (cutShort s) := by
  unfold cutShort
  split
  · rename_i st hst
    have hstep : s.scan.step.isSome = true := by simp [hst]
    split
    · exact formMarker_scanLaws _ h hstep
    · exact withStep_scanLaws _ h hstep
    · exact withStep_scanLaws _ h hstep
  · exact h

theorem intervalExpires_scanLaws (h : ScanLaws s) : ScanLaws (intervalExpires s) := by
  unfold intervalExpires
  split
  · exact h
  rename_i n hn
  have hok := (scanLaw_iff s).1 h.1
  have hload : ScanLaws { s with scan := { s.scan with interval := some s.scan.timing.interval } } :=
    h.scan (hok.congr rfl rfl (by simp [hn]) rfl fun _ => ⟨rfl, rfl⟩) rfl
  have hload' := (scanLaw_iff _).1 hload.1
  dsimp only
  split
  · rename_i hw
    have hw : s.scan.state = .waiting := hw
    unfold startPass
    split
    · exact hload
    · refine hload.scan (c := _) ?_ rfl
      have hvalid : s.cmap.valid = true := by
        cases hv : s.cmap.valid
        · have := hok.halted.2 hv; rw [hw] at this; cases this
        · rfl
      have hclosing : s.scan.closing = false := by
        cases hc : s.scan.closing
        · rfl
        · have := hok.closing hc; rw [hw] at this; cases this
      have hon := hok.waiting hw
      constructor <;> simp [hvalid, hclosing, hon]
  · exact hload.scan (hload'.congr rfl rfl rfl rfl fun _ => ⟨rfl, rfl⟩) rfl
  · exact hload

theorem settleEnds_scanLaws (h : ScanLaws s) : ScanLaws (settleEnds s) := by
  unfold settleEnds
  split
  · rename_i st hst
    have hstep : s.scan.step.isSome = true := by simp [hst]
    split
    · split
      · exact formMarker_scanLaws st h hstep
      · exact withStep_scanLaws _ h hstep
    · exact h
  · exact h

theorem sampled_scanLaws (st : SeatStep) (ch : Channel) (raw : BitVec 12) (h : ScanLaws s) :
    ScanLaws (sampled st ch raw s) ∧ (sampled st ch raw s).scan.step = s.scan.step := by
  unfold sampled
  split
  · refine ⟨⟨(scanLaw_iff _).2 ?_, (queueLaw_iff _).2 (pushed_fits _ h.2 ‹_›)⟩, rfl⟩
    exact ((scanLaw_iff s).1 h.1).congr rfl rfl rfl rfl fun _ => ⟨rfl, rfl⟩
  · exact ⟨h, rfl⟩

theorem nextConversion_scanLaws (st : SeatStep) (h : ScanLaws s) (hstep : s.scan.step.isSome = true) :
    ScanLaws (nextConversion st s) := by
  unfold nextConversion
  split
  · exact formMarker_scanLaws st h hstep
  · split
    · exact h.scan (((scanLaw_iff s).1 h.1).congr rfl rfl rfl hstep.symm fun _ => ⟨rfl, rfl⟩) rfl
    · exact withStep_scanLaws _ h hstep

theorem conversionCompletes_scanLaws (raw : BitVec 12) (anch : BitVec 8) (h : ScanLaws s) :
    ScanLaws (conversionCompletes raw anch s) := by
  unfold conversionCompletes
  split
  · rename_i st hst
    split
    · have hlevels : ScanLaws { s with pins := { s.pins with anch := anch } } := h.congr rfl rfl rfl rfl
      have hstep : ({ s with pins := { s.pins with anch := anch } } : State).scan.step.isSome = true := by simp [hst]
      dsimp only
      split
      · exact formMarker_scanLaws st hlevels hstep
      · rw [deliver_eq]
        obtain ⟨hsampled, hkept⟩ := sampled_scanLaws st ‹_› raw hlevels
        exact nextConversion_scanLaws _ hsampled (by rw [hkept]; exact hstep)
    · exact h
  · exact h

theorem pushWaiting_scanLaws (h : ScanLaws s) : ScanLaws (pushWaiting s) := by
  unfold pushWaiting
  split
  · rename_i st hst
    split
    · split
      · exact h
      · rename_i hfull
        rw [afterMarker_push]
        refine markerIn_scanLaws st _ h (by simp [hst]) ?_
        rwa [← full_false_iff, ← Bool.not_eq_true]
    · exact h
  · exact h

/-! ## Events that reach SCAN -/

theorem cancelProbe_scanLaws (c : CancelCause) (h : ScanLaws s) : ScanLaws (cancelProbe c s) :=
  h.scan (((scanLaw_iff s).1 h.1).congr rfl rfl rfl rfl fun _ => ⟨rfl, rfl⟩) rfl

theorem rowLeavesScan_scanLaws (r : Row) (h : ScanLaws s) : ScanLaws (rowLeavesScan r s) := by
  have hrest {u : State} (hu : ScanLaws u) :
      ScanLaws { u with scan := { u.scan with rest := u.scan.rest.filter fun i => !s.cmap.inRow r i } } := by
    have hok := (scanLaw_iff u).1 hu.1
    refine hu.scan (hok.congr rfl rfl rfl rfl fun hp => ⟨rfl, ?_⟩) rfl
    simp [(hok.list hp).2]
  unfold rowLeavesScan
  dsimp only
  split
  · split
    · exact hrest (cancelProbe_scanLaws .row h)
    · exact hrest h
  · exact hrest h

theorem scanRowRemoved_scanLaws (r : Row) (h : ScanLaws s) : ScanLaws (scanRowRemoved r s) := by
  rw [scanRowRemoved_eq]
  split
  · split
    · exact cutShort_scanLaws (rowLeavesScan_scanLaws r h)
    · exact rowLeavesScan_scanLaws r h
  · exact rowLeavesScan_scanLaws r h

/-- SCAN at ignition OFF, with RET already OFF (R28). -/
theorem scanIgnitionOff_scanLaws (hoff : s.ret.ignition = .off) (hqueue : QueueLaw s)
    (hok : ScanOk s.scan s.cmap.valid .on) : ScanLaws (scanIgnitionOff s) := by
  have hprobe : timedProbeCancelled s = { s with scan := (timedProbeCancelled s).scan } ∧
      ScanOk (timedProbeCancelled s).scan s.cmap.valid .on ∧ (timedProbeCancelled s).scan.queue = s.scan.queue := by
    unfold timedProbeCancelled
    split
    · exact ⟨rfl, hok.congr rfl rfl rfl rfl fun _ => ⟨rfl, rfl⟩, rfl⟩
    · exact ⟨rfl, hok, rfl⟩
  obtain ⟨hframe, hok, hq⟩ := hprobe
  have hmoved {c : Scan} (hc : ScanOk c s.cmap.valid .off) (hcq : c.queue = s.scan.queue) :
      ScanLaws { timedProbeCancelled s with scan := c } := by
    rw [hframe]
    refine ⟨(scanLaw_iff _).2 (by rw [hoff]; exact hc), (queueLaw_iff _).2 ?_⟩
    rw [hcq]
    exact (queueLaw_iff s).1 hqueue
  rw [scanIgnitionOff_eq]
  split
  · rename_i hw
    refine hmoved ?_ hq
    have hvalid : s.cmap.valid = true := by
      cases hv : s.cmap.valid
      · have := hok.halted.2 hv; rw [hw] at this; cases this
      · rfl
    rw [hvalid]
    constructor <;> simp [Scan.atRest]
  · rename_i hp
    refine cutShort_scanLaws (hmoved ?_ hq)
    have hvalid := hok.valid_of_step (hok.step.2 (.inl hp))
    rw [hvalid]
    constructor <;> simp [hp, hok.step]
  · rename_i hw hp
    have hnotWaiting : (timedProbeCancelled s).scan.state ≠ .waiting := hw
    have hnotPass : (timedProbeCancelled s).scan.state ≠ .pass := hp
    refine hmoved (c := (timedProbeCancelled s).scan) ?_ hq
    exact ⟨hok.halted, fun _ => rfl, fun e => absurd e hnotWaiting, fun e => absurd e hnotPass, hok.closing, hok.interval,
      hok.step, hok.list⟩

theorem scanIgnitionOn_scanLaws (hon : s.ret.ignition = .on) (hqueue : QueueLaw s)
    (hok : ScanOk s.scan s.cmap.valid .off) : ScanLaws (scanIgnitionOn s) := by
  have hmoved {c : Scan} (hc : ScanOk c s.cmap.valid .on) (hcq : c.queue = s.scan.queue) : ScanLaws { s with scan := c } := by
    refine ⟨(scanLaw_iff _).2 (by rw [hon]; exact hc), (queueLaw_iff _).2 ?_⟩
    rw [hcq]
    exact (queueLaw_iff s).1 hqueue
  unfold scanIgnitionOn
  split
  · rename_i hst
    refine hmoved ?_ rfl
    have hvalid : s.cmap.valid = true := by
      cases hv : s.cmap.valid
      · have := hok.halted.2 hv; rw [hst] at this; cases this
      · rfl
    rw [hvalid]
    constructor <;> simp [Scan.atRest]
  · rename_i hst
    refine hmoved (c := s.scan) ?_ rfl
    exact ⟨hok.halted, fun e => absurd e hst, fun _ => rfl, fun _ _ => rfl, hok.closing, hok.interval, hok.step, hok.list⟩

end Sys2Proof.Machine

/-! SUPPORT. Every command, and the count, keeps SCAN's law and the law of the queue. -/

namespace Sys2Proof.Machine

open Sys2Proof.Safety

variable {s t u : State}

/-! ## What the zero capture and its commits leave -/

/-- From `s` to `t` SCAN, the map, the Seat Table, RET and FEAT's intake and accumulator stand. -/
structure CaptureMoves (s t : State) : Prop where
  scan : t.scan = s.scan
  intake : t.feat.intake = s.feat.intake
  acc : t.feat.acc = s.feat.acc
  cmap : t.cmap = s.cmap
  verd : t.verd = s.verd
  ret : t.ret = s.ret

theorem CaptureMoves.refl (s : State) : CaptureMoves s s := ⟨rfl, rfl, rfl, rfl, rfl, rfl⟩

theorem CaptureMoves.trans (h : CaptureMoves s t) (k : CaptureMoves t u) : CaptureMoves s u :=
  ⟨k.scan.trans h.scan, k.intake.trans h.intake, k.acc.trans h.acc, k.cmap.trans h.cmap, k.verd.trans h.verd,
    k.ret.trans h.ret⟩

theorem closeCapture_moves (s : State) : CaptureMoves s (closeCapture s) := ⟨rfl, rfl, rfl, rfl, rfl, rfl⟩

theorem post_captureMoves (n : Notice) (s : State) : CaptureMoves s (post n s) := ⟨rfl, rfl, rfl, rfl, rfl, rfl⟩

theorem captureCommits_moves (c : Capture) (o : Tab 16 Nat) (s : State) : CaptureMoves s (captureCommits c o s) :=
  ⟨rfl, rfl, rfl, rfl, rfl, rfl⟩

theorem captureEnds_moves (c : Capture) (s : State) : CaptureMoves s (captureEnds c s) := by
  unfold captureEnds
  dsimp only
  split
  · exact (closeCapture_moves s).trans (post_captureMoves ..)
  split
  · exact ⟨rfl, rfl, rfl, rfl, rfl, rfl⟩
  · exact captureCommits_moves ..

theorem captureOffer_moves (before : Bool) (mk : Marker) (a : Accumulator) (s : State) :
    CaptureMoves s (captureOffer before mk a s) := by
  unfold captureOffer
  split
  · split
    · dsimp only
      split
      · exact ⟨rfl, rfl, rfl, rfl, rfl, rfl⟩
      · exact captureEnds_moves ..
    · exact .refl s
  · exact .refl s

theorem releaseCapture_moves (s : State) : CaptureMoves s (releaseCapture s) := by
  unfold releaseCapture
  split
  · split
    · exact captureCommits_moves ..
    · exact .refl s
  · exact .refl s

theorem finishCapture_moves (passes : Bool) (s : State) : CaptureMoves s (finishCapture passes s) := by
  unfold finishCapture
  split
  · split
    · split
      · exact (closeCapture_moves s).trans (post_captureMoves ..)
      · exact closeCapture_moves s
    · exact .refl s
  · exact .refl s

theorem commitCompletes_moves (passes : Bool) (s : State) : CaptureMoves s (commitCompletes passes s) := by
  unfold commitCompletes
  split
  · rename_i image hc
    have hwritten : CaptureMoves s (post (.store image.sec passes) { s with store := { s.store with
        stored := s.store.stored.write image passes, valid := s.store.valid.put image.sec passes, commit := .idle } }) :=
      ⟨rfl, rfl, rfl, rfl, rfl, rfl⟩
    dsimp only
    split
    · exact (hwritten.trans (finishCapture_moves ..)).trans (releaseCapture_moves _)
    · exact hwritten.trans (releaseCapture_moves _)
  · exact .refl s

theorem clearCompletes_moves (passes : BitVec 6) (s : State) : CaptureMoves s (clearCompletes passes s) := by
  unfold clearCompletes
  dsimp only
  split
  · exact CaptureMoves.trans ⟨by simp, by simp, by simp, by simp, by simp, by simp⟩ (releaseCapture_moves _)
  · exact .refl s

theorem CaptureMoves.scanLaws (h : CaptureMoves s t) (hs : ScanLaws s) : ScanLaws t :=
  hs.congr h.scan h.intake (by rw [h.cmap]) (by rw [h.ret])

/-! ## FEAT's operations -/

/-- FEAT looks at the head with its intake IDLE again. -/
theorem featLook_scanLaws (hscan : ScanOk s.scan s.cmap.valid s.ret.ignition) (hlen : s.scan.queue.length ≤ 64)
    (hidle : s.feat.intake = .idle) : ScanLaws (featLook s) :=
  ⟨featLook_scanLaw ((scanLaw_iff s).2 hscan), featLook_queueLaw hlen (.inl hidle)⟩

theorem entryCompletes_scanLaws (h : ScanLaws s) : ScanLaws (entryCompletes s) := by
  unfold entryCompletes
  split
  · refine featLook_scanLaws ?_ h.2.1 rfl
    exact ((scanLaw_iff s).1 h.1).congr rfl rfl rfl rfl fun _ => ⟨rfl, rfl⟩
  · exact h

theorem takeBlocked_scanLaws (h : ScanLaws s) : ScanLaws (takeBlocked s) := by
  unfold takeBlocked
  split
  · split
    · exact featLook_scanLaws ((scanLaw_iff s).1 h.1) h.2.1 rfl
    · exact h
  · exact h

theorem frameFinishes_scanLaws (h : ScanLaws s) : ScanLaws (frameFinishes s) := by
  have hok := (scanLaw_iff s).1 h.1
  unfold frameFinishes
  split
  case h_2 => exact h
  dsimp only
  split
  · exact featLook_scanLaws (hok.congr rfl rfl rfl rfl fun _ => ⟨rfl, rfl⟩) h.2.1 rfl
  · rename_i mk bp bc hx _ a _
    have hm := captureOffer_moves bc mk a { s with
      feat := { s.feat with intake := .idle, acc := none }
      scan := { s.scan with probe := s.scan.probe.offer bp (probeBufferOf (s.cmap.seats.get mk.seat)
        (featuresOf (s.cmap.seats.get mk.seat) (s.cmap.profileOf mk.seat) a) a mk) } }
    split
    · refine featLook_scanLaws ?_ (by rw [hm.scan]; exact h.2.1) hm.intake
      rw [hm.scan, hm.cmap, hm.ret]
      exact hok.congr rfl rfl rfl rfl fun _ => ⟨rfl, rfl⟩
    · refine featLook_scanLaws ?_ (by simp only [hm.scan]; exact h.2.1) hm.intake
      simp only [hm.scan, hm.cmap, hm.ret]
      exact hok.congr rfl rfl rfl rfl fun _ => ⟨rfl, rfl⟩

/-! ## Events -/

/-- SCAN settled with an empty queue and an idle FEAT (R18, R30). -/
theorem settled_scanLaws {c : Scan}
    (hscan : t.scan = { c.settled t.cmap.valid t.ret.ignition with
      probe := t.scan.probe, overrun := t.scan.overrun, tornFlag := t.scan.tornFlag })
    (hqueue : c.queue = []) (hintake : t.feat.intake = .idle) : ScanLaws t := by
  have hq : t.scan.queue = [] := by
    rw [hscan, ← hqueue]
    cases t.cmap.valid <;> cases t.ret.ignition <;> rfl
  refine ⟨(scanLaw_iff t).2 ?_, (queueLaw_iff t).2 ?_⟩
  · rw [hscan]
    exact (settled_ok c _ _).congr rfl rfl rfl rfl fun _ => ⟨rfl, rfl⟩
  · rw [hq, hintake]
    exact ⟨by simp, fun _ => rfl, nofun⟩

theorem mapApply_scanLaws (recs : MapRecs) (valid : Bool) (s : State) : ScanLaws (mapApply recs valid s) := by
  refine settled_scanLaws (c := s.scan.flushed) ?_ rfl (by rw [mapApply_feat])
  rw [mapApply_scan, mapApply_cmap, mapApply_ret]
  rfl

theorem restartBlocks_scanLaws (s : State) : ScanLaws (restartBlocks s) := by
  refine settled_scanLaws (c := s.scan.flushed) ?_ rfl (by simp)
  rw [restartBlocks_scan, restartBlocks_cmap, restartBlocks_ret]
  rfl

theorem abortCapture_intake (f : Feat) : (abortCapture f).1.intake = f.intake := by rw [abortCapture_feat]

theorem abortCaptureOf_intake (g : Seat → Bool) (f : Feat) : (abortCaptureOf g f).1.intake = f.intake := by
  unfold abortCaptureOf
  split
  · split
    · exact abortCapture_intake f
    · rfl
  · rfl

theorem captureAborted_intake (s : State) (f : MatFrame) : (captureAborted s f).1.intake = s.feat.intake := by
  have hfeat : (afterAdv s f).feat = s.feat := by rw [(afterAdv_advMoves s f).feat]; simp [afterVerd]
  unfold captureAborted
  split
  · rw [abortCaptureOf_intake, hfeat]
  · rw [hfeat]

theorem ignitionOff_scanLaws (h : ScanLaws s) (hon : s.ret.ignition = .on) : ScanLaws (ignitionOff s) := by
  have hframe := retOff_frame s
  have hoff : (retOff s).ret.ignition = .off := by simp only [retOff]; split <;> rfl
  have hturned : ScanLaws (scanTurnedOff s) := by
    refine scanIgnitionOff_scanLaws hoff ?_ ?_
    · rw [hframe]; exact h.2
    · rw [hframe, ← hon]; exact (scanLaw_iff s).1 h.1
  refine hturned.congr (ignitionOff_scan s) ?_ ?_ ?_
  · rw [ignitionOff_feat, abortCapture_intake]
  · rw [ignitionOff_cmap, scanTurnedOff_cmap]
  · rw [ignitionOff_ret, scanTurnedOff_ret]

theorem ignitionOn_scanLaws (h : ScanLaws s) (hoff : s.ret.ignition = .off) : ScanLaws (ignitionOn s) := by
  have hmoves := remTurnedOn_remMoves s
  rw [ignitionOn_eq]
  refine scanIgnitionOn_scanLaws ?_ ?_ ?_
  · rw [postEvent_ret hmoves, resumesTold_ret]; rfl
  · simp only [QueueLaw, postEvent_scan hmoves, postEvent_feat hmoves, resumesTold_scan, resumesTold_feat]
    exact h.2
  · rw [postEvent_scan hmoves, postEvent_cmap hmoves, resumesTold_scan, resumesTold_cmap, ← hoff]
    exact (scanLaw_iff s).1 h.1

theorem removeRow_scanLaws (r : Row) (h : ScanLaws s) : ScanLaws (removeRow r s) := by
  have hseated : ScanLaws (rowSeated r .removed .absent s) := h.congr rfl rfl rfl rfl
  have hscan : ScanLaws (rowUnscanned r s) := scanRowRemoved_scanLaws r hseated
  have hm := rowUnscanned_scanMoves r s
  refine hscan.congr (removeRow_scan r s) ?_ ?_ ?_
  · rw [removeRow_feat, rowUncaptured, abortCaptureOf_intake]
  · rw [removeRow_cmap, hm.cmap]; rfl
  · rw [removeRow_ret, hm.ret]; rfl

theorem armProbe_scanLaws (i : Seat) (h : ScanLaws s) : ScanLaws (armProbe i s) := by
  have hok := (scanLaw_iff s).1 h.1
  have hintake {x : Intake} (hx : x = s.feat.intake ∨ x = s.feat.intake.probeArmed) : IntakeFits x s.scan.queue := by
    obtain ⟨-, hidle, hblocked⟩ := h.2
    rcases hx with rfl | rfl
    · exact ⟨hidle, hblocked⟩
    · cases hi : s.feat.intake <;> rw [hi] at hidle hblocked
      · exact ⟨fun _ => hidle rfl, nofun⟩
      · exact ⟨nofun, nofun⟩
      · exact ⟨nofun, fun _ => hblocked rfl⟩
      · exact ⟨nofun, nofun⟩
  have harmed : ScanLaws { s with
      scan := { s.scan with probe := .armed i s.scan.serviceOf }
      feat := { s.feat with
        intake := if s.scan.serviceOf = .timed then s.feat.intake.probeArmed else s.feat.intake } } := by
    refine ⟨(scanLaw_iff _).2 (hok.congr rfl rfl rfl rfl fun _ => ⟨rfl, rfl⟩), (queueLaw_iff _).2 ⟨h.2.1, hintake ?_⟩⟩
    split
    · exact .inr rfl
    · exact .inl rfl
  unfold armProbe
  dsimp only
  split
  · rename_i hst
    have hvalid : s.cmap.valid = true := by
      cases hv : s.cmap.valid
      · have := hok.halted.2 hv; rw [hst] at this; cases this
      · rfl
    rw [beginProbePass_eq]
    refine harmed.scan ?_ rfl
    simp only [hvalid]
    exact probePassOf_ok _ i _
  · exact harmed

theorem captureOpened_scanLaws (h : ScanLaws s) (i : Seat) : ScanLaws { s with
    feat := { s.feat with capture := some (newCapture i), intake := s.feat.intake.captureOpened } } := by
  refine ⟨h.1, (queueLaw_iff _).2 ⟨h.2.1, ?_⟩⟩
  obtain ⟨-, hidle, hblocked⟩ := h.2
  cases hi : s.feat.intake <;> rw [hi] at hidle hblocked
  · exact ⟨fun _ => hidle rfl, nofun⟩
  · exact ⟨nofun, nofun⟩
  · exact ⟨nofun, fun _ => hblocked rfl⟩
  · exact ⟨nofun, nofun⟩

/-- REM, or LNK by a notice, has moved. -/
theorem RemMoves.scanLaws {r : State × List Notice} (h : RemMoves s r.1) (hs : ScanLaws s) : ScanLaws (postEvent r) :=
  hs.congr (postEvent_scan h) (by rw [postEvent_feat h]) (by rw [postEvent_cmap h]) (by rw [postEvent_ret h])

theorem speedChanges_scanLaws (x : Option Nat) (b : Bool) (h : ScanLaws s) : ScanLaws (speedChanges x b s) :=
  (speedChanges_remMoves x b s).scanLaws (h.congr rfl rfl rfl rfl)

/-! ## Commands -/

theorem Leaves.scanLaws {sw : Bool} (h : ScanLaws s) (hl : Leaves s sw t) : ScanLaws t := by
  cases hl with
  | same => exact h
  | mapWritten recs ps => exact (mapApply_scanLaws recs true _).congr rfl rfl rfl rfl
  | timingSet x =>
    exact (h.scan (c := { s.scan with timing := x.clamped })
      (((scanLaw_iff s).1 h.1).congr rfl rfl rfl rfl fun _ => ⟨rfl, rfl⟩) rfl).congr rfl rfl rfl rfl
  | flagsRead => exact h.scan (((scanLaw_iff s).1 h.1).congr rfl rfl rfl rfl fun _ => ⟨rfl, rfl⟩) rfl
  | probeArmed i => exact armProbe_scanLaws i h
  | probeFreed => exact h.scan (((scanLaw_iff s).1 h.1).congr rfl rfl rfl rfl fun _ => ⟨rfl, rfl⟩) rfl
  | captureOpened i => exact captureOpened_scanLaws h i
  | speedReported b => exact speedChanges_scanLaws _ _ h
  | remindersSet x =>
    exact ((applySettings_remMoves x.clamped s).scanLaws h).congr rfl rfl rfl rfl
  | cleared =>
    have hmap : ScanLaws (clearMap (clearSettings s)) := by
      rw [clearMap]; exact mapApply_scanLaws _ _ (clearSettings s)
    exact hmap.congr (clearCommit_scan _) (by rw [clearCommit_feat]) (by rw [clearCommit_cmap]) (by rw [clearCommit_ret])
  | _ => exact h.congr rfl rfl rfl rfl

theorem handed_scanLaws {v : State} (h : ScanLaws s) (hv : Handed s v) : ScanLaws v := by
  cases hv <;> exact h.congr rfl rfl rfl rfl

theorem Does.scanLaws {c : Instr} (h : ScanLaws s) (hd : Does s c t) : ScanLaws t := by
  cases hd with
  | nothing => exact h
  | reset => exact ⟨by simp [ScanLaw, fullReset, State.reset, Scan.reset, CMap.reset],
      by simp [QueueLaw, fullReset, State.reset, Scan.reset, Feat.reset]⟩
  | loaded straps hload =>
    rw [loadCompletes_eq straps s hload]
    exact ScanLaws.congr (mapApply_scanLaws (strapRecords straps s.store.stored.map) _ (copiesLoaded straps s)) rfl rfl rfl rfl
  | ignLine level => unfold Machine.ignLine; dsimp only; split <;> exact h.congr rfl rfl rfl rfl
  | doorLine d level => unfold Machine.doorLine; dsimp only; split <;> exact h.congr rfl rfl rfl rfl
  | turnedOff hon => exact ignitionOff_scanLaws h hon
  | turnedOn hdebounce hoff => exact ignitionOn_scanLaws h hoff
  | doorDiscards d => refine h.congr ?_ ?_ ?_ ?_ <;> simp [postEvent, doorChanges]
  | rowIn r => refine h.congr ?_ ?_ ?_ ?_ <;> simp [CMap.rowBecomes]
  | rowOut r => exact removeRow_scanLaws r h
  | intervalExpired => exact intervalExpires_scanLaws h
  | settled => exact settleEnds_scanLaws h
  | converted raw anch => exact conversionCompletes_scanLaws raw anch h
  | markerWaited => exact pushWaiting_scanLaws h
  | entryDone => exact entryCompletes_scanLaws h
  | markerTaken => exact takeBlocked_scanLaws h
  | frameDone => exact frameFinishes_scanLaws h
  | handled =>
    rcases hf : s.verd.slot with _ | f
    · rw [frameHandled_empty hf]; exact h
    · exact h.congr (frameHandled_scan hf) (by rw [frameHandled_feat hf, captureAborted_intake])
        (by rw [frameHandled_cmap hf]) (by rw [frameHandled_ret hf])
  | remStepped => exact (timerStep_remMoves s).scanLaws h
  | startExpired => exact (startIntervalExpires_remMoves s).scanLaws h
  | visualExpired i => exact (visualExpires_remMoves i s).scanLaws h
  | budgetExpired i => exact (budgetExpires_remMoves i s).scanLaws h
  | speedLost => exact speedChanges_scanLaws _ _ h
  | retentionExpired => rw [retentionExpires_eq]; refine h.congr ?_ ?_ ?_ ?_ <;> simp
  | committed passes => exact (commitCompletes_moves passes s).scanLaws h
  | clearCommitted passes => exact (clearCompletes_moves passes s).scanLaws h
  | linkFailed st code => unfold linkError; dsimp only; split <;> exact h.congr rfl rfl rfl rfl
  | timedOut => unfold interByteExpires; split <;> exact h.congr rfl rfl rfl rfl
  | restarted => exact (restartBlocks_scanLaws s).congr rfl rfl rfl rfl
  | answered code hready hv ha => exact (ha.leaves.scanLaws (handed_scanLaws h hv)).congr rfl rfl rfl rfl
  | _ => exact h.congr rfl rfl rfl rfl

theorem retentionTick_scanLaws (h : ScanLaws s) : ScanLaws (retentionTick s) := by
  rcases retentionTick_cases s with ⟨-, he⟩ | ⟨n, -, -, -, he⟩ | ⟨-, -, -, -, he⟩ <;> rw [he]
  · exact h
  · exact h.congr rfl rfl rfl rfl
  · rw [retentionExpires_eq]; refine h.congr ?_ ?_ ?_ ?_ <;> simp

end Sys2Proof.Machine

/-! SUPPORT. FEAT's laws of the working calibration and of the zero capture: every command keeps both (R56 to R61), and with
SCAN's and RET's laws that settles O57. -/

namespace Sys2Proof.Machine

open Sys2Proof.Safety

variable {s t : State}

/-! ## The laws, cell by cell and for one capture -/

/-- One calibration cell is lawful (R56). -/
structure CellOk (c : CellCal) : Prop where
  z : 64 ≤ c.z.toNat
  g : 64 ≤ c.g.toNat
  unmarked : c.mark = false → c.z = 300 ∧ c.g = 256

theorem calibrationLaw_iff (s : State) : CalibrationLaw s ↔ ∀ (i : Seat) (n : Cell), CellOk ((s.feat.cal.get i).get n) :=
  ⟨fun h i n => ⟨(h i n).1, (h i n).2.1, (h i n).2.2⟩, fun h i n => ⟨(h i n).z, (h i n).g, (h i n).unmarked⟩⟩

theorem uncalibrated_ok (i : Seat) (n : Cell) : CellOk ((uncalibrated.get i).get n) := by
  simp only [uncalibrated, Tab.get_const]
  exact ⟨by decide, by decide, fun _ => ⟨rfl, rfl⟩⟩

/-- The offsets lie in the range of Z at every fitted cell (R60). -/
def OffsetsFit (m : SeatMap) (offsets : Tab 16 Nat) : Prop :=
  ∀ n : Cell, m.cellFitted n = true → 64 ≤ offsets.get n ∧ offsets.get n ≤ 1023

/-- An open capture is lawful in a state (R59 to R61, R166, R167). -/
structure CaptureOk (s : State) (c : Capture) : Prop where
  live : c.state ≠ .committing → (s.verd.seats.get c.seat).lifecycle = .active ∧ s.ret.ignition = .on
  count : c.state = .collecting → c.count ≤ 3
  offsets : c.offsets.isSome = true ↔ c.state = .waitingStore
  range : ∀ offsets, c.offsets = some offsets → OffsetsFit (s.cmap.seats.get c.seat) offsets
  waiting : c.state = .waitingStore → s.store.committing = true
  committing : c.state = .committing → ∃ cal, s.store.commit = .one (.calibration cal)

theorem captureLaw_iff (s : State) : CaptureLaw s ↔ ∀ c, s.feat.capture = some c → CaptureOk s c :=
  ⟨fun h c hc => ⟨(h c hc).1, (h c hc).2.1, (h c hc).2.2.1, (h c hc).2.2.2.1, (h c hc).2.2.2.2.1, (h c hc).2.2.2.2.2⟩,
    fun h c hc => ⟨(h c hc).live, (h c hc).count, (h c hc).offsets, (h c hc).range, (h c hc).waiting, (h c hc).committing⟩⟩

/-- While the store is idle an open capture is COLLECTING. -/
theorem CaptureOk.collecting {c : Capture} (h : CaptureOk s c) (hidle : s.store.commit = .idle) : c.state = .collecting := by
  cases hc : c.state
  · rfl
  · exact absurd hidle ((committing_iff _).1 (h.waiting hc))
  · obtain ⟨cal, hcal⟩ := h.committing hc
    rw [hidle] at hcal
    cases hcal

/-- The laws of calibration and capture. -/
abbrev FeatLaws (s : State) : Prop := CalibrationLaw s ∧ CaptureLaw s

/-- A capture that is still open was open before, and is live if it was; an idle store may have started a commit. -/
theorem FeatLaws.kept (h : FeatLaws s) (hcal : t.feat.cal = s.feat.cal)
    (hcapture : ∀ c, t.feat.capture = some c → s.feat.capture = some c ∧
      (c.state ≠ .committing → (s.verd.seats.get c.seat).lifecycle = .active → s.ret.ignition = .on →
        (t.verd.seats.get c.seat).lifecycle = .active ∧ t.ret.ignition = .on))
    (hseats : t.cmap.seats = s.cmap.seats) (hcommit : t.store.commit = s.store.commit ∨ s.store.commit = .idle) :
    FeatLaws t := by
  obtain ⟨hc, hk⟩ := h
  refine ⟨by unfold CalibrationLaw; rw [hcal]; exact hc, (captureLaw_iff t).2 fun c ht => ?_⟩
  obtain ⟨hs, hlive⟩ := hcapture c ht
  have ok := (captureLaw_iff s).1 hk c hs
  have hstore {p : Prop} (hbusy : c.state ≠ .collecting) (hp : t.store.commit = s.store.commit → p) : p :=
    hcommit.elim hp fun hi => absurd (ok.collecting hi) hbusy
  refine ⟨fun hn => hlive hn (ok.live hn).1 (ok.live hn).2, ok.count, ok.offsets, by rw [hseats]; exact ok.range,
    fun hw => ?_, fun hw => ?_⟩
  · refine hstore (by rw [hw]; decide) fun he => ?_
    rw [committing_iff, he, ← committing_iff]
    exact ok.waiting hw
  · refine hstore (by rw [hw]; decide) fun he => ?_
    rw [he]
    exact ok.committing hw

/-- Nothing that the laws read has moved, but that seats may have become ACTIVE and an idle store may have started a
commit. -/
theorem FeatLaws.congr (h : FeatLaws s) (hcal : t.feat.cal = s.feat.cal) (hcapture : t.feat.capture = s.feat.capture)
    (hactive : ∀ i : Seat, (s.verd.seats.get i).lifecycle = .active → (t.verd.seats.get i).lifecycle = .active)
    (hign : t.ret.ignition = s.ret.ignition) (hseats : t.cmap.seats = s.cmap.seats)
    (hcommit : t.store.commit = s.store.commit ∨ s.store.commit = .idle) : FeatLaws t :=
  h.kept hcal (fun _ hc => ⟨hcapture ▸ hc, fun _ hl hi => ⟨hactive _ hl, hign ▸ hi⟩⟩) hseats hcommit

/-- Nothing of the Seat Table, the map, RET, STORE or FEAT's calibration and capture has moved. -/
theorem FeatLaws.same (h : FeatLaws s) (hcal : t.feat.cal = s.feat.cal) (hcapture : t.feat.capture = s.feat.capture)
    (hverd : t.verd.seats = s.verd.seats) (hign : t.ret.ignition = s.ret.ignition) (hseats : t.cmap.seats = s.cmap.seats)
    (hcommit : t.store.commit = s.store.commit) : FeatLaws t :=
  h.congr hcal hcapture (fun _ hi => by rw [hverd]; exact hi) hign hseats (.inl hcommit)

/-- No capture is open. -/
theorem featLaws_closed (hcal : CalibrationLaw t) (hcapture : t.feat.capture = none) : FeatLaws t :=
  ⟨hcal, fun c hc => by rw [hcapture] at hc; cases hc⟩

theorem ScanMoves.featLaws (h : ScanMoves s t) (hs : FeatLaws s) : FeatLaws t :=
  hs.same h.cal h.capture (by rw [h.verd]) (by rw [h.ret]) (by rw [h.cmap]) (by rw [h.store])

/-! ## Calibration written -/

theorem writeCells_ok {es : List CalEntry} (hes : ∀ e ∈ es, 64 ≤ e.z.toNat ∧ 64 ≤ e.g.toNat) {cells : Tab 16 CellCal}
    (h : ∀ n, CellOk (cells.get n)) (n : Cell) : CellOk ((writeCells es cells).get n) := by
  induction es generalizing cells with
  | nil => exact h n
  | cons e es ih =>
    refine ih (fun x hx => hes x (List.mem_cons_of_mem _ hx)) fun k => ?_
    rw [Tab.get_set]
    split
    · obtain ⟨hz, hg⟩ := hes e (List.mem_cons_self ..)
      exact ⟨hz, hg, nofun⟩
    · exact h k

theorem entriesOk_range {c : CMap} {i : Seat} {es : List CalEntry} (h : entriesOk c i es = true) :
    ∀ e ∈ es, 64 ≤ e.z.toNat ∧ 64 ≤ e.g.toNat := by
  intro e he
  have hall := List.all_eq_true.1 (Bool.and_eq_true_iff.1 h).2 e he
  simp only [Bool.and_eq_true, decide_eq_true_eq] at hall
  exact ⟨hall.1.2, hall.2⟩

theorem loadedCal_ok (c : Calibration) (i : Seat) (n : Cell) : CellOk (((loadedCal c).get i).get n) := by
  simp only [loadedCal, Tab.get_ofFn, CellCal.loaded]
  split
  · rename_i h
    simp only [CellCal.inRange, Bool.and_eq_true, decide_eq_true_eq] at h
    obtain ⟨hmark, hz, hg⟩ := h
    exact ⟨hz, hg, fun hn => by rw [hmark] at hn; cases hn⟩
  · exact ⟨by decide, by decide, fun _ => ⟨rfl, rfl⟩⟩

theorem applyOffsets_ok {m : SeatMap} {offsets : Tab 16 Nat} (hfit : OffsetsFit m offsets) {cells : Tab 16 CellCal}
    (h : ∀ n, CellOk (cells.get n)) (n : Cell) : CellOk ((applyOffsets m offsets cells).get n) := by
  simp only [applyOffsets, Tab.get_ofFn]
  split
  · rename_i hn
    obtain ⟨hmin, hmax⟩ := hfit n hn
    refine ⟨?_, (h n).g, nofun⟩
    rw [BitVec.toNat_ofNat, Nat.mod_eq_of_lt (by omega)]
    exact hmin
  · exact h n

theorem calibrationLaw_set {cal : Calibration} {i : Seat} {cells : Tab 16 CellCal} (h : CalibrationLaw s)
    (hcells : ∀ n, CellOk (cells.get n)) (hcal : cal = s.feat.cal.set i cells) (ht : t.feat.cal = cal) : CalibrationLaw t := by
  rw [calibrationLaw_iff] at h ⊢
  intro j n
  rw [ht, hcal, Tab.get_set]
  split
  · exact hcells n
  · exact h j n

/-! ## The zero capture -/

/-- The offsets of a capture applied, its commit started (R60). -/
theorem captureCommits_featLaws (h : CalibrationLaw s) (c : Capture) {offsets : Tab 16 Nat}
    (hfit : OffsetsFit (s.cmap.seats.get c.seat) offsets) : FeatLaws (captureCommits c offsets s) := by
  refine ⟨calibrationLaw_set h (applyOffsets_ok hfit ((calibrationLaw_iff s).1 h c.seat)) rfl rfl,
    (captureLaw_iff _).2 fun d hd => ?_⟩
  cases hd
  exact ⟨fun hn => absurd rfl hn, nofun, by simp, nofun, nofun, fun _ => ⟨_, rfl⟩⟩

theorem offsetsInRange_fit {m : SeatMap} {offsets : Tab 16 Nat} (h : offsetsInRange m offsets = true) :
    OffsetsFit m offsets := by
  intro n hn
  have hall := List.all_eq_true.1 h n (List.mem_filter.2 ⟨List.mem_finRange n, hn⟩)
  simpa [inRange] using hall

/-- The fourth frame of a capture whose seat is live (R60). -/
theorem captureEnds_featLaws (h : CalibrationLaw s) (c : Capture)
    (hlive : (s.verd.seats.get c.seat).lifecycle = .active ∧ s.ret.ignition = .on) : FeatLaws (captureEnds c s) := by
  unfold captureEnds
  dsimp only
  split
  · exact featLaws_closed h rfl
  rename_i hrange
  have hfit := offsetsInRange_fit (by simpa using hrange)
  split
  · rename_i hbusy
    refine ⟨h, (captureLaw_iff _).2 fun d hd => ?_⟩
    cases hd
    refine ⟨fun _ => hlive, nofun, by simp, fun o ho => ?_, fun _ => hbusy, nofun⟩
    cases ho
    exact hfit
  · exact captureCommits_featLaws h c hfit

theorem captureOffer_featLaws (before : Bool) (mk : Marker) (a : Accumulator) (h : FeatLaws s) :
    FeatLaws (captureOffer before mk a s) := by
  unfold captureOffer
  split
  case h_2 => exact h
  rename_i c hc
  split
  case isFalse => exact h
  rename_i hcounts
  simp only [Bool.and_eq_true, decide_eq_true_eq] at hcounts
  have ok := (captureLaw_iff s).1 h.2 c hc
  have hlive := ok.live (by rw [hcounts.1.1.1]; decide)
  dsimp only
  split
  · rename_i hn
    refine ⟨h.1, (captureLaw_iff _).2 fun d hd => ?_⟩
    cases hd
    exact ⟨fun _ => hlive, fun _ => Nat.lt_succ_iff.1 hn, ok.offsets, ok.range, ok.waiting, ok.committing⟩
  · exact captureEnds_featLaws h.1 _ hlive

/-- A waiting capture is released; any other stays open, COLLECTING (R167). -/
theorem releaseCapture_featLaws (hcal : CalibrationLaw s)
    (h : ∀ c, s.feat.capture = some c → (c.state = .waitingStore ∧ ∃ o, c.offsets = some o ∧
      OffsetsFit (s.cmap.seats.get c.seat) o) ∨ CaptureOk s c) (hidle : s.store.commit = .idle) :
    FeatLaws (releaseCapture s) := by
  unfold releaseCapture
  split
  case h_2 hn => exact featLaws_closed hcal hn
  rename_i c hc
  split
  · rename_i hw
    rcases h c hc with ⟨-, o, ho, hfit⟩ | ok
    · refine captureCommits_featLaws hcal c ?_
      rw [ho]
      exact hfit
    · have := ok.collecting hidle
      rw [hw] at this
      cases this
  · rename_i hw
    refine ⟨hcal, (captureLaw_iff s).2 fun d hd => ?_⟩
    rw [hc] at hd
    cases hd
    rcases h c hc with ⟨hw', -⟩ | ok
    · exact absurd hw' hw
    · exact ok

/-- What a waiting capture of a lawful state holds. -/
theorem CaptureOk.held {c : Capture} (ok : CaptureOk s c) (hw : c.state = .waitingStore) :
    ∃ o, c.offsets = some o ∧ OffsetsFit (s.cmap.seats.get c.seat) o := by
  obtain ⟨o, ho⟩ := Option.isSome_iff_exists.1 (ok.offsets.2 hw)
  exact ⟨o, ho, ok.range o ho⟩

/-- The store has become idle: a capture that is not COMMITTING is COLLECTING, or waits to be released. -/
theorem CaptureOk.freed {c : Capture} (ok : CaptureOk s c) (hnot : c.state ≠ .committing)
    (hverd : t.verd = s.verd) (hret : t.ret = s.ret) (hcmap : t.cmap = s.cmap) :
    (c.state = .waitingStore ∧ ∃ o, c.offsets = some o ∧ OffsetsFit (t.cmap.seats.get c.seat) o) ∨ CaptureOk t c := by
  rw [hcmap]
  by_cases hw : c.state = .waitingStore
  · exact .inl ⟨hw, ok.held hw⟩
  · refine .inr ⟨fun hn => by rw [hverd, hret]; exact ok.live hn, ok.count, ok.offsets, ?_, fun h => absurd h hw,
      fun h => absurd h hnot⟩
    rw [hcmap]
    exact ok.range

theorem commitCompletes_featLaws (passes : Bool) (h : FeatLaws s) : FeatLaws (commitCompletes passes s) := by
  unfold commitCompletes
  split
  case h_2 => exact h
  rename_i image himage
  dsimp only
  have ok := (captureLaw_iff s).1 h.2
  split
  · unfold finishCapture
    split
    · rename_i c hc
      split
      · split
        · exact releaseCapture_featLaws h.1 nofun rfl
        · exact releaseCapture_featLaws h.1 nofun rfl
      · rename_i hnot
        refine releaseCapture_featLaws h.1 (fun d hd => ?_) rfl
        obtain rfl : c = d := Option.some.inj (hc.symm.trans hd)
        exact (ok c hc).freed hnot rfl rfl rfl
    · rename_i hn
      exact releaseCapture_featLaws h.1 (fun d hd => by rw [hn] at hd; cases hd) rfl
  · rename_i hother
    refine releaseCapture_featLaws h.1 (fun d hd => (ok d hd).freed (fun hcommitting => ?_) rfl rfl rfl) rfl
    obtain ⟨cal, hcal⟩ := (ok d hd).committing hcommitting
    rw [himage] at hcal
    cases hcal
    exact hother rfl

theorem clearCompletes_featLaws (passes : BitVec 6) (h : FeatLaws s) : FeatLaws (clearCompletes passes s) := by
  unfold clearCompletes
  dsimp only
  split
  case h_2 => exact h
  rename_i image himage
  have ok := (captureLaw_iff s).1 h.2
  refine releaseCapture_featLaws (by unfold CalibrationLaw; rw [postAll_feat]; exact h.1) (fun d hd => ?_) (by simp)
  rw [postAll_feat] at hd
  refine (ok d hd).freed (fun hcommitting => ?_) (by simp) (by simp) (by simp)
  obtain ⟨cal, hcal⟩ := (ok d hd).committing hcommitting
  rw [himage] at hcal
  cases hcal

/-! ## FEAT's operations -/

theorem featLook_featLaws (h : FeatLaws s) : FeatLaws (featLook s) := by
  by_cases hi : s.feat.intake = .idle
  · rw [featLook_idle s hi]; exact h.same rfl rfl rfl rfl rfl rfl
  · rw [featLook_busy s hi]; exact h

theorem entryCompletes_featLaws (h : FeatLaws s) : FeatLaws (entryCompletes s) := by
  unfold entryCompletes
  split
  · exact featLook_featLaws (h.same rfl rfl rfl rfl rfl rfl)
  · exact h

theorem takeBlocked_featLaws (h : FeatLaws s) : FeatLaws (takeBlocked s) := by
  unfold takeBlocked
  split
  · split
    · exact featLook_featLaws (h.same rfl rfl rfl rfl rfl rfl)
    · exact h
  · exact h

theorem frameFinishes_featLaws (h : FeatLaws s) : FeatLaws (frameFinishes s) := by
  unfold frameFinishes
  split
  case h_2 => exact h
  dsimp only
  split
  · exact featLook_featLaws (h.same rfl rfl rfl rfl rfl rfl)
  · rename_i mk bp bc _ _ a _
    have hoffered := captureOffer_featLaws bc mk a (s := { s with
      feat := { s.feat with intake := .idle, acc := none }
      scan := { s.scan with probe := s.scan.probe.offer bp (probeBufferOf (s.cmap.seats.get mk.seat)
        (featuresOf (s.cmap.seats.get mk.seat) (s.cmap.profileOf mk.seat) a) a mk) } }) (h.same rfl rfl rfl rfl rfl rfl)
    split
    · exact featLook_featLaws hoffered
    · exact featLook_featLaws (hoffered.same rfl rfl rfl rfl rfl rfl)

/-! ## Events -/

/-- What an abort leaves open is COMMITTING (R61). -/
theorem abortCapture_some {f : Feat} {c : Capture} (h : (abortCapture f).1.capture = some c) :
    f.capture = some c ∧ c.state = .committing := by
  rw [abortCapture_feat] at h
  simp only at h
  split at h
  · rename_i hs
    refine ⟨h, ?_⟩
    rw [h] at hs
    simpa using hs
  · cases h

theorem abortCaptureOf_some {g : Seat → Bool} {f : Feat} {c : Capture} (h : (abortCaptureOf g f).1.capture = some c) :
    f.capture = some c ∧ (g c.seat = true → c.state = .committing) := by
  unfold abortCaptureOf at h
  split at h
  · rename_i d hd
    split at h
    · obtain ⟨hf, hs⟩ := abortCapture_some h
      exact ⟨hf, fun _ => hs⟩
    · rename_i hg
      refine ⟨h, fun hc => absurd ?_ hg⟩
      obtain rfl : d = c := Option.some.inj (hd.symm.trans h)
      exact hc
  · rename_i hn
    rw [hn] at h
    cases h

theorem abortCaptureOf_cal (g : Seat → Bool) (f : Feat) : (abortCaptureOf g f).1.cal = f.cal := by
  unfold abortCaptureOf
  split
  · split
    · rw [abortCapture_feat]
    · rfl
  · rfl

theorem ignitionOff_featLaws (h : FeatLaws s) : FeatLaws (ignitionOff s) := by
  have hm := scanTurnedOff_scanMoves s
  have hframe := retOff_frame s
  have hcal : (scanTurnedOff s).feat.cal = s.feat.cal := by rw [hm.cal, hframe]
  have hcapture : (scanTurnedOff s).feat.capture = s.feat.capture := by rw [hm.capture, hframe]
  refine h.kept ?_ (fun c hc => ?_) (by simp) (.inl (by simp [ignitionOff_eq, (remTurnedOff_remMoves s).store]))
  · rw [ignitionOff_feat, abortCapture_feat]; exact hcal
  · rw [ignitionOff_feat] at hc
    obtain ⟨hs, hcommitting⟩ := abortCapture_some hc
    exact ⟨hcapture ▸ hs, fun hn => absurd hcommitting hn⟩

theorem removeRow_featLaws (r : Row) (h : FeatLaws s) : FeatLaws (removeRow r s) := by
  have hm := rowUnscanned_scanMoves r s
  have hcal : (rowUnscanned r s).feat.cal = s.feat.cal := hm.cal
  have hcapture : (rowUnscanned r s).feat.capture = s.feat.capture := hm.capture
  refine h.kept ?_ (fun c hc => ?_) (by simp [CMap.rowBecomes]) (.inl (by simp))
  · rw [removeRow_feat, rowUncaptured, abortCaptureOf_cal, hcal]
  · rw [removeRow_feat, rowUncaptured] at hc
    obtain ⟨hs, hcommitting⟩ := abortCaptureOf_some hc
    refine ⟨hcapture ▸ hs, fun hn hl hi => ⟨?_, by rw [removeRow_ret]; exact hi⟩⟩
    rw [removeRow_verd, freshRow_get, if_neg fun hg => hn (hcommitting hg)]
    exact hl

theorem ignitionOn_featLaws (h : FeatLaws s) : FeatLaws (ignitionOn s) := by
  refine h.kept (by simp) (fun c hc => ⟨by simpa using hc, fun _ hl _ => ⟨?_, by simp [seatsResumed]⟩⟩) (by simp)
    (.inl (by simp))
  rw [ignitionOn_verd, resumedSeats_get]
  split
  · exact hl
  · exact hl

theorem installRow_featLaws (r : Row) (h : FeatLaws s) : FeatLaws (installRow r s) := by
  refine h.congr (by simp) (by simp) (fun i hi => ?_) (by simp) (by simp [CMap.rowBecomes]) (.inl (by simp))
  rw [installRow_verd, freshRow_get]
  split
  · rfl
  · exact hi

theorem frameHandled_featLaws (hs : SeatLaws s) (h : FeatLaws s) {f : MatFrame} (hf : s.verd.slot = some f) :
    FeatLaws (frameHandled s) := by
  have hfeat : (afterAdv s f).feat = s.feat := by rw [(afterAdv_advMoves s f).feat]; simp [afterVerd]
  have hget (i : Seat) : (frameHandled s).verd.seats.get i =
      if i = f.seat then (handledBy s f).1 else s.verd.seats.get i := by rw [frameHandled_verd hf]; exact Tab.get_set ..
  have hmounted (hl : (s.verd.seats.get f.seat).lifecycle = .active) :
      (handledBy s f).1.lifecycle = .active ∨ (handledBy s f).1.lifecycle = .faulted :=
    (handleFrame_kept _ _ f ⟨.inl hl, hs.2.2.1 f.seat⟩ (inRange_of_law (hs.2.2.2 f.seat))).1.mounted
  refine h.kept ?_ (fun c hc => ?_) (by rw [frameHandled_cmap hf]) (.inl (by rw [frameHandled_store hf]))
  · rw [frameHandled_feat hf, captureAborted]
    split
    · rw [abortCaptureOf_cal, hfeat]
    · rw [hfeat]
  · have hkept : s.feat.capture = some c ∧ (c.seat = f.seat → (s.verd.seats.get f.seat).lifecycle = .active →
        (handledBy s f).1.lifecycle = .faulted → c.state = .committing) := by
      rw [frameHandled_feat hf, captureAborted] at hc
      split at hc
      · obtain ⟨hopen, hcommitting⟩ := abortCaptureOf_some hc
        exact ⟨hfeat ▸ hopen, fun he _ _ => hcommitting (by simpa using he)⟩
      · rename_i hnot
        rw [Bool.and_eq_true, decide_eq_true_eq, decide_eq_true_eq] at hnot
        exact ⟨hfeat ▸ hc, fun _ hl hfa => absurd ⟨hl, hfa⟩ hnot⟩
    refine ⟨hkept.1, fun hn hl hi => ⟨?_, by rw [frameHandled_ret hf]; exact hi⟩⟩
    rw [hget]
    split
    · rename_i he
      rw [he] at hl
      exact (hmounted hl).resolve_right fun hfa => hn (hkept.2 he hl hfa)
    · exact hl

theorem RemMoves.featLaws {r : State × List Notice} (h : RemMoves s r.1) (hs : FeatLaws s) : FeatLaws (postEvent r) :=
  hs.same (by rw [postEvent_feat h]) (by rw [postEvent_feat h]) (by rw [postEvent_verd h]) (by rw [postEvent_ret h])
    (by rw [postEvent_cmap h]) (by rw [postEvent_store h])

theorem speedChanges_featLaws (x : Option Nat) (b : Bool) (h : FeatLaws s) : FeatLaws (speedChanges x b s) := by
  have hspeed : FeatLaws (speedTaken x b s) :=
    h.congr rfl rfl (fun i hi => by simpa [speedTaken] using hi) rfl rfl (.inl rfl)
  exact (speedChanges_remMoves x b s).featLaws hspeed

theorem mapApply_featLaws (recs : MapRecs) (valid : Bool) (h : CalibrationLaw s) : FeatLaws (mapApply recs valid s) :=
  featLaws_closed (by unfold CalibrationLaw; rw [mapApply_feat]; exact h) (by rw [mapApply_feat])

/-! ## Commands -/

theorem Leaves.featLaws {sw : Bool} (h : FeatLaws s) (hl : Leaves s sw t) : FeatLaws t := by
  cases hl with
  | same => exact h
  | mapWritten recs ps hidle =>
    refine (mapApply_featLaws recs true (s := { closeTransfer { s with free := s.free + 4 } with
      cmap := { s.cmap with profiles := ps } }) h.1).congr rfl rfl (fun _ => id) rfl rfl (.inr ?_)
    rw [mapApply_store]
    exact hidle
  | profileWritten ps hidle => exact h.congr rfl rfl (fun _ => id) rfl rfl (.inr hidle)
  | timingSet x hidle => exact h.congr rfl rfl (fun _ => id) rfl rfl (.inr hidle)
  | retainSet n hidle => exact h.congr rfl rfl (fun _ => id) rfl rfl (.inr hidle)
  | switchesBarred w hidle => exact h.congr rfl rfl (fun _ => id) rfl rfl (.inr hidle)
  | probeArmed i => rw [armProbe_eq]; exact h.same rfl rfl rfl rfl rfl rfl
  | calWritten i es hidle hok =>
    have ok := (captureLaw_iff s).1 h.2
    refine FeatLaws.congr (s := { s with feat := { s.feat with cal := s.feat.cal.set i (writeCells es (s.feat.cal.get i)) } })
      ⟨?_, (captureLaw_iff _).2 fun c hc => ?_⟩ rfl rfl (fun _ => id) rfl rfl (.inr hidle)
    · exact calibrationLaw_set h.1 (writeCells_ok (entriesOk_range hok) ((calibrationLaw_iff s).1 h.1 i)) rfl rfl
    · obtain ⟨hlive, hcount, hoffsets, hrange, hwaiting, hcommitting⟩ := ok c hc
      exact ⟨hlive, hcount, hoffsets, hrange, hwaiting, hcommitting⟩
  | captureOpened i hidle hseat hign =>
    refine ⟨h.1, (captureLaw_iff _).2 fun c hc => ?_⟩
    cases hc
    exact ⟨fun _ => ⟨hseat, hign⟩, fun _ => Nat.zero_le _, by simp [newCapture], nofun, nofun, nofun⟩
  | speedReported b => exact speedChanges_featLaws _ _ h
  | remindersSet x hidle =>
    have hm := applySettings_remMoves x.clamped s
    exact (hm.featLaws h).congr rfl rfl (fun _ => id) rfl rfl (.inr (by rw [postEvent_store hm]; exact hidle))
  | cleared hidle =>
    have hm := clearSettings_remMoves s
    have hcal : CalibrationLaw (clearSettings s) := by
      rw [calibrationLaw_iff, clearSettings_eq, postEvent_feat hm]
      exact uncalibrated_ok
    have hmap : FeatLaws (clearMap (clearSettings s)) := by
      rw [clearMap]; exact mapApply_featLaws (s := clearSettings s) _ _ hcal
    refine hmap.congr (by rw [clearCommit_feat]) (by rw [clearCommit_feat]) (fun i => by rw [clearCommit_verd]; exact id)
      (by rw [clearCommit_ret]) (by rw [clearCommit_cmap]) (.inr ?_)
    rw [clearMap, mapApply_store, clearSettings_eq, postEvent_store hm]
    exact hidle
  | _ => exact h.same rfl rfl rfl rfl rfl rfl

theorem handed_featLaws {v : State} (h : FeatLaws s) (hv : Handed s v) : FeatLaws v := by
  cases hv <;> exact h.same rfl rfl rfl rfl rfl rfl

theorem Does.featLaws {c : Instr} (hs : SeatLaws s) (h : FeatLaws s) (hd : Does s c t) : FeatLaws t := by
  cases hd with
  | nothing => exact h
  | reset =>
    refine featLaws_closed ((calibrationLaw_iff _).2 fun i n => ?_) rfl
    exact uncalibrated_ok i n
  | loaded straps hload =>
    rw [loadCompletes_eq straps s hload]
    have hcal : CalibrationLaw (copiesLoaded straps s) := by
      rw [calibrationLaw_iff]
      intro i n
      simp only [copiesLoaded, loadSections]
      split
      · exact loadedCal_ok _ i n
      · exact uncalibrated_ok i n
    have hmap : FeatLaws (mapLoaded straps s) := mapApply_featLaws _ _ hcal
    exact hmap.same rfl rfl rfl rfl rfl rfl
  | ignLine level => unfold Machine.ignLine; dsimp only; split <;> exact h.same rfl rfl rfl rfl rfl rfl
  | doorLine d level => unfold Machine.doorLine; dsimp only; split <;> exact h.same rfl rfl rfl rfl rfl rfl
  | turnedOff => exact ignitionOff_featLaws h
  | turnedOn => exact ignitionOn_featLaws h
  | doorMoved d isOpen =>
    have hq := doorChanges_quiet d isOpen s
    exact h.congr rfl rfl (fun i => by rw [hq.lifecycle i]; exact id) rfl rfl (.inl rfl)
  | doorDiscards d =>
    have hq := doorChanges_quiet d true s
    have hdoor : FeatLaws (doorChanges d true s) := h.congr rfl rfl (fun i => by rw [hq.lifecycle i]; exact id) rfl rfl (.inl rfl)
    refine hdoor.same ?_ ?_ ?_ ?_ ?_ ?_ <;> simp [postEvent]
  | rowIn r => exact installRow_featLaws r h
  | rowOut r => exact removeRow_featLaws r h
  | intervalExpired => exact (intervalExpires_scanMoves s).featLaws h
  | settled => exact (settleEnds_scanMoves s).featLaws h
  | converted raw anch => exact (conversionCompletes_scanMoves raw anch s).featLaws h
  | markerWaited => exact (pushWaiting_scanMoves s).featLaws h
  | entryDone => exact entryCompletes_featLaws h
  | markerTaken => exact takeBlocked_featLaws h
  | frameDone => exact frameFinishes_featLaws h
  | handled =>
    rcases hf : s.verd.slot with _ | f
    · rw [frameHandled_empty hf]; exact h
    · exact frameHandled_featLaws hs h hf
  | remStepped => exact (timerStep_remMoves s).featLaws h
  | startExpired => exact (startIntervalExpires_remMoves s).featLaws h
  | visualExpired i => exact (visualExpires_remMoves i s).featLaws h
  | budgetExpired i => exact (budgetExpires_remMoves i s).featLaws h
  | speedLost => exact speedChanges_featLaws _ _ h
  | retentionExpired => rw [retentionExpires_eq]; refine h.same ?_ ?_ ?_ ?_ ?_ ?_ <;> simp
  | committed passes => exact commitCompletes_featLaws passes h
  | clearCommitted passes => exact clearCompletes_featLaws passes h
  | linkFailed st code => unfold linkError; dsimp only; split <;> exact h.same rfl rfl rfl rfl rfl rfl
  | timedOut => unfold interByteExpires; split <;> exact h.same rfl rfl rfl rfl rfl rfl
  | restarted =>
    refine featLaws_closed ?_ ?_
    · unfold CalibrationLaw; simp only [restartBlocks_feat]; exact h.1
    · simp
  | answered code hready hv ha =>
    exact (ha.leaves.featLaws (handed_featLaws h hv)).same rfl rfl rfl rfl rfl rfl
  | _ => exact h.same rfl rfl rfl rfl rfl rfl

theorem retentionTick_featLaws (h : FeatLaws s) : FeatLaws (retentionTick s) := by
  rcases retentionTick_cases s with ⟨-, he⟩ | ⟨n, -, -, -, he⟩ | ⟨-, -, -, -, he⟩ <;> rw [he]
  · exact h
  · exact h.same rfl rfl rfl rfl rfl rfl
  · rw [retentionExpires_eq]; refine h.same ?_ ?_ ?_ ?_ ?_ ?_ <;> simp

/-! ## Steps -/

/-- A property that every command and the count keeps from a lawful state, and that does not read the waiting commands. -/
theorem step_keeps {P : State → Prop} (hexec : ∀ {s t c}, Laws s → Does s c t → P t)
    (htick : ∀ {s}, Laws s → P (retentionTick s)) (h : Laws s) (ht : step s = .next t) : P t := by
  rcases step_cases ht with ⟨-, rfl⟩ | ⟨c, rest, -, hd⟩
  · exact htick h
  · refine hexec (s := { s with pending := rest }) ?_ hd
    exact ⟨h.map, h.lifecycle, h.verdict, h.scan, h.queue, h.calibration, h.records, h.reminder, h.timer, h.start, h.summary,
      h.mapped, h.advisory, h.mailbox, h.retention, h.notices, h.receiver, h.transfer, h.reply, h.capture, h.settings,
      h.loading⟩

/-- Settles O57: SCAN's and FEAT's laws command by command, RET's by what moves a cabin record. -/
theorem everyStepKeepsTheScanCaptureAndRetentionLaws : Obligations.EveryStepKeepsTheScanCaptureAndRetentionLaws := by
  intro s t h ht
  have hscan : ScanLaws t := step_keeps (P := ScanLaws) (fun h hd => hd.scanLaws ⟨h.scan, h.queue⟩)
    (fun h => retentionTick_scanLaws ⟨h.scan, h.queue⟩) h ht
  have hfeat : FeatLaws t := step_keeps (P := FeatLaws)
    (fun h hd => hd.featLaws (cabin_of_laws h).seats ⟨h.calibration, h.capture⟩)
    (fun h => retentionTick_featLaws ⟨h.calibration, h.capture⟩) h ht
  exact ⟨hscan.1, hscan.2, hfeat.1, hfeat.2, step_keeps_retentionLaw h ht⟩

end Sys2Proof.Machine

/-! SUPPORT. LNK's laws: an operation of another block only posts, and keeps the notice queue and ATTN lawful; the receiver, the
transfer and the reply under way move by LNK's own commands (R149 to R161). -/

namespace Sys2Proof.Machine

open Sys2Proof.Safety

variable {s t u : State}

/-! ## Operations of the other blocks -/

/-- From `s` to `t` LNK has only posted notices, the load has neither begun nor ended, and a probe that is FILLED was so
before or lists at most 16 cells. -/
structure LinkKept (s t : State) : Prop where
  lnk : t.lnk = { s.lnk with notices := t.lnk.notices, overflow := t.lnk.overflow }
  notices : NoticeLaw s → NoticeLaw t
  loading : t.store.loading = s.store.loading
  probe : ∀ b, t.scan.probe = .filled b → s.scan.probe = .filled b ∨ b.cells.length ≤ 16

theorem LinkKept.refl (s : State) : LinkKept s s := ⟨rfl, id, rfl, fun _ h => .inl h⟩

theorem LinkKept.trans (h : LinkKept s t) (k : LinkKept t u) : LinkKept s u where
  lnk := by rw [k.lnk, h.lnk]
  notices := k.notices ∘ h.notices
  loading := k.loading.trans h.loading
  probe b hb := (k.probe b hb).elim (h.probe b) .inr

theorem LinkKept.after (k : LinkKept t u) (h : LinkKept s t) : LinkKept s u := h.trans k

/-- LNK, the mailbox, ATTN, the load and the probe slot stand. -/
theorem LinkKept.same (hlnk : t.lnk = s.lnk) (hmail : t.adv.mailbox = s.adv.mailbox) (hattn : t.pins.attn = s.pins.attn)
    (hloading : t.store.loading = s.store.loading) (hprobe : t.scan.probe = s.scan.probe) : LinkKept s t where
  lnk := by rw [hlnk]
  notices h := by simp only [NoticeLaw, hlnk, hmail, hattn]; exact h
  loading := hloading
  probe b hb := .inl (hprobe ▸ hb)

theorem postAll_linkKept (ns : List Notice) (s : State) : LinkKept s (postAll ns s) where
  lnk := by rw [postAll_lnk]; rfl
  notices h := by
    refine ⟨?_, ?_, ?_, postAll_attnTrue ns s h.2.2.2⟩
    · rw [postAll_lnk]; exact enqueue_length ns s.lnk h.1
    · rw [postAll_lnk]; exact h.2.1
    · rw [postAll_lnk]; exact h.2.2.1
  loading := by rw [postAll_store]
  probe b hb := .inl (by rw [postAll_scan] at hb; exact hb)

theorem post_linkKept (n : Notice) (s : State) : LinkKept s (post n s) := postAll_linkKept [n] s

theorem postMerged_linkKept (gs : List (List Notice)) (s : State) : LinkKept s (postMerged gs s) :=
  (postAll_linkKept _ { s with free := s.free + gs.length }).after (.same rfl rfl rfl rfl rfl)

theorem ScanMoves.linkKept (h : ScanMoves s t) : LinkKept s t where
  lnk := by rw [h.lnk]
  notices hn := by unfold NoticeLaw; rw [h.lnk, h.adv, h.pins]; exact hn
  loading := by rw [h.store]
  probe b hb := .inl (h.probe b hb)

theorem RemMoves.linkKept (h : RemMoves s t) : LinkKept s t :=
  .same h.lnk (by rw [h.adv]) (by rw [h.pins]) (by rw [h.store]) (by rw [h.scan])

theorem RemMoves.posted {r : State × List Notice} (h : RemMoves s r.1) : LinkKept s (postEvent r) :=
  h.linkKept.trans (postAll_linkKept ..)

theorem evaluatePosition_linkKept (p : Pos) (s : State) : LinkKept s (evaluatePosition p s) where
  lnk := by rw [evaluatePosition_lnk]
  notices h := by
    refine ⟨?_, ?_, ?_, evaluatePosition_attnTrue p s h.2.2.2⟩ <;> rw [evaluatePosition_lnk]
    exacts [h.1, h.2.1, h.2.2.1]
  loading := by rw [evaluatePosition_store]
  probe b hb := .inl (by rw [evaluatePosition_scan] at hb; exact hb)

theorem advBoth_linkKept (s : State) : LinkKept s (advBoth s) :=
  (evaluatePosition_linkKept 0 s).trans (evaluatePosition_linkKept 1 _)

theorem evaluateIf_linkKept (g : Seat → Bool) (p : Pos) (s : State) : LinkKept s (evaluateIf g p s) := by
  rcases evaluateIf_cases g p s with h | h <;> rw [h]
  · exact evaluatePosition_linkKept p s
  · exact .refl s

theorem advSeats_linkKept (g : Seat → Bool) (s : State) : LinkKept s (advSeats g s) :=
  (evaluateIf_linkKept g 0 s).trans (evaluateIf_linkKept g 1 _)

theorem emptyMailbox_linkKept (s : State) : LinkKept s (emptyMailbox s) where
  lnk := rfl
  notices h := ⟨h.1, h.2.1, h.2.2.1, refreshAttn_attnTrue _⟩
  loading := rfl
  probe _ hb := .inl hb

theorem advApply_linkKept (s : State) : LinkKept s (advApply s) := by
  unfold advApply
  exact LinkKept.after (advBoth_linkKept _) (.same rfl rfl rfl rfl rfl)

theorem advRestart_linkKept (s : State) : LinkKept s (advRestart s) :=
  (emptyMailbox_linkKept s).trans (advBoth_linkKept _)

theorem withFeat_linkKept (f : Feat) (s : State) : LinkKept s (withFeat f s) := .same rfl rfl rfl rfl rfl

theorem speedChanges_linkKept (x : Option Nat) (b : Bool) (s : State) : LinkKept s (speedChanges x b s) :=
  LinkKept.trans (t := speedTaken x b s) (.same rfl rfl rfl rfl rfl) (speedChanges_remMoves x b s).posted

theorem discardSnapshots_linkKept (c : DiscardCause) (g : Seat → Bool) (s : State) :
    LinkKept s (discardSnapshots c g s).1 := .same rfl rfl rfl rfl rfl

theorem retentionExpires_linkKept (s : State) : LinkKept s (retentionExpires s) :=
  (discardSnapshots_linkKept .timer (fun _ => true) s).trans (postAll_linkKept ..)

/-! ### FEAT -/

theorem featLook_linkKept (s : State) : LinkKept s (featLook s) := by
  by_cases hi : s.feat.intake = .idle
  · rw [featLook_idle s hi]; exact .same rfl rfl rfl rfl rfl
  · rw [featLook_busy s hi]; exact .refl s

theorem captureCommits_linkKept (c : Capture) (o : Tab 16 Nat) (s : State) : LinkKept s (captureCommits c o s) :=
  .same rfl rfl rfl rfl rfl

theorem closeCapture_linkKept (s : State) : LinkKept s (closeCapture s) := .same rfl rfl rfl rfl rfl

theorem captureEnds_linkKept (c : Capture) (s : State) : LinkKept s (captureEnds c s) := by
  unfold captureEnds
  dsimp only
  split
  · exact (closeCapture_linkKept s).trans (post_linkKept ..)
  split
  · exact .same rfl rfl rfl rfl rfl
  · exact captureCommits_linkKept ..

theorem captureOffer_linkKept (before : Bool) (mk : Marker) (a : Accumulator) (s : State) :
    LinkKept s (captureOffer before mk a s) := by
  unfold captureOffer
  split
  · split
    · dsimp only
      split
      · exact .same rfl rfl rfl rfl rfl
      · exact captureEnds_linkKept ..
    · exact .refl s
  · exact .refl s

theorem cellList_length (m : SeatMap) : m.cellList.length ≤ 16 := by
  have h := List.length_filter_le m.cellFitted (List.finRange 16)
  rwa [List.length_finRange] at h

theorem probeBufferOf_cells (m : SeatMap) (f : Features) (a : Accumulator) (mk : Marker) :
    (probeBufferOf m f a mk).cells.length ≤ 16 :=
  Nat.le_trans (List.length_filterMap_le ..) (cellList_length m)

/-- A probe slot that is FILLED after an offer was so before, or holds the buffer offered (R45). -/
theorem offer_filled {p : ProbeSlot} {before : Bool} {b x : ProbeBuffer} (h : p.offer before b = .filled x) :
    p = .filled x ∨ x = b := by
  rw [offer_eq] at h
  split at h
  · split at h
    · cases h; exact .inr rfl
    · cases h
  · cases h
  · exact .inl h

theorem frameFinishes_linkKept (s : State) : LinkKept s (frameFinishes s) := by
  unfold frameFinishes
  split
  case h_2 => exact .refl s
  dsimp only
  split
  · exact LinkKept.after (featLook_linkKept _) (.same rfl rfl rfl rfl rfl)
  · rename_i mk bp bc _ _ a _
    have hprobe : LinkKept s { s with
        feat := { s.feat with intake := .idle, acc := none }
        scan := { s.scan with probe := s.scan.probe.offer bp (probeBufferOf (s.cmap.seats.get mk.seat)
          (featuresOf (s.cmap.seats.get mk.seat) (s.cmap.profileOf mk.seat) a) a mk) } } :=
      ⟨rfl, id, rfl, fun b hb => (offer_filled hb).imp id fun e => by rw [e]; exact probeBufferOf_cells ..⟩
    have hoffered := hprobe.trans (captureOffer_linkKept bc mk a _)
    split
    · exact hoffered.trans (featLook_linkKept _)
    · refine (featLook_linkKept _).after (hoffered.trans ?_)
      exact .same rfl rfl rfl rfl rfl

theorem entryCompletes_linkKept (s : State) : LinkKept s (entryCompletes s) := by
  unfold entryCompletes
  split
  · exact LinkKept.after (featLook_linkKept _) (.same rfl rfl rfl rfl rfl)
  · exact .refl s

theorem takeBlocked_linkKept (s : State) : LinkKept s (takeBlocked s) := by
  unfold takeBlocked
  split
  · split
    · exact LinkKept.after (featLook_linkKept _) (.same rfl rfl rfl rfl rfl)
    · exact .refl s
  · exact .refl s

/-! ### STORE -/

theorem releaseCapture_linkKept (s : State) : LinkKept s (releaseCapture s) := by
  unfold releaseCapture
  split
  · split
    · exact captureCommits_linkKept ..
    · exact .refl s
  · exact .refl s

theorem finishCapture_linkKept (passes : Bool) (s : State) : LinkKept s (finishCapture passes s) := by
  unfold finishCapture
  split
  · split
    · split
      · exact (closeCapture_linkKept s).trans (post_linkKept ..)
      · exact closeCapture_linkKept s
    · exact .refl s
  · exact .refl s

theorem commitCompletes_linkKept (passes : Bool) (s : State) : LinkKept s (commitCompletes passes s) := by
  unfold commitCompletes
  split
  case h_2 => exact .refl s
  rename_i image _
  have hwritten : LinkKept s (post (.store image.sec passes) { s with store := { s.store with
      stored := s.store.stored.write image passes, valid := s.store.valid.put image.sec passes, commit := .idle } }) :=
    LinkKept.after (post_linkKept ..) (.same rfl rfl rfl rfl rfl)
  dsimp only
  split
  · exact (hwritten.trans (finishCapture_linkKept ..)).trans (releaseCapture_linkKept _)
  · exact hwritten.trans (releaseCapture_linkKept _)

theorem clearCompletes_linkKept (passes : BitVec 6) (s : State) : LinkKept s (clearCompletes passes s) := by
  unfold clearCompletes
  dsimp only
  split
  · refine LinkKept.trans (LinkKept.trans ?_ (postAll_linkKept _ _)) (releaseCapture_linkKept _)
    exact .same rfl rfl rfl rfl rfl
  · exact .refl s

/-! ### Events that reach every block -/

theorem ignitionOff_linkKept (s : State) : LinkKept s (ignitionOff s) := by
  have hret : LinkKept s (retOff s) := by rw [retOff_frame]; exact .same rfl rfl rfl rfl rfl
  rw [ignitionOff_eq]
  exact (((hret.trans (scanTurnedOff_scanMoves s).linkKept).trans (withFeat_linkKept _ _)).trans
    (remTurnedOff_remMoves s).linkKept).trans (postMerged_linkKept ..)

theorem ignitionOn_linkKept (s : State) : LinkKept s (ignitionOn s) := by
  have hseats : LinkKept s (seatsResumed s) := .same rfl rfl rfl rfl rfl
  have htold : LinkKept s (resumesTold s) := (hseats.trans (advSeats_linkKept ..)).trans (postAll_linkKept ..)
  rw [ignitionOn_eq]
  exact (htold.trans (remTurnedOn_remMoves s).posted).trans (scanIgnitionOn_scanMoves _).linkKept

theorem rowSeated_linkKept (r : Row) (st : RowState) (l : Lifecycle) (s : State) : LinkKept s (rowSeated r st l s) :=
  LinkKept.after (post_linkKept ..) (.same rfl rfl rfl rfl rfl)

theorem installRow_linkKept (r : Row) (s : State) : LinkKept s (installRow r s) := by
  rw [installRow_eq]
  exact (rowSeated_linkKept ..).trans (rowInstalled_remMoves r s).posted

theorem removeRow_linkKept (r : Row) (s : State) : LinkKept s (removeRow r s) := by
  rw [removeRow_eq]
  exact (((((rowSeated_linkKept ..).trans (rowUnscanned_scanMoves r s).linkKept).trans (withFeat_linkKept _ _)).trans
    (rowUnreminded_remMoves r s).linkKept).trans (discardSnapshots_linkKept ..)).trans (postMerged_linkKept ..)

/-- SCAN's probe slot is emptied by the event. -/
theorem LinkKept.freed (hlnk : t.lnk = s.lnk) (hmail : t.adv.mailbox = s.adv.mailbox) (hattn : t.pins.attn = s.pins.attn)
    (hloading : t.store.loading = s.store.loading) (hprobe : ∀ b, t.scan.probe ≠ .filled b) : LinkKept s t where
  lnk := by rw [hlnk]
  notices h := by simp only [NoticeLaw, hlnk, hmail, hattn]; exact h
  loading := hloading
  probe b hb := absurd hb (hprobe b)

theorem mapApply_linkKept (recs : MapRecs) (valid : Bool) (s : State) : LinkKept s (mapApply recs valid s) := by
  have hscan : LinkKept s (mapScanned recs valid s) := by
    refine .freed rfl rfl rfl rfl fun b => ?_
    simp only [mapScanned, scanApply]
    split <;> exact nofun
  have hrem : RemMoves (withFeat (featFlush (mapScanned recs valid s).feat).1 (mapScanned recs valid s))
      (mapReminded recs valid s).1 := remApply_remMoves _
  rw [mapApply_eq]
  exact ((((hscan.trans (withFeat_linkKept _ _)).trans hrem.linkKept).trans (discardSnapshots_linkKept ..)).trans
    (advApply_linkKept _)).trans (postMerged_linkKept ..)

theorem restartBlocks_linkKept (s : State) : LinkKept s (restartBlocks s) := by
  have hscan : LinkKept s (scanRestarted s) := .freed rfl rfl rfl rfl fun b => nofun
  have hadv : LinkKept s (advRestarted s) :=
    (((hscan.trans (withFeat_linkKept _ _)).trans (remRestarted_remMoves s).linkKept).trans
      (discardSnapshots_linkKept ..)).trans (advRestart_linkKept _)
  have hemptied : LinkKept (advRestarted s) { advRestarted s with
      lnk := (advRestarted s).lnk.emptied, free := (advRestarted s).free + 3 }.refreshAttn :=
    ⟨rfl, fun h => ⟨Nat.zero_le _, h.2.1, h.2.2.1, refreshAttn_attnTrue _⟩, rfl, fun _ hb => .inl hb⟩
  rw [restartBlocks_eq]
  exact (hadv.trans hemptied).trans (postAll_linkKept ..)

theorem frameHandled_linkKept (s : State) : LinkKept s (frameHandled s) := by
  rcases hf : s.verd.slot with _ | f
  · rw [frameHandled_empty hf]; exact .refl s
  have hverd : LinkKept s (afterVerd s f) := LinkKept.after (postAll_linkKept ..) (.same rfl rfl rfl rfl rfl)
  have hadv : LinkKept (afterVerd s f) (afterAdv s f) := by
    unfold afterAdv
    split
    · exact advSeats_linkKept ..
    · exact .refl _
  rw [frameHandled_eq s f hf]
  exact (((hverd.trans hadv).trans (withFeat_linkKept _ _)).trans (afterRem_remMoves s f).linkKept).trans
    (postMerged_linkKept ..)

theorem armProbe_linkKept (i : Seat) (s : State) : LinkKept s (armProbe i s) := by
  refine .freed ?_ ?_ ?_ ?_ fun b => ?_
  all_goals simp only [armProbe]
  · split <;> rfl
  · split <;> rfl
  · split <;> rfl
  · split <;> rfl
  · split <;> exact nofun

end Sys2Proof.Machine

/-! SUPPORT. Every command, and the count, keeps LNK's laws, the ranges of the settings and what holds while the load is in
flight (O58). -/

namespace Sys2Proof.Machine

open Sys2Proof.Safety

variable {s t u : State}

/-! ## LNK's laws -/

/-- The laws of LNK. -/
structure LinkLaws (s : State) : Prop where
  notices : NoticeLaw s
  receiver : ReceiverLaw s
  transfer : TransferLaw s
  reply : ReplyLaw s

section
variable (h : LinkKept s t)
include h

theorem LinkKept.linkLaws (hs : LinkLaws s) : LinkLaws t := by
  have hrx : t.lnk.rxState = s.lnk.rxState := by rw [h.lnk]
  have hlen : t.lnk.rxLen = s.lnk.rxLen := by rw [h.lnk]
  have hbuf : t.lnk.rxBuf = s.lnk.rxBuf := by rw [h.lnk]
  have htimer : t.lnk.interByte = s.lnk.interByte := by rw [h.lnk]
  have htransfer : t.lnk.transfer = s.lnk.transfer := by rw [h.lnk]
  have hdispatch : t.lnk.dispatch = s.lnk.dispatch := by rw [h.lnk]
  refine ⟨h.notices hs.notices, ?_, ?_, ?_⟩
  · simp only [ReceiverLaw, hrx, hlen, hbuf, htimer, h.loading]; exact hs.receiver
  · simp only [TransferLaw, htransfer]; exact hs.transfer
  · refine ⟨fun r b hd => hs.reply.1 r b (hdispatch ▸ hd), fun b hb => ?_⟩
    exact (h.probe b hb).elim (hs.reply.2 b) id

end

theorem LinkLaws.same (h : LinkLaws s) (hlnk : t.lnk = s.lnk) (hmail : t.adv.mailbox = s.adv.mailbox)
    (hattn : t.pins.attn = s.pins.attn) (hloading : t.store.loading = s.store.loading)
    (hprobe : t.scan.probe = s.scan.probe) : LinkLaws t := (LinkKept.same hlnk hmail hattn hloading hprobe).linkLaws h

/-! ## LNK's own commands -/

theorem closeTransfer_linkLaws (h : LinkLaws s) : LinkLaws (closeTransfer s) :=
  ⟨h.notices, h.receiver, nofun, h.reply⟩

theorem hunting_linkLaws (h : LinkLaws s) : LinkLaws (hunting s) :=
  ⟨h.notices, ⟨by simp [hunting], fun _ => rfl, nofun, nofun, fun hx => by rcases hx with hx | hx <;> cases hx⟩, h.transfer,
    h.reply⟩

theorem handed_linkLaws {v : State} (h : LinkLaws s) (hv : Handed s v) : LinkLaws v := by
  cases hv
  · exact h
  · exact closeTransfer_linkLaws h
  · exact hunting_linkLaws h
  · exact closeTransfer_linkLaws (hunting_linkLaws h)

/-- A reply under way whose body fits (R149). -/
theorem dispatch_linkLaws (h : LinkLaws s) {d : Dispatch} (hd : ∀ r b, d = .handling r b → r.body.length ≤ 55) :
    LinkLaws { s with lnk := { s.lnk with dispatch := d } } :=
  ⟨h.notices, h.receiver, h.transfer, hd, h.reply.2⟩

theorem linkError_linkLaws (st : Status) (code : Byte) (h : LinkLaws s) : LinkLaws (linkError st code s) := by
  unfold linkError
  dsimp only
  split
  · refine dispatch_linkLaws (hunting_linkLaws h) fun r b hd => ?_
    cases hd
    exact Nat.zero_le _
  · exact hunting_linkLaws h

theorem interByteExpires_linkLaws (h : LinkLaws s) : LinkLaws (interByteExpires s) := by
  unfold interByteExpires
  split
  · exact ⟨h.notices, ⟨by simp [Lnk.hunting], fun _ => rfl, nofun, nofun,
      fun hx => by rcases hx with hx | hx <;> cases hx⟩, h.transfer, h.reply⟩
  · exact h

/-- The receiver, enabled, in a state whose buffer it fits, its timer running (R150, R152). -/
theorem receiving_linkLaws (h : LinkLaws s) {l : Lnk} (hload : s.store.loading = false)
    (hl : l = { s.lnk with rxState := l.rxState, rxLen := l.rxLen, rxBuf := l.rxBuf, rxCheck := l.rxCheck, interByte := true })
    (hhunt : l.rxState ≠ .hunt) (hlength : l.rxState = .length → l.rxBuf = [])
    (hbody : l.rxState = .body → l.rxBuf.length < l.rxLen.toNat ∧ l.rxLen.toNat ≤ 57)
    (hcheck : l.rxState = .check ∨ l.rxState = .end_ →
      l.rxBuf.length = l.rxLen.toNat ∧ 1 ≤ l.rxLen.toNat ∧ l.rxLen.toNat ≤ 57) :
    LinkLaws { s with lnk := l } := by
  have htimer : l.interByte = true := by rw [hl]
  have hnotices : l.notices = s.lnk.notices ∧ l.level = s.lnk.level := by rw [hl]; exact ⟨rfl, rfl⟩
  have htransfer : l.transfer = s.lnk.transfer := by rw [hl]
  have hdispatch : l.dispatch = s.lnk.dispatch := by rw [hl]
  refine ⟨?_, ⟨⟨fun _ => hhunt, fun _ => htimer⟩, fun hn => ?_, hlength, hbody, hcheck⟩, ?_, ?_⟩
  · simp only [NoticeLaw, hnotices]; exact h.notices
  · simp only [hload] at hn; cases hn
  · simp only [TransferLaw, htransfer]; exact h.transfer
  · simp only [ReplyLaw, hdispatch]; exact h.reply

/-- ATTN evaluated after the notices or the level have moved (R161). -/
theorem noticed_linkLaws (h : LinkLaws s) {l : Lnk}
    (hl : l = { s.lnk with notices := l.notices, overflow := l.overflow, level := l.level })
    (hlen : l.notices.length ≤ 32) (hmin : 1 ≤ l.level) (hmax : l.level ≤ 32) :
    LinkLaws ({ s with lnk := l } : State).refreshAttn := by
  have hrx : l.rxState = s.lnk.rxState ∧ l.rxLen = s.lnk.rxLen ∧ l.rxBuf = s.lnk.rxBuf ∧ l.interByte = s.lnk.interByte := by
    rw [hl]; exact ⟨rfl, rfl, rfl, rfl⟩
  obtain ⟨hstate, hrxLen, hbuf, htimer⟩ := hrx
  have htransfer : l.transfer = s.lnk.transfer := by rw [hl]
  have hdispatch : l.dispatch = s.lnk.dispatch := by rw [hl]
  refine ⟨⟨hlen, hmin, hmax, refreshAttn_attnTrue _⟩, ?_, ?_, ?_⟩
  · simp only [ReceiverLaw, State.refreshAttn_lnk, State.refreshAttn_store, hstate, hrxLen, hbuf, htimer]; exact h.receiver
  · simp only [TransferLaw, State.refreshAttn_lnk, htransfer]; exact h.transfer
  · simp only [ReplyLaw, State.refreshAttn_lnk, State.refreshAttn_scan, hdispatch]; exact h.reply

theorem fullReset_linkLaws (s : State) : LinkLaws (fullReset s) := by
  refine ⟨?_, ?_, nofun, nofun, nofun⟩
  · simp [NoticeLaw, fullReset, State.reset, Lnk.reset, Adv.reset]
  · simp [ReceiverLaw, fullReset, State.reset, Lnk.reset]

theorem startCommit_linkKept (image : SectionImage) (s : State) : LinkKept s (startCommit image s) :=
  .same rfl rfl rfl rfl rfl

theorem clearCommit_linkKept (s : State) : LinkKept s (clearCommit s) :=
  .same (clearCommit_lnk s) (by rw [clearCommit_adv]) (by rw [clearCommit_pins]) rfl (by rw [clearCommit_scan])

theorem Leaves.linkLaws {sw : Bool} (h : LinkLaws s) (hl : Leaves s sw t) : LinkLaws t := by
  cases hl with
  | same => exact h
  | fetched n =>
    refine noticed_linkLaws h rfl ?_ h.notices.2.1 h.notices.2.2.1
    have := h.notices.1
    rw [List.length_drop]
    omega
  | levelSet n hmin hmax => exact noticed_linkLaws h rfl h.notices.1 hmin hmax
  | transferClosed => exact closeTransfer_linkLaws h
  | staged x hx => exact ⟨h.notices, h.receiver, hx h.transfer, h.reply⟩
  | mapRefused => exact ⟨h.notices, h.receiver, nofun, h.reply⟩
  | mapWritten recs ps =>
    refine ((mapApply_linkKept ..).trans (startCommit_linkKept ..)).linkLaws ?_
    exact ⟨h.notices, h.receiver, nofun, h.reply⟩
  | probeArmed i => exact (armProbe_linkKept i s).linkLaws h
  | probeFreed =>
    have hfreed : LinkKept s { s with scan := { s.scan with probe := .free none } } := .freed rfl rfl rfl rfl fun _ hb => by cases hb
    exact hfreed.linkLaws h
  | speedReported b => exact (speedChanges_linkKept ..).linkLaws h
  | remindersSet x =>
    exact ((applySettings_remMoves x.clamped s).posted.trans (startCommit_linkKept ..)).linkLaws h
  | mailboxRead => exact (emptyMailbox_linkKept s).linkLaws h
  | cleared =>
    have hcopies : LinkKept s (copiesCleared s) := .same rfl rfl rfl rfl rfl
    have hsettings : LinkKept s (clearSettings s) := hcopies.trans (clearSettings_remMoves s).posted
    have hmap : LinkKept s (clearMap (clearSettings s)) := by
      rw [clearMap]; exact hsettings.trans (mapApply_linkKept ..)
    exact (hmap.trans (clearCommit_linkKept _)).linkLaws h
  | _ => exact h.same rfl rfl rfl rfl rfl

theorem loadCompletes_linkLaws (straps : BitVec 2) (hload : s.store.loading = true) (h : LinkLaws s) :
    LinkLaws (loadCompletes straps s) := by
  have hcopies : LinkLaws (copiesLoaded straps s) := ⟨h.notices, ⟨h.receiver.1, nofun, h.receiver.2.2⟩, h.transfer, h.reply⟩
  have hmap : LinkKept (copiesLoaded straps s) (mapLoaded straps s) := mapApply_linkKept ..
  rw [loadCompletes_eq straps s hload]
  exact (hmap.linkLaws hcopies).same rfl rfl rfl rfl rfl

theorem Does.linkLaws {c : Instr} (h : LinkLaws s) (hd : Does s c t) : LinkLaws t := by
  cases hd with
  | nothing => exact h
  | reset => exact fullReset_linkLaws s
  | loaded straps hload => exact loadCompletes_linkLaws straps hload h
  | ignLine level =>
    unfold Machine.ignLine; dsimp only; split <;> exact h.same rfl rfl rfl rfl rfl
  | doorLine d level =>
    unfold Machine.doorLine; dsimp only; split <;> exact h.same rfl rfl rfl rfl rfl
  | rowLine | doorMoved => exact h.same rfl rfl rfl rfl rfl
  | turnedOff => exact (ignitionOff_linkKept s).linkLaws h
  | turnedOn => exact (ignitionOn_linkKept s).linkLaws h
  | doorDiscards d =>
    have hdoor : LinkKept s (doorChanges d true s) := .same rfl rfl rfl rfl rfl
    exact ((hdoor.trans (discardSnapshots_linkKept ..)).trans (postAll_linkKept ..)).linkLaws h
  | rowIn r => exact (installRow_linkKept r s).linkLaws h
  | rowOut r => exact (removeRow_linkKept r s).linkLaws h
  | intervalExpired => exact (intervalExpires_scanMoves s).linkKept.linkLaws h
  | settled => exact (settleEnds_scanMoves s).linkKept.linkLaws h
  | converted raw anch => exact (conversionCompletes_scanMoves raw anch s).linkKept.linkLaws h
  | markerWaited => exact (pushWaiting_scanMoves s).linkKept.linkLaws h
  | entryDone => exact (entryCompletes_linkKept s).linkLaws h
  | markerTaken => exact (takeBlocked_linkKept s).linkLaws h
  | frameDone => exact (frameFinishes_linkKept s).linkLaws h
  | handled => exact (frameHandled_linkKept s).linkLaws h
  | remStepped => exact (timerStep_remMoves s).posted.linkLaws h
  | startExpired => exact (startIntervalExpires_remMoves s).posted.linkLaws h
  | visualExpired i => exact (visualExpires_remMoves i s).posted.linkLaws h
  | budgetExpired i => exact (budgetExpires_remMoves i s).posted.linkLaws h
  | speedLost => exact (speedChanges_linkKept ..).linkLaws h
  | retentionExpired => exact (retentionExpires_linkKept s).linkLaws h
  | committed passes => exact (commitCompletes_linkKept passes s).linkLaws h
  | clearCommitted passes => exact (clearCompletes_linkKept passes s).linkLaws h
  | frameStarted hload =>
    exact receiving_linkLaws h hload rfl nofun (fun _ => rfl) nofun (fun hx => by rcases hx with hx | hx <;> cases hx)
  | lengthTaken b hload hrx hmin hmax =>
    have hbuf : s.lnk.rxBuf = [] := h.receiver.2.2.1 hrx
    refine receiving_linkLaws h hload rfl nofun nofun (fun _ => ⟨?_, hmax⟩) (fun hx => by rcases hx with hx | hx <;> cases hx)
    simp only [hbuf, List.length_nil]
    omega
  | byteTaken b hload hrx =>
    obtain ⟨hroom, hmax⟩ := h.receiver.2.2.2.1 hrx
    have hlen : (s.lnk.rxBuf ++ [b]).length = s.lnk.rxBuf.length + 1 := by simp
    refine receiving_linkLaws h hload rfl ?_ ?_ (fun hx => ?_) (fun hx => ?_)
    · dsimp only; split <;> exact nofun
    · dsimp only; split <;> exact nofun
    · dsimp only at hx ⊢
      split at hx
      · cases hx
      · omega
    · dsimp only at hx ⊢
      split at hx
      · omega
      · rcases hx with hx | hx <;> cases hx
  | checkTaken b hload hrx =>
    exact receiving_linkLaws h hload rfl nofun nofun nofun fun _ => h.receiver.2.2.2.2 (.inl hrx)
  | linkFailed st code => exact linkError_linkLaws st code h
  | frameDropped => exact hunting_linkLaws h
  | timedOut => exact interByteExpires_linkLaws h
  | replyLeft => exact dispatch_linkLaws h nofun
  | restarted => exact dispatch_linkLaws ((restartBlocks_linkKept s).linkLaws h) nofun
  | silenced => exact closeTransfer_linkLaws h
  | answered code hready hv ha =>
    have hhanded := handed_linkLaws h hv
    refine dispatch_linkLaws (ha.leaves.linkLaws hhanded) fun r b hd => ?_
    cases hd
    exact ha.body hhanded.reply

theorem retentionTick_linkLaws (h : LinkLaws s) : LinkLaws (retentionTick s) := by
  rcases retentionTick_cases s with ⟨-, he⟩ | ⟨n, -, -, -, he⟩ | ⟨-, -, -, -, he⟩ <;> rw [he]
  · exact h
  · exact h.same rfl rfl rfl rfl rfl
  · exact (retentionExpires_linkKept s).linkLaws h

end Sys2Proof.Machine

/-! SUPPORT. The ranges of the working settings, and what holds while the load is in flight: every command and the count keeps
both, which settles O58. -/

namespace Sys2Proof.Machine

open Sys2Proof.Safety

variable {s t u : State}

/-! ## REM's operations keep its settings -/

theorem evaluateTrigger_settings (b : Bool) (s : State) : (evaluateTrigger b s).1.rem.settings = s.rem.settings := by
  rcases evaluateTrigger_cases b s with ⟨-, -, h⟩ | ⟨-, h⟩ <;> rw [h]
  rfl

theorem countStart_settings (s : State) : (countStart s).1.rem.settings = s.rem.settings := by
  rcases countStart_cases s with ⟨-, h⟩ | ⟨n, -, -, h⟩ | ⟨n, -, -, h⟩ <;> rw [h]
  exact evaluateTrigger_settings ..

theorem timerStep_settings (s : State) : (timerStep s).1.rem.settings = s.rem.settings := by
  unfold timerStep
  split
  · exact countStart_settings _
  · rfl

theorem startIntervalExpires_settings (s : State) : (startIntervalExpires s).1.rem.settings = s.rem.settings := by
  unfold startIntervalExpires
  split
  · exact evaluateTrigger_settings ..
  split
  · exact timerStep_settings s
  · rfl

theorem visualExpires_settings (i : Seat) (s : State) : (visualExpires i s).1.rem.settings = s.rem.settings := by
  unfold visualExpires
  dsimp only
  split
  · rfl
  split
  · exact timerStep_settings s
  · rfl

theorem budgetExpires_settings (i : Seat) (s : State) : (budgetExpires i s).1.rem.settings = s.rem.settings := by
  unfold budgetExpires
  dsimp only
  split
  · rfl
  split
  · exact timerStep_settings s
  · rfl

theorem applySettings_settings (new : ReminderSettings) (s : State) : (applySettings new s).1.rem.settings = new := by
  rw [applySettings_eq]
  exact evaluateTrigger_settings s.trigger (settingsTaken new s)

theorem speedChanges_settings (x : Option Nat) (b : Bool) (s : State) :
    (speedChanges x b s).rem.settings = s.rem.settings := by
  rw [speedChanges_eq, postEvent, postAll_rem]
  exact evaluateTrigger_settings ..

theorem afterRem_settings (s : State) (f : MatFrame) : (afterRem s f).1.rem.settings = s.rem.settings := by
  have hrem : (withFeat (captureAborted s f).1 (afterAdv s f)).rem = s.rem := by
    simp [(afterAdv_advMoves s f).rem, afterVerd]
  unfold afterRem
  split
  · change (withFeat (captureAborted s f).1 (afterAdv s f)).rem.settings = _
    rw [hrem]
  · rw [hrem]

/-! ## The ranges of the settings -/

/-- The working settings and profiles stand. -/
structure SettingsKept (s t : State) : Prop where
  timing : t.scan.timing = s.scan.timing
  settings : t.rem.settings = s.rem.settings
  retain : t.ret.tRetain = s.ret.tRetain
  profiles : t.cmap.profiles = s.cmap.profiles

theorem SettingsKept.law (h : SettingsKept s t) (hs : SettingsLaw s) : SettingsLaw t := by
  simp only [SettingsLaw, h.timing, h.settings, h.retain, h.profiles]
  exact hs

theorem SettingsKept.trans (h : SettingsKept s t) (k : SettingsKept t u) : SettingsKept s u :=
  ⟨k.timing.trans h.timing, k.settings.trans h.settings, k.retain.trans h.retain, k.profiles.trans h.profiles⟩

theorem SettingsKept.after (k : SettingsKept t u) (h : SettingsKept s t) : SettingsKept s u := h.trans k

theorem ScanMoves.settingsKept (h : ScanMoves s t) : SettingsKept s t :=
  ⟨h.timing, by rw [h.rem], by rw [h.ret], by rw [h.cmap]⟩

theorem RemMoves.settingsKept {r : State × List Notice} (h : RemMoves s r.1) (hset : r.1.rem.settings = s.rem.settings) :
    SettingsKept s (postEvent r) :=
  ⟨by rw [postEvent_scan h], by simpa [postEvent] using hset, by rw [postEvent_ret h], by rw [postEvent_cmap h]⟩

theorem CaptureMoves.settingsKept (h : CaptureMoves s t) (hrem : t.rem = s.rem) : SettingsKept s t :=
  ⟨by rw [h.scan], by rw [hrem], by rw [h.ret], by rw [h.cmap]⟩

theorem featLook_settingsKept (s : State) : SettingsKept s (featLook s) := by
  by_cases hi : s.feat.intake = .idle
  · rw [featLook_idle s hi]; exact ⟨rfl, rfl, rfl, rfl⟩
  · rw [featLook_busy s hi]; exact ⟨rfl, rfl, rfl, rfl⟩

theorem entryCompletes_settingsKept (s : State) : SettingsKept s (entryCompletes s) := by
  unfold entryCompletes
  split
  · exact (featLook_settingsKept _).after ⟨rfl, rfl, rfl, rfl⟩
  · exact ⟨rfl, rfl, rfl, rfl⟩

theorem takeBlocked_settingsKept (s : State) : SettingsKept s (takeBlocked s) := by
  unfold takeBlocked
  split
  · split
    · exact (featLook_settingsKept _).after ⟨rfl, rfl, rfl, rfl⟩
    · exact ⟨rfl, rfl, rfl, rfl⟩
  · exact ⟨rfl, rfl, rfl, rfl⟩

theorem captureOffer_rem (before : Bool) (mk : Marker) (a : Accumulator) (s : State) :
    (captureOffer before mk a s).rem = s.rem := (captureOffer_quiet before mk a s).rem

theorem frameFinishes_settingsKept (s : State) : SettingsKept s (frameFinishes s) := by
  unfold frameFinishes
  split
  case h_2 => exact ⟨rfl, rfl, rfl, rfl⟩
  dsimp only
  split
  · exact (featLook_settingsKept _).after ⟨rfl, rfl, rfl, rfl⟩
  · rename_i mk bp bc _ _ a _
    have hoffered := (captureOffer_moves bc mk a { s with
      feat := { s.feat with intake := .idle, acc := none }
      scan := { s.scan with probe := s.scan.probe.offer bp (probeBufferOf (s.cmap.seats.get mk.seat)
        (featuresOf (s.cmap.seats.get mk.seat) (s.cmap.profileOf mk.seat) a) a mk) } }).settingsKept (captureOffer_rem ..)
    refine SettingsKept.trans (hoffered.after (s := s) ⟨rfl, rfl, rfl, rfl⟩) ?_
    split
    · exact featLook_settingsKept _
    · exact (featLook_settingsKept _).after ⟨rfl, rfl, rfl, rfl⟩

theorem ignitionOff_settingsKept (s : State) : SettingsKept s (ignitionOff s) := by
  have hscan := (scanTurnedOff_scanMoves s).timing
  refine ⟨?_, ?_, ?_, by simp⟩
  · rw [ignitionOff_scan, hscan, retOff_frame]
  · rw [ignitionOff_rem]
    change (scanTurnedOff s).rem.settings = _
    rw [scanTurnedOff_rem]
  · rw [ignitionOff_ret, retOff]
    dsimp only
    split <;> rfl

theorem ignitionOn_settingsKept (s : State) : SettingsKept s (ignitionOn s) := by
  refine ⟨?_, ?_, by simp [seatsResumed], by simp⟩
  · rw [ignitionOn_eq, (scanIgnitionOn_scanMoves _).timing, postEvent_scan (remTurnedOn_remMoves s), resumesTold_scan]
  · rw [ignitionOn_rem]
    change (resumesTold s).rem.settings = _
    rw [resumesTold_rem]

theorem installRow_settingsKept (r : Row) (s : State) : SettingsKept s (installRow r s) :=
  ⟨by simp, by rw [installRow_rem]; rfl, by simp, by simp [CMap.rowBecomes]⟩

theorem removeRow_settingsKept (r : Row) (s : State) : SettingsKept s (removeRow r s) := by
  have hm := rowUnscanned_scanMoves r s
  refine ⟨?_, ?_, by rw [removeRow_ret]; rfl, by simp [CMap.rowBecomes]⟩
  · rw [removeRow_scan, hm.timing]; rfl
  · rw [removeRow_rem]
    change (rowUnscanned r s).rem.settings = _
    rw [hm.rem]; rfl

theorem mapApply_settingsKept (recs : MapRecs) (valid : Bool) (s : State) : SettingsKept s (mapApply recs valid s) := by
  refine ⟨?_, by rw [mapApply_rem_frame], by rw [mapApply_ret]; rfl, by rw [mapApply_cmap]; rfl⟩
  rw [mapApply_scan]
  cases valid <;> cases s.ret.ignition <;> rfl

theorem restartBlocks_settingsKept (s : State) : SettingsKept s (restartBlocks s) := by
  refine ⟨?_, ?_, by rw [restartBlocks_ret]; rfl, by simp⟩
  · rw [restartBlocks_scan]
    change (s.scan.flushed.settled s.cmap.valid s.ret.ignition).timing = _
    cases s.cmap.valid <;> cases s.ret.ignition <;> rfl
  · rw [restartBlocks_rem]; rfl

theorem frameHandled_settingsKept (s : State) : SettingsKept s (frameHandled s) := by
  rcases hf : s.verd.slot with _ | f
  · rw [frameHandled_empty hf]; exact ⟨rfl, rfl, rfl, rfl⟩
  · exact ⟨by rw [frameHandled_scan hf], by rw [frameHandled_rem hf, afterRem_settings], by rw [frameHandled_ret hf],
      by rw [frameHandled_cmap hf]⟩

theorem within_clamp {lo hi : Nat} (h : lo ≤ hi) (x : Nat) : lo ≤ clamp lo hi x ∧ clamp lo hi x ≤ hi := by
  rw [clamp_eq lo hi x h]
  omega

/-- The ranges of R19, R98 and R147. -/
structure SettingsOk (x : Timing) (r : ReminderSettings) (retain : Nat) : Prop where
  p : 2 ≤ x.p ∧ x.p ≤ 1000
  d : 2 ≤ x.d ∧ x.d ≤ 65535
  settle : 20 ≤ x.settle ∧ x.settle ≤ 500
  vRemind : 5 ≤ r.vRemind ∧ r.vRemind ≤ 60
  vHold : 3 ≤ r.vHold ∧ r.vHold ≤ 60
  tStart : 10 ≤ r.tStart ∧ r.tStart ≤ 300
  tVisual : r.tVisual ≤ 60
  tChime : 10 ≤ r.tChime ∧ r.tChime ≤ 240
  retain : retain ≤ 3600

theorem settingsLaw_iff (s : State) : SettingsLaw s ↔
    SettingsOk s.scan.timing s.rem.settings s.ret.tRetain ∧ ∀ i : ProfileIx, (s.cmap.profiles.get i).ok = true :=
  ⟨fun ⟨p1, p2, d1, d2, e1, e2, r1, r2, h1, h2, t1, t2, v, c1, c2, n, hp⟩ =>
      ⟨⟨⟨p1, p2⟩, ⟨d1, d2⟩, ⟨e1, e2⟩, ⟨r1, r2⟩, ⟨h1, h2⟩, ⟨t1, t2⟩, v, ⟨c1, c2⟩, n⟩, hp⟩,
    fun ⟨⟨⟨p1, p2⟩, ⟨d1, d2⟩, ⟨e1, e2⟩, ⟨r1, r2⟩, ⟨h1, h2⟩, ⟨t1, t2⟩, v, ⟨c1, c2⟩, n⟩, hp⟩ =>
      ⟨p1, p2, d1, d2, e1, e2, r1, r2, h1, h2, t1, t2, v, c1, c2, n, hp⟩⟩

theorem clampRetain_le (n : Nat) : clampRetain n ≤ 3600 :=
  (within_clamp (lo := 0) (hi := 3600) (by decide) n).2

/-- Clamped timing in place (R38). -/
theorem SettingsOk.timing {x : Timing} {r : ReminderSettings} {n : Nat} (h : SettingsOk x r n) (y : Timing) :
    SettingsOk y.clamped r n :=
  ⟨within_clamp (by decide) _, within_clamp (by decide) _, within_clamp (by decide) _, h.vRemind, h.vHold, h.tStart,
    h.tVisual, h.tChime, h.retain⟩

/-- Clamped reminder settings in place (R99). -/
theorem SettingsOk.reminder {x : Timing} {r : ReminderSettings} {n : Nat} (h : SettingsOk x r n) (y : ReminderSettings) :
    SettingsOk x y.clamped n :=
  ⟨h.p, h.d, h.settle, within_clamp (by decide) _, within_clamp (by decide) _, within_clamp (by decide) _,
    (within_clamp (lo := 0) (hi := 60) (by decide) _).2, within_clamp (by decide) _, h.retain⟩

/-- Clamped t_retain in place (R147). -/
theorem SettingsOk.retained {x : Timing} {r : ReminderSettings} {n : Nat} (h : SettingsOk x r n) (k : Nat) :
    SettingsOk x r (clampRetain k) :=
  ⟨h.p, h.d, h.settle, h.vRemind, h.vHold, h.tStart, h.tVisual, h.tChime, clampRetain_le k⟩

theorem defaults_ok : SettingsOk defaultTiming defaultSettings defaultRetain := by
  constructor <;> decide

theorem defaultProfiles_ok (i : ProfileIx) : (defaultProfiles.get i).ok = true := by
  revert i; decide

theorem failure_none_ok {p : Profile} (h : p.failure = none) : p.ok = true := by
  have hall := (firstFailing_none_iff _).1 h
  have hrange := hall (!p.inRanges, .profileRange) (by simp)
  have horder := hall (!p.ordered, .profileOrder) (by simp)
  simp only [Bool.not_eq_false'] at hrange horder
  rw [Profile.ok, hrange, horder]
  rfl

theorem speedChanges_settingsKept (x : Option Nat) (b : Bool) (s : State) : SettingsKept s (speedChanges x b s) := by
  have hm := speedChanges_remMoves x b s
  rw [speedChanges_eq]
  refine ⟨?_, ?_, ?_, ?_⟩
  · exact congrArg Scan.timing (postEvent_scan (s := speedTaken x b s) hm)
  · exact speedChanges_settings ..
  · exact congrArg Ret.tRetain (postEvent_ret (s := speedTaken x b s) hm)
  · exact congrArg CMap.profiles (postEvent_cmap (s := speedTaken x b s) hm)

theorem Leaves.settingsLaw {sw : Bool} (h : SettingsLaw s) (hl : Leaves s sw t) : SettingsLaw t := by
  obtain ⟨hset, hprofiles⟩ := (settingsLaw_iff s).1 h
  cases hl with
  | same => exact h
  | mapWritten recs ps hidle hvalid =>
    obtain ⟨-, -, -, hps⟩ := (mapFailure_none_iff recs ps).1 hvalid
    refine (SettingsKept.trans (mapApply_settingsKept recs true { closeTransfer { s with free := s.free + 4 } with
      cmap := { s.cmap with profiles := ps } }) ⟨rfl, rfl, rfl, rfl⟩).law ?_
    exact (settingsLaw_iff _).2 ⟨hset, fun i => failure_none_ok (hps i)⟩
  | profileWritten ps hidle hok => exact (settingsLaw_iff _).2 ⟨hset, hok hprofiles⟩
  | timingSet x => exact (settingsLaw_iff _).2 ⟨hset.timing x, hprofiles⟩
  | probeArmed i => exact SettingsKept.law ⟨by simp only [armProbe]; split <;> rfl, by rw [armProbe_eq], by rw [armProbe_eq],
      by rw [armProbe_eq]⟩ h
  | speedReported b => exact (speedChanges_settingsKept ..).law h
  | remindersSet x =>
    have hm := applySettings_remMoves x.clamped s
    refine (settingsLaw_iff _).2 ?_
    simp only [startCommit_scan, startCommit_rem, startCommit_ret, startCommit_cmap, postEvent_scan hm, postEvent_ret hm,
      postEvent_cmap hm]
    rw [postEvent, postAll_rem, applySettings_settings]
    exact ⟨hset.reminder x, hprofiles⟩
  | retainSet n => exact (settingsLaw_iff _).2 ⟨hset.retained n, hprofiles⟩
  | cleared =>
    have hm := clearSettings_remMoves s
    have hcleared : SettingsLaw (clearSettings s) := by
      refine (settingsLaw_iff _).2 ?_
      rw [clearSettings_eq, postEvent_scan hm, postEvent_ret hm, postEvent_cmap hm, postEvent, postAll_rem,
        applySettings_settings]
      exact ⟨defaults_ok, defaultProfiles_ok⟩
    have hmap : SettingsLaw (clearMap (clearSettings s)) := by
      rw [clearMap]; exact (mapApply_settingsKept _ _ (clearSettings s)).law hcleared
    exact SettingsKept.law ⟨by rw [clearCommit_scan], by rw [clearCommit_rem], by rw [clearCommit_ret],
      by rw [clearCommit_cmap]⟩ hmap
  | _ => exact (settingsLaw_iff _).2 ⟨hset, hprofiles⟩

theorem handed_settingsKept {v : State} (hv : Handed s v) : SettingsKept s v := by
  cases hv <;> exact ⟨rfl, rfl, rfl, rfl⟩

theorem doorChanges_settingsKept (d : Door) (isOpen : Bool) (s : State) : SettingsKept s (doorChanges d isOpen s) :=
  ⟨rfl, rfl, rfl, rfl⟩

theorem discarded_settingsKept (c : DiscardCause) (g : Seat → Bool) (s : State) :
    SettingsKept s (postEvent (discardSnapshots c g s)) := by
  refine ⟨?_, ?_, ?_, ?_⟩ <;> simp [postEvent]

theorem loadSections_settingsLaw (straps : BitVec 2) (s : State) : SettingsLaw (copiesLoaded straps s) := by
  refine (settingsLaw_iff _).2 ⟨?_, fun i => ?_⟩
  · exact ((defaults_ok.timing _).reminder _).retained _
  · change ((s.store.stored.goodProfiles.getD defaultProfiles).get i).ok = true
    unfold Stored.goodProfiles
    split
    · split
      · rename_i hall
        exact List.all_eq_true.1 hall i (List.mem_finRange i)
      · exact defaultProfiles_ok i
    · exact defaultProfiles_ok i

theorem Does.settingsLaw {c : Instr} (h : SettingsLaw s) (hd : Does s c t) : SettingsLaw t := by
  cases hd with
  | nothing => exact h
  | reset => exact (settingsLaw_iff _).2 ⟨defaults_ok, defaultProfiles_ok⟩
  | loaded straps hload =>
    have hmap : SettingsLaw (mapLoaded straps s) := (mapApply_settingsKept ..).law (loadSections_settingsLaw straps s)
    rw [loadCompletes_eq straps s hload]
    exact SettingsKept.law ⟨rfl, rfl, rfl, rfl⟩ hmap
  | ignLine level => unfold Machine.ignLine; dsimp only; split <;> exact SettingsKept.law ⟨rfl, rfl, rfl, rfl⟩ h
  | doorLine d level => unfold Machine.doorLine; dsimp only; split <;> exact SettingsKept.law ⟨rfl, rfl, rfl, rfl⟩ h
  | turnedOff => exact (ignitionOff_settingsKept s).law h
  | turnedOn => exact (ignitionOn_settingsKept s).law h
  | doorMoved d isOpen => exact (doorChanges_settingsKept d isOpen s).law h
  | doorDiscards d => exact ((doorChanges_settingsKept d true s).trans (discarded_settingsKept ..)).law h
  | rowIn r => exact (installRow_settingsKept r s).law h
  | rowOut r => exact (removeRow_settingsKept r s).law h
  | intervalExpired => exact (intervalExpires_scanMoves s).settingsKept.law h
  | settled => exact (settleEnds_scanMoves s).settingsKept.law h
  | converted raw anch => exact (conversionCompletes_scanMoves raw anch s).settingsKept.law h
  | markerWaited => exact (pushWaiting_scanMoves s).settingsKept.law h
  | entryDone => exact (entryCompletes_settingsKept s).law h
  | markerTaken => exact (takeBlocked_settingsKept s).law h
  | frameDone => exact (frameFinishes_settingsKept s).law h
  | handled => exact (frameHandled_settingsKept s).law h
  | remStepped => exact ((timerStep_remMoves s).settingsKept (timerStep_settings s)).law h
  | startExpired => exact ((startIntervalExpires_remMoves s).settingsKept (startIntervalExpires_settings s)).law h
  | visualExpired i => exact ((visualExpires_remMoves i s).settingsKept (visualExpires_settings i s)).law h
  | budgetExpired i => exact ((budgetExpires_remMoves i s).settingsKept (budgetExpires_settings i s)).law h
  | speedLost => exact (speedChanges_settingsKept ..).law h
  | retentionExpired => exact (discarded_settingsKept .timer (fun _ => true) s).law h
  | committed passes =>
    exact ((commitCompletes_moves passes s).settingsKept (commitCompletes_quiet passes s).rem).law h
  | clearCommitted passes =>
    exact ((clearCompletes_moves passes s).settingsKept (clearCompletes_quiet passes s).rem).law h
  | linkFailed st code => unfold linkError; dsimp only; split <;> exact SettingsKept.law ⟨rfl, rfl, rfl, rfl⟩ h
  | timedOut => unfold interByteExpires; split <;> exact SettingsKept.law ⟨rfl, rfl, rfl, rfl⟩ h
  | restarted => exact ((restartBlocks_settingsKept s).trans ⟨rfl, rfl, rfl, rfl⟩).law h
  | @answered c v sw a code hready hv ha hsw =>
    have hleft : SettingsLaw a.state := ha.leaves.settingsLaw ((handed_settingsKept hv).law h)
    exact SettingsKept.law ⟨rfl, rfl, rfl, rfl⟩ hleft
  | _ => exact SettingsKept.law ⟨rfl, rfl, rfl, rfl⟩ h

/-! ## While the load is in flight (R165) -/

/-- The map's validity, ignition with its debounces, dispatch and the store's state stand. -/
structure LoadKept (s t : State) : Prop where
  valid : t.cmap.valid = s.cmap.valid
  ret : t.ret = { s.ret with snapshots := t.ret.snapshots, timer := t.ret.timer }
  dispatch : t.lnk.dispatch = s.lnk.dispatch
  loading : t.store.loading = s.store.loading
  commit : t.store.commit = s.store.commit

theorem LoadKept.law (h : LoadKept s t) (hs : LoadingLaw s) : LoadingLaw t := by
  have hign : t.ret.ignition = s.ret.ignition := by rw [h.ret]
  have hdeb : t.ret.ignDebounce = s.ret.ignDebounce := by rw [h.ret]
  have hdoor : t.ret.doorDebounce = s.ret.doorDebounce := by rw [h.ret]
  simp only [LoadingLaw, State.txd, h.valid, hign, hdeb, hdoor, h.dispatch, h.loading, h.commit]
  exact hs

theorem LinkKept.loadKept (h : LinkKept s t) (hvalid : t.cmap.valid = s.cmap.valid)
    (hret : t.ret = { s.ret with snapshots := t.ret.snapshots, timer := t.ret.timer })
    (hcommit : t.store.commit = s.store.commit) : LoadKept s t := by
  refine ⟨hvalid, hret, ?_, h.loading, hcommit⟩
  rw [h.lnk]

theorem ScanMoves.loadKept (h : ScanMoves s t) : LoadKept s t :=
  h.linkKept.loadKept (by rw [h.cmap]) (by rw [h.ret]) (by rw [h.store])

theorem RemMoves.loadKept {r : State × List Notice} (h : RemMoves s r.1) : LoadKept s (postEvent r) :=
  h.posted.loadKept (by rw [postEvent_cmap h]) (by rw [postEvent_ret h]) (by rw [postEvent_store h])

/-- A state that is not loading meets the law. -/
theorem loadingLaw_of_loaded (h : t.store.loading = false) : LoadingLaw t := fun hl => by rw [h] at hl; cases hl

/-- What an event that cannot happen during the load leaves. -/
theorem LinkKept.loadingLaw (h : LinkKept s t) (hnot : s.store.loading = false) : LoadingLaw t :=
  loadingLaw_of_loaded (by rw [h.loading, hnot])

theorem not_loading {p : Prop} (hp : s.store.loading = true → ¬ p) (h : p) : s.store.loading = false := by
  cases hl : s.store.loading
  · rfl
  · exact absurd h (hp hl)

theorem featLook_ret (s : State) : (featLook s).ret = s.ret := by
  by_cases h : s.feat.intake = .idle
  · rw [featLook_idle s h]
  · rw [featLook_busy s h]

theorem entryCompletes_ret (s : State) : (entryCompletes s).ret = s.ret := by
  unfold entryCompletes
  split
  · exact featLook_ret _
  · rfl

theorem takeBlocked_ret (s : State) : (takeBlocked s).ret = s.ret := by
  unfold takeBlocked
  split
  · split
    · exact featLook_ret _
    · rfl
  · rfl

theorem frameFinishes_ret (s : State) : (frameFinishes s).ret = s.ret := by
  by_cases h : ∃ mk bp bc, s.feat.intake = .finishing mk bp bc
  · obtain ⟨mk, bp, bc, h⟩ := h
    rcases hc : completeFrame s.feat.acc s.cmap.seats mk with _ | a
    · rw [frameFinishes_torn h hc]
      exact featLook_ret _
    · rw [frameFinishes_complete h hc]
      exact (featLook_ret _).trans (captureOffer_moves bc mk a (frameOffered bp mk a s)).ret
  · push Not at h
    rw [frameFinishes_idle h]

/-- With no capture open a finished frame starts no commit. -/
theorem frameFinishes_store (hcapture : s.feat.capture = none) : (frameFinishes s).store = s.store := by
  have hoffer (b : Bool) (mk : Marker) (a : Accumulator) (u : State) (hu : u.feat.capture = none) :
      captureOffer b mk a u = u := by simp only [captureOffer, hu]
  unfold frameFinishes
  split
  case h_2 => rfl
  dsimp only
  split
  · rw [featLook_store]
  · rw [featLook_store, hoffer]
    · split <;> rfl
    · exact hcapture

/-- While the load is in flight no capture is open. -/
theorem capture_none_of_loading (h : Laws s) (hload : s.store.loading = true) : s.feat.capture = none := by
  obtain ⟨-, hoff, -, -, -, -, hidle⟩ := h.loading hload
  rcases hc : s.feat.capture with _ | c
  · rfl
  have ok := (captureLaw_iff s).1 h.capture c hc
  have hlive := ok.live (by rw [ok.collecting hidle]; decide)
  rw [hoff] at hlive
  cases hlive.2

theorem Leaves.loading {sw : Bool} (h : Leaves s sw t) : t.store.loading = s.store.loading := by
  cases h with
  | mapWritten => rw [startCommit_store, mapApply_store]; rfl
  | probeArmed i => rw [armProbe_eq]
  | speedReported b => rw [speedChanges_store]
  | remindersSet x => rw [startCommit_store, postEvent_store (applySettings_remMoves ..)]
  | cleared =>
    have h : (clearMap (clearSettings s)).store = (clearSettings s).store := mapApply_store ..
    rw [clearCommit, h, clearSettings_eq, postEvent_store (clearSettings_remMoves s)]
    rfl
  | _ => rfl

theorem Does.loadingLaw {c : Instr} (h : Laws s) (hd : Does s c t) : LoadingLaw t := by
  have hs := h.loading
  have hready (hr : Ready s) : s.store.loading = false := hr.1
  cases hd with
  | nothing => exact hs
  | reset => exact fun _ => ⟨rfl, rfl, rfl, fun d => by simp [fullReset, State.reset, Ret.reset], rfl, rfl, rfl⟩
  | loaded straps hload =>
    refine loadingLaw_of_loaded ?_
    rw [loadCompletes_eq straps s hload]
    change (mapLoaded straps s).store.loading = false
    rw [mapLoaded, mapApply_store]
    rfl
  | ignLine level =>
    unfold Machine.ignLine
    dsimp only
    split
    · exact LoadKept.law ⟨rfl, rfl, rfl, rfl, rfl⟩ hs
    · exact loadingLaw_of_loaded (by simpa using ‹¬ s.store.loading = true›)
  | doorLine d level =>
    unfold Machine.doorLine
    dsimp only
    split
    · exact LoadKept.law ⟨rfl, rfl, rfl, rfl, rfl⟩ hs
    · exact loadingLaw_of_loaded (by simpa using ‹¬ s.store.loading = true›)
  | turnedOff hon =>
    exact (ignitionOff_linkKept s).loadingLaw (not_loading (fun hl => by rw [(hs hl).2.1]; decide) hon)
  | turnedOn hdebounce =>
    exact (ignitionOn_linkKept s).loadingLaw (not_loading (fun hl => by rw [(hs hl).2.2.1]; decide) hdebounce)
  | doorMoved d isOpen =>
    intro hload
    obtain ⟨hvalid, hoff, hign, hdoors, hidle, htxd, hcommit⟩ := hs hload
    refine ⟨hvalid, hoff, hign, fun e => ?_, hidle, htxd, hcommit⟩
    simp only [doorChanges, evaluateHold_ret, Ret.doorSettles, Tab.get_set]
    split
    · rfl
    · exact hdoors e
  | doorDiscards d =>
    have hdoor : LoadingLaw (doorChanges d true s) := by
      intro hload
      obtain ⟨hvalid, hoff, hign, hdoors, hidle, htxd, hcommit⟩ := hs hload
      refine ⟨hvalid, hoff, hign, fun e => ?_, hidle, htxd, hcommit⟩
      simp only [doorChanges, evaluateHold_ret, Ret.doorSettles, Tab.get_set]
      split
      · rfl
      · exact hdoors e
    refine LoadKept.law ⟨?_, ?_, ?_, ?_, ?_⟩ hdoor <;> simp [postEvent, enqueue, Ret.drop]
  | rowIn r hvalid =>
    exact (installRow_linkKept r s).loadingLaw (not_loading (fun hl => by rw [(hs hl).1]; decide) hvalid)
  | rowOut r hvalid =>
    exact (removeRow_linkKept r s).loadingLaw (not_loading (fun hl => by rw [(hs hl).1]; decide) hvalid)
  | intervalExpired => exact (intervalExpires_scanMoves s).loadKept.law hs
  | settled => exact (settleEnds_scanMoves s).loadKept.law hs
  | converted raw anch => exact (conversionCompletes_scanMoves raw anch s).loadKept.law hs
  | markerWaited => exact (pushWaiting_scanMoves s).loadKept.law hs
  | entryDone =>
    have hq := entryCompletes_quiet s
    exact ((entryCompletes_linkKept s).loadKept hq.valid (by rw [entryCompletes_ret]) (by rw [entryCompletes_store])).law hs
  | markerTaken =>
    have hq := takeBlocked_quiet s
    exact ((takeBlocked_linkKept s).loadKept hq.valid (by rw [takeBlocked_ret]) (by rw [takeBlocked_store])).law hs
  | frameDone =>
    by_cases hload : s.store.loading = true
    · have hstore := frameFinishes_store (capture_none_of_loading h hload)
      exact ((frameFinishes_linkKept s).loadKept (frameFinishes_quiet s).valid (by rw [frameFinishes_ret]) (by rw [hstore])).law hs
    · exact (frameFinishes_linkKept s).loadingLaw (by simpa using hload)
  | handled =>
    rcases hf : s.verd.slot with _ | f
    · rw [frameHandled_empty hf]; exact hs
    · exact ((frameHandled_linkKept s).loadKept (by rw [frameHandled_cmap hf]) (by rw [frameHandled_ret hf])
        (by rw [frameHandled_store hf])).law hs
  | remStepped => exact (timerStep_remMoves s).loadKept.law hs
  | startExpired => exact (startIntervalExpires_remMoves s).loadKept.law hs
  | visualExpired i => exact (visualExpires_remMoves i s).loadKept.law hs
  | budgetExpired i => exact (budgetExpires_remMoves i s).loadKept.law hs
  | speedLost =>
    have hm := speedChanges_remMoves none false s
    refine ((speedChanges_linkKept none false s).loadKept ?_ ?_ ?_).law hs
    · exact congrArg CMap.valid (postEvent_cmap (s := speedTaken none false s) hm)
    · have hret : (speedChanges none false s).ret = s.ret := postEvent_ret (s := speedTaken none false s) hm
      rw [hret]
    · exact congrArg Store.commit (postEvent_store (s := speedTaken none false s) hm)
  | retentionExpired =>
    refine LoadKept.law ⟨?_, ?_, ?_, ?_, ?_⟩ hs <;> rw [retentionExpires_eq] <;> simp [enqueue]
  | committed passes =>
    by_cases hload : s.store.loading = true
    · obtain ⟨-, -, -, -, -, -, hidle⟩ := hs hload
      have hsame : commitCompletes passes s = s := by simp only [commitCompletes, hidle]
      rw [hsame]; exact hs
    · exact (commitCompletes_linkKept passes s).loadingLaw (by simpa using hload)
  | clearCommitted passes =>
    by_cases hload : s.store.loading = true
    · obtain ⟨-, -, -, -, -, -, hidle⟩ := hs hload
      have hsame : clearCompletes passes s = s := by simp only [clearCompletes, hidle]
      rw [hsame]; exact hs
    · exact (clearCompletes_linkKept passes s).loadingLaw (by simpa using hload)
  | linkFailed st code hload =>
    refine loadingLaw_of_loaded ?_
    unfold linkError
    dsimp only
    split <;> exact hload
  | timedOut => unfold interByteExpires; split <;> exact LoadKept.law ⟨rfl, rfl, rfl, rfl, rfl⟩ hs
  | replyLeft =>
    intro hload
    obtain ⟨hvalid, hoff, hign, hdoors, -, -, hcommit⟩ := hs hload
    exact ⟨hvalid, hoff, hign, hdoors, rfl, rfl, hcommit⟩
  | restarted hbusy =>
    have hnot : s.store.loading = false := not_loading (fun hl => not_not.2 (hs hl).2.2.2.2.1) hbusy
    exact loadingLaw_of_loaded (by simpa using hnot)
  | @answered c v sw a code hr hv ha hsw =>
    have hleft : a.state.store.loading = s.store.loading := by rw [ha.leaves.loading, handed_store hv]
    exact loadingLaw_of_loaded (hleft.trans (hready hr))
  | _ => exact LoadKept.law ⟨rfl, rfl, rfl, rfl, rfl⟩ hs

theorem retentionTick_settingsKept (s : State) : SettingsKept s (retentionTick s) := by
  rcases retentionTick_cases s with ⟨-, he⟩ | ⟨n, -, -, -, he⟩ | ⟨-, -, -, -, he⟩ <;> rw [he]
  · exact ⟨rfl, rfl, rfl, rfl⟩
  · exact ⟨rfl, rfl, rfl, rfl⟩
  · exact discarded_settingsKept .timer (fun _ => true) s

theorem retentionTick_loadKept (s : State) : LoadKept s (retentionTick s) := by
  rcases retentionTick_cases s with ⟨-, he⟩ | ⟨n, -, -, -, he⟩ | ⟨-, -, -, -, he⟩ <;> rw [he]
  · exact ⟨rfl, rfl, rfl, rfl, rfl⟩
  · exact ⟨rfl, rfl, rfl, rfl, rfl⟩
  · refine ⟨?_, ?_, ?_, ?_, ?_⟩ <;> rw [retentionExpires_eq] <;> simp [enqueue]

/-- Settles O58: the link's laws move with the frame `LinkKept`, the settings with `SettingsKept`, and what a command
does during the load is in `Does.loadingLaw`. -/
theorem everyStepKeepsTheLinkAndSettingsLaws : Obligations.EveryStepKeepsTheLinkAndSettingsLaws := by
  intro s t h ht
  have hlink : LinkLaws t := step_keeps (P := LinkLaws)
    (fun h hd => hd.linkLaws ⟨h.notices, h.receiver, h.transfer, h.reply⟩)
    (fun h => retentionTick_linkLaws ⟨h.notices, h.receiver, h.transfer, h.reply⟩) h ht
  have hsettings : SettingsLaw t := step_keeps (P := SettingsLaw) (fun h hd => hd.settingsLaw h.settings)
    (fun h => (retentionTick_settingsKept _).law h.settings) h ht
  have hloading : LoadingLaw t := step_keeps (P := LoadingLaw) (fun h hd => hd.loadingLaw h)
    (fun h => (retentionTick_loadKept _).law h.loading) h ht
  exact ⟨hlink.notices, hlink.receiver, hlink.transfer, hlink.reply, hsettings, hloading⟩

end Sys2Proof.Machine

/-! SUPPORT. Settles the statements on the full reset, the line changes, the debounces of the doors and the retention
count (O1, O6, O9, O10, O11, O50, O51, O53). -/

namespace Sys2Proof.Machine

open Sys2Proof.Safety

variable {s t u : State}

/-! ## The full reset -/

/-- Settles O53: right after reset is what a full reset leaves. -/
theorem theResetStateMeetsEveryLaw : Obligations.TheResetStateMeetsEveryLaw := by
  unfold Obligations.TheResetStateMeetsEveryLaw
  have hseat : SeatLaws State.reset := fullReset_seatLaws State.reset
  have hadv : AdvLaws State.reset := fullReset_advLaws State.reset
  have hrem : RemLaws State.reset := fullReset_remLaws State.reset
  have hlink : LinkLaws State.reset := fullReset_linkLaws State.reset
  have hcal : CalibrationLaw State.reset := (calibrationLaw_iff _).2 uncalibrated_ok
  exact {
    map := hseat.1, lifecycle := hseat.2.1, verdict := hseat.2.2.1, records := hseat.2.2.2
    mapped := hadv.1, advisory := hadv.2.1, mailbox := hadv.2.2
    reminder := hrem.1, timer := hrem.2.1, start := hrem.2.2.1, summary := hrem.2.2.2
    notices := hlink.notices, receiver := hlink.receiver, transfer := hlink.transfer, reply := hlink.reply
    calibration := hcal, capture := (captureLaw_iff _).2 nofun
    scan := by simp [ScanLaw, State.reset, Scan.reset, CMap.reset]
    queue := by simp [QueueLaw, State.reset, Scan.reset, Feat.reset]
    retention := by simp [RetentionLaw, State.reset, Ret.reset]
    settings := (settingsLaw_iff _).2 ⟨defaults_ok, defaultProfiles_ok⟩
    loading := fun _ => ⟨rfl, rfl, rfl, fun d => by simp [State.reset, Ret.reset], rfl, rfl, rfl⟩ }

/-- Settles O1. -/
theorem fullResetLeavesEveryBlockAtItsResetState : Obligations.FullResetLeavesEveryBlockAtItsResetState := by
  intro s
  refine ⟨fullReset s, rfl, rfl, rfl, rfl, rfl, rfl, rfl, rfl, rfl, rfl, rfl, rfl, rfl, rfl, rfl, rfl, rfl, rfl, rfl, rfl,
    rfl, rfl, fun i => ?_, fun p => ?_, rfl, rfl, rfl, rfl, fun d => ?_, fun i => ?_, rfl, rfl, rfl, rfl, rfl, rfl, rfl, rfl,
    rfl, rfl, rfl, rfl, rfl, rfl, rfl, rfl, fun x _ => cutOff_sections s.store.stored s.store.commit x⟩ <;>
  simp [fullReset, State.reset, Rem.reset, restingReminder, Adv.reset, Ret.reset]

/-! ## Line changes -/

/-- Settles O6. -/
theorem lineChangesRunOrCancelTheirOwnDebounce : Obligations.LineChangesRunOrCancelTheirOwnDebounce := by
  refine ⟨fun s level => ⟨_, rfl, ?_⟩, fun s level d => ⟨_, rfl, ?_, fun e => ⟨?_, ?_⟩⟩⟩
  · unfold ignLine
    cases s.store.loading
    · cases s.ret.ignition <;> cases level <;> rfl
    · rfl
  · unfold doorLine; dsimp only; split <;> rfl
  · unfold doorLine; dsimp only; split <;> simp [Tab.get_set]
  · unfold doorLine
    cases s.store.loading
    · cases level <;> cases s.ret.doorOpen.get d <;> simp [Tab.get_set]
    · simp

/-- Settles O11. -/
theorem rowLineChangeRunsOrCancelsTheDebounceOfItsRow : Obligations.RowLineChangeRunsOrCancelsTheDebounceOfItsRow := by
  intro s line level
  refine ⟨_, rfl, rfl, fun l => by simp [Tab.get_set], fun r => ?_⟩
  simp only [CMap.lineChanged, Tab.get_ofFn]
  by_cases h : s.cmap.valid = true ∧ (s.cmap.rows.get r).removable = true ∧
      (s.cmap.rows.get r).presence.toNat = line.val
  · obtain ⟨hvalid, hrem, hline⟩ := h
    have hwatch : (s.cmap.valid && (s.cmap.rows.get r).lineIs line) = true := by simp [RowRec.lineIs, hvalid, hrem, hline]
    rw [if_pos hwatch, if_pos ⟨hvalid, hrem, hline⟩]
    by_cases hst : s.cmap.rowState.get r = .installed <;> cases level <;> simp [hst]
  · have hwatch : ¬ (s.cmap.valid && (s.cmap.rows.get r).lineIs line) = true := by
      simpa [RowRec.lineIs] using fun a b c => h ⟨a, b, c⟩
    rw [if_neg hwatch, if_neg h]

/-! ## The retention count -/

/-- Settles O50. -/
theorem aStepRunsTheCommandAtTheFront : Obligations.AStepRunsTheCommandAtTheFront := fun _ _ _ => rfl

/-- The notice of a discarding names the seats that held a snapshot and hold none. -/
theorem retentionNotices_drop (c : DiscardCause) (g : Seat → Bool) (h : ∀ i : Seat, t.ret.snapshots.get i =
    if g i = true then none else s.ret.snapshots.get i) :
    retentionNotices (some c) (heldSnapshots s.ret g) = discardNotice c s t := by
  rw [heldSnapshots, retentionNotices_eq, discardNotice]
  congr 1
  funext i
  rw [h]
  cases g i <;> cases s.ret.snapshots.get i <;> rfl

/-- The expiry of the retention timer discards every snapshot under TIMER (R140). -/
theorem retentionExpires_spec (s : State) :
    retentionExpires s = { s with
      ret := { s.ret with snapshots := (retentionExpires s).ret.snapshots, timer := none }
      lnk := enqueue (discardNotice .timer s (retentionExpires s)) s.lnk
      pins := { s.pins with attn := (retentionExpires s).pins.attn } } ∧
    ∀ i : Seat, (retentionExpires s).ret.snapshots.get i = none := by
  have hnone (i : Seat) : (retentionExpires s).ret.snapshots.get i = none := by simp [retentionExpires_eq]
  have hlnk : (retentionExpires s).lnk = enqueue (discardNotice .timer s (retentionExpires s)) s.lnk := by
    rw [← retentionNotices_drop (s := s) .timer (fun _ => true) (by simpa using hnone)]
    simp [retentionExpires_eq]
  refine ⟨?_, hnone⟩
  rw [← hlnk]
  conv_lhs => rw [retentionExpires_eq, postAll_frame]
  simp [retentionExpires_eq]

/-- Settles O10. -/
theorem retentionTimerExpiryDiscardsEverySnapshot : Obligations.RetentionTimerExpiryDiscardsEverySnapshot := by
  refine ⟨fun s hdue => ⟨_, rfl, ?_⟩, fun s hdue => ⟨_, rfl, ?_⟩⟩
  · rcases htimer : s.ret.timer with _ | n
    · simp [htimer] at hdue
    · have hn : n ≤ 1 := by simpa [htimer] using hdue
      simp only [if_pos hn]
      exact retentionExpires_spec s
  · rcases htimer : s.ret.timer with _ | n
    · rfl
    · have hn : ¬ n ≤ 1 := by simpa [htimer] using hdue
      simp only [if_neg hn]

/-- Settles O51. -/
theorem anEmptyQueueStepCountsTheRetentionTimer : Obligations.AnEmptyQueueStepCountsTheRetentionTimer := by
  have hstep (s : State) (hq : s.pending = []) : step s = .next (retentionTick s) := by unfold step; rw [hq]
  refine ⟨fun s n hq hoff htimer hn => ⟨_, hstep s hq, ?_⟩, fun s n hq hoff htimer hn => ⟨_, hstep s hq, ?_⟩,
    fun s hq hstop => ?_⟩
  · rcases retentionTick_cases s with ⟨hstop, -⟩ | ⟨m, -, hm, -, he⟩ | ⟨m, -, hm, hle, -⟩
    · simp [hoff, htimer] at hstop
    · rw [htimer] at hm; cases hm; exact he
    · rw [htimer] at hm; cases hm; omega
  · rcases retentionTick_cases s with ⟨hstop, -⟩ | ⟨m, -, hm, hle, -⟩ | ⟨m, -, hm, -, he⟩
    · simp [hoff, htimer] at hstop
    · rw [htimer] at hm; cases hm; omega
    · rw [he]; exact retentionExpires_spec s
  · rw [hstep s hq]
    rcases retentionTick_cases s with ⟨-, he⟩ | ⟨n, hoff, htimer, -⟩ | ⟨n, hoff, htimer, -⟩
    · rw [he]
    · simp [hoff, htimer] at hstop
    · simp [hoff, htimer] at hstop

/-! ## Doors -/

theorem evaluateHold_evaluated (hverd : u.verd = s.verd) : HoldEvaluated s (evaluateHold u) := fun i => by
  rw [evaluateHold_get, nextHold_eq, hverd]; rfl

/-- An evaluated motion hold stands in a state with the same seats, rows, doors and speed record. -/
theorem holdEvaluated_congr (h : HoldEvaluated s t) (hverd : u.verd.seats = t.verd.seats) (hcmap : u.cmap = t.cmap)
    (hdoor : u.ret.doorOpen = t.ret.doorOpen) (hrem : u.rem.speed = t.rem.speed)
    (hset : u.rem.settings = t.rem.settings) : HoldEvaluated s u := by
  intro i; rw [hverd, h i, hcmap, hdoor, hrem, hset]

theorem doorChanges_doors (d : Door) (isOpen : Bool) (s : State) (e : Door) :
    (doorChanges d isOpen s).ret.doorOpen.get e = (if e = d then isOpen else s.ret.doorOpen.get e) ∧
    (doorChanges d isOpen s).ret.doorDebounce.get e = (if e = d then false else s.ret.doorDebounce.get e) := by
  simp [doorChanges, Ret.doorSettles, Tab.get_set]

/-- Settles O9. -/
theorem doorEventsEvaluateMotionHoldAndDiscardSnapshots : Obligations.DoorEventsEvaluateMotionHoldAndDiscardSnapshots := by
  refine ⟨fun s d hdeb hclosed hoff => ⟨_, rfl, ?_⟩, fun s d hdeb hclosed hon => ⟨doorChanges d true s, ?_, ?_⟩,
    fun s d hdeb hopen => ⟨doorChanges d false s, ?_, ?_⟩⟩
  · simp only [if_pos (And.intro hdeb hclosed), if_pos hoff]
    have hdrop (i : Seat) := drop_get (doorChanges d true s).ret (s.cmap.behindDoor d) i
    refine ⟨holdEvaluated_congr (t := doorChanges d true s) (evaluateHold_evaluated rfl) (by simp [postEvent])
      (by simp [postEvent]) (by simp [postEvent]) (by simp [postEvent]) (by simp [postEvent]), fun e => ?_, fun i => ?_, ?_, ?_, ?_⟩
    · simpa [postEvent] using doorChanges_doors d true s e
    · simp only [postEvent, postAll_ret, discardSnapshots_state, hdrop]
      rfl
    · simp only [postEvent, postAll_ret, discardSnapshots_state, drop_timer]
      rfl
    · rw [postEvent, postAll_lnk]
      congr 1
      refine retentionNotices_drop (.door d) (s.cmap.behindDoor d) fun i => ?_
      rw [postAll_ret]
      exact hdrop i
    · conv_lhs => rw [postEvent, postAll_frame]
      simp [postEvent, doorChanges, Ret.drop, Ret.doorSettles]
  · simp [exec, execDoorOpen, hdeb, hclosed, hon]
  · exact ⟨evaluateHold_evaluated rfl, doorChanges_doors d true s, rfl⟩
  · simp [exec, execDoorClosed, hdeb, hopen]
  · exact ⟨evaluateHold_evaluated rfl, doorChanges_doors d false s, rfl⟩

end Sys2Proof.Machine

/-! SUPPORT. Settles the statements on the pass, the settle wait, the conversions and the markers (O14 to O17). -/

namespace Sys2Proof.Machine

open Sys2Proof.Safety

variable {s t u : State}

/-! ## The scan list (R21) -/

/-- A filtered ascending list starts with the least element that passes, and goes on with the greater ones. -/
theorem filter_eq_least_cons {p : Seat → Bool} {i : Seat} (hi : p i = true) (hbelow : ∀ j : Seat, j < i → p j = false) :
    ∀ l : List Seat, l.Pairwise (· < ·) → i ∈ l → l.filter p = i :: l.filter fun j => decide (i < j) && p j := by
  intro l hsorted hmem
  induction l with
  | nil => cases hmem
  | cons a l ih =>
    obtain ⟨hhead, htail⟩ := List.pairwise_cons.1 hsorted
    rcases List.mem_cons.1 hmem with rfl | hl
    · have hrest : l.filter p = l.filter fun j => decide (i < j) && p j :=
        List.filter_congr fun j hj => by simp [hhead j hj]
      simp [hi, hrest]
    · have hai : a < i := hhead i hl
      have hnot : ¬ i < a := not_lt.2 hai.le
      simp [hbelow a hai, hnot, ih htail hl]

theorem scanned_iff (s : State) (j : Seat) :
    (decide ((s.verd.seats.get j).lifecycle = .active) || decide ((s.verd.seats.get j).lifecycle = .faulted)) = true ↔
      (s.verd.seats.get j).lifecycle = .active ∨ (s.verd.seats.get j).lifecycle = .faulted := by simp

theorem scanList_lowest {i : Seat}
    (hi : (s.verd.seats.get i).lifecycle = .active ∨ (s.verd.seats.get i).lifecycle = .faulted)
    (hbelow : ∀ j : Seat, j < i → (s.verd.seats.get j).lifecycle ≠ .active ∧ (s.verd.seats.get j).lifecycle ≠ .faulted) :
    s.scanList = i :: (List.finRange 16).filter fun j : Seat => decide (i < j) &&
      (decide ((s.verd.seats.get j).lifecycle = .active) || decide ((s.verd.seats.get j).lifecycle = .faulted)) :=
  filter_eq_least_cons ((scanned_iff s i).2 hi) (fun j hj => by simpa using hbelow j hj) _
    (List.pairwise_lt_finRange 16) (List.mem_finRange i)

theorem scanList_empty
    (hall : ∀ j : Seat, (s.verd.seats.get j).lifecycle ≠ .active ∧ (s.verd.seats.get j).lifecycle ≠ .faulted) :
    s.scanList = [] :=
  List.filter_eq_nil_iff.2 fun j _ => by simpa using hall j

/-- SCAN with the interval timer loaded again (R20). -/
def reloaded (s : State) : State :=
  { s with scan := { s.scan with interval := some (max 10000 (min 1000000 (s.scan.timing.p * s.scan.timing.d))) } }

theorem intervalExpires_waiting (hrun : s.scan.interval.isSome = true) (hstate : s.scan.state = .waiting) :
    intervalExpires s = startPass (reloaded s) := by
  obtain ⟨n, hn⟩ := Option.isSome_iff_exists.1 hrun
  unfold intervalExpires
  rw [hn, reloaded, ← interval_eq]
  dsimp only
  split
  · rfl
  · rename_i hpass; rw [hstate] at hpass; cases hpass
  · rename_i hother _; exact absurd hstate hother

/-- Settles O14. -/
theorem intervalExpiryStartsAPassOrCountsAnOverrun : Obligations.IntervalExpiryStartsAPassOrCountsAnOverrun := by
  refine ⟨fun s i hrun hstate hi hbelow => ⟨intervalExpires s, rfl, ?_⟩,
    fun s hrun hstate hall => ⟨intervalExpires s, rfl, ?_⟩,
    fun s hrun hstate => ⟨intervalExpires s, rfl, ?_⟩, fun s hstop => ⟨intervalExpires s, rfl, ?_⟩⟩
  · rw [intervalExpires_waiting hrun hstate, startPass, scanList_lowest (s := reloaded s) hi hbelow]
    rfl
  · rw [intervalExpires_waiting hrun hstate, startPass, scanList_empty (s := reloaded s) hall]
    rfl
  · obtain ⟨n, hn⟩ := Option.isSome_iff_exists.1 hrun
    simp only [intervalExpires, hn, hstate, interval_eq]
  · simp only [intervalExpires, hstop]

/-- Settles O15. -/
theorem settleEndBeginsTheConversionOrFormsTheMarker : Obligations.SettleEndBeginsTheConversionOrFormsTheMarker := by
  refine ⟨fun s st w ch more hstep hphase htodo => ⟨settleEnds s, rfl, ?_⟩,
    fun s st w hstep hphase htodo => ⟨settleEnds s, rfl, ?_⟩,
    fun s hnone => ⟨settleEnds s, rfl, ?_⟩⟩
  · simp only [settleEnds, hstep, hphase, htodo]; rfl
  · simp only [settleEnds, hstep, hphase, htodo, formMarker_eq]
  · rcases hstep : s.scan.step with _ | st
    · simp only [settleEnds, hstep]
    · rcases hphase : st.phase with _ | _ | m
      · simp [hstep, hphase] at hnone
      · simp only [settleEnds, hstep, hphase]
      · simp only [settleEnds, hstep, hphase]

theorem sampled_gain (st : SeatStep) (ch : Channel) (raw : BitVec 12) (s : State) :
    (sampled st ch raw s).scan.gain = s.scan.gain := by unfold sampled; split <;> rfl

theorem sampled_timing (st : SeatStep) (ch : Channel) (raw : BitVec 12) (s : State) :
    (sampled st ch raw s).scan.timing = s.scan.timing := by unfold sampled; split <;> rfl

/-- A conversion of a frame not cut short: its sample delivered, and the next conversion or the marker (R22 to R26). -/
theorem conversionCompletes_uncut {st : SeatStep} {ch : Channel} {more : List Channel} (raw : BitVec 12) (anch : BitVec 8)
    (hstep : s.scan.step = some st) (hphase : st.phase = .convert) (hcut : st.cut = false) (htodo : st.todo = ch :: more) :
    conversionCompletes raw anch s =
      nextConversion { st with todo := more, lost := st.lost || decide (64 ≤ s.scan.queue.length) }
        (sampled st ch raw { s with pins := { s.pins with anch := anch } }) := by
  simp only [conversionCompletes, hstep, hphase, htodo, hcut, Bool.false_eq_true, if_false, deliver_eq]

/-- The next channel is converted at once at its own gain. -/
theorem nextConversion_at_once {st : SeatStep} {ch : Channel} {more : List Channel} (htodo : st.todo = ch :: more)
    (hgain : s.scan.gain = .x1 ∨ ∃ n : Cell, ch = .cell n) :
    nextConversion st s = { s with scan := { s.scan with step := some { st with phase := .convert } } } := by
  have hnow : ¬ (!ch.isCell && decide (s.scan.gain ≠ .x1)) = true := by
    rcases hgain with hx1 | ⟨n, rfl⟩
    · simp [hx1]
    · simp [Channel.isCell]
  simp only [nextConversion, htodo, if_neg hnow]
  rfl

/-- A tension or buckle channel waits for a settled gain of x1. -/
theorem nextConversion_settles {st : SeatStep} {ch : Channel} {more : List Channel} (htodo : st.todo = ch :: more)
    (hgain : s.scan.gain ≠ .x1) (hch : ch = .tension ∨ ch = .buckle) :
    nextConversion st s = { s with scan := { s.scan with
      gain := .x1, step := some { st with phase := .settle s.scan.timing.settle } } } := by
  have hwait : (!ch.isCell && decide (s.scan.gain ≠ .x1)) = true := by
    rcases hch with rfl | rfl <;> simp [Channel.isCell, hgain]
  simp only [nextConversion, htodo, if_pos hwait]

/-- Settles O16. -/
theorem conversionCompletePushesOrLosesItsSample : Obligations.ConversionCompletePushesOrLosesItsSample := by
  refine ⟨fun s st raw anch ch next more hstep hphase hcut htodo hgain => ⟨conversionCompletes raw anch s, rfl, ?_⟩,
    fun s st raw anch ch next more hstep hphase hcut htodo hgain hnext => ⟨conversionCompletes raw anch s, rfl, ?_⟩,
    fun s st raw anch ch hstep hphase hcut htodo => ⟨conversionCompletes raw anch s, rfl, ?_⟩,
    fun s st raw anch ch rest hstep hphase hcut htodo => ⟨conversionCompletes raw anch s, rfl, ?_⟩,
    fun s raw anch hnone => ⟨conversionCompletes raw anch s, rfl, ?_⟩⟩
  · rw [conversionCompletes_uncut raw anch hstep hphase hcut htodo, nextConversion_at_once rfl (by rw [sampled_gain]; exact hgain)]
  · rw [conversionCompletes_uncut raw anch hstep hphase hcut htodo,
      nextConversion_settles rfl (by rw [sampled_gain]; exact hgain) hnext, sampled_timing]
  · rw [conversionCompletes_uncut raw anch hstep hphase hcut htodo, nextConversion, formMarker_eq]
  · simp only [conversionCompletes, hstep, hphase, htodo, hcut, if_true, formMarker_eq]
  · rcases hstep : s.scan.step with _ | st
    · simp only [conversionCompletes, hstep]
    · have hphase : st.phase ≠ .convert := by simpa [hstep] using hnone
      simp only [conversionCompletes, hstep]
      split
      · exact absurd ‹_› hphase
      · rfl

/-- Settles O17. -/
theorem markerPushedWaitsForRoomAndThenGoesOn : Obligations.MarkerPushedWaitsForRoomAndThenGoesOn := by
  refine ⟨fun s st m hstep hphase hroom => ⟨pushWaiting s, rfl, ?_⟩,
    fun s st m hstep hphase hfull => ⟨pushWaiting s, rfl, ?_⟩,
    fun s hnone => ⟨pushWaiting s, rfl, ?_⟩⟩
  · have hfull : ¬ s.scan.full = true := by rw [full_iff]; omega
    simp only [pushWaiting, hstep, hphase, if_neg hfull, afterMarker_push]
  · simp only [pushWaiting, hstep, hphase, if_pos ((full_iff _).2 hfull)]
  · rcases hstep : s.scan.step with _ | st
    · simp only [pushWaiting, hstep]
    · rcases hphase : st.phase with _ | _ | m
      · simp only [pushWaiting, hstep, hphase]
      · simp only [pushWaiting, hstep, hphase]
      · simp [hstep, hphase] at hnone

end Sys2Proof.Machine

/-! SUPPORT. Settles the statements on entries, markers and frames in FEAT (O18 to O21). The frame that an entry meets,
the features of a frame and its completeness are put in the words of the statements first. -/

namespace Sys2Proof.Machine

open Sys2Proof.Safety

variable {s t u : State}

/-! ## Entries (R41, R42) -/

theorem hasReading_eq (a : Accumulator) : a.hasReading = readingOf a := by
  funext ch; cases ch <;> rfl

theorem channelFitted_eq (m : SeatMap) : m.channelFitted = fits m := by
  funext ch; cases ch <;> rfl

theorem takeEntry_eq (acc : Option Accumulator) (m : SeatMap) (e : Sample) (c : CellCal) :
    takeEntry acc m e c = ((frameFor acc e.seat).take m e c, holdsOther acc e.seat) := by
  rcases acc with _ | a
  · rfl
  · by_cases h : a.seat = e.seat
    · simp [takeEntry, frameFor, holdsOther, h]
    · simp [takeEntry, frameFor, holdsOther, h, openFrame]

/-- A fitted channel without a reading in a COLLECTING frame is recorded. -/
theorem take_records {a : Accumulator} {m : SeatMap} {e : Sample} (c : CellCal) (htorn : a.torn = false)
    (hread : readingOf a e.channel = false) (hfits : fits m e.channel = true) : a.take m e c = a.record e.channel e.raw c := by
  simp [Accumulator.take, htorn, hasReading_eq, channelFitted_eq, hread, hfits]

/-- A TORN frame drops an entry; a channel read twice or not fitted tears it. -/
theorem take_tears {a : Accumulator} {m : SeatMap} {e : Sample} (c : CellCal)
    (h : a.torn = true ∨ readingOf a e.channel = true ∨ fits m e.channel = false) :
    a.take m e c = { a with torn := true } := by
  by_cases htorn : a.torn = true
  · rcases a with ⟨seat, torn, cells, tension, buckle, saturated, uncal⟩
    simp only at htorn
    simp [Accumulator.take, htorn]
  · have hbad : (readingOf a e.channel || !fits m e.channel) = true := by simpa [htorn] using h
    simp [Accumulator.take, htorn, hasReading_eq, channelFitted_eq, hbad]

/-- The state after an entry whose frame is then `a`. -/
def entryDone (s : State) (i : Seat) (a : Accumulator) : State :=
  { s with
    feat := { s.feat with intake := (looked s s.scan.queue).1, acc := some a }
    scan := { s.scan with queue := (looked s s.scan.queue).2, tornFlag := s.scan.tornFlag || holdsOther s.feat.acc i } }

theorem entryCompletes_entry {e : Sample} {c : CellCal} (h : s.feat.intake = .entry e c) :
    entryCompletes s = entryDone s e.seat ((frameFor s.feat.acc e.seat).take (s.cmap.seats.get e.seat) e c) := by
  simp only [entryCompletes, h, takeEntry_eq]
  rw [featLook_idle _ rfl]
  rfl

theorem corrected_marked {c : CellCal} (raw : BitVec 12) (h : c.mark = true) :
    corrected c raw = (raw.toNat - c.z.toNat) * c.g.toNat / 256 := by simp [corrected, CellCal.used, h]

/-- Without its mark a cell is read with Z 300 and G 256, a gain of 1 (R48). -/
theorem corrected_unmarked {c : CellCal} (raw : BitVec 12) (h : c.mark = false) : corrected c raw = raw.toNat - 300 := by
  simp [corrected, CellCal.used, h]

theorem cellSaturates_unmarked {c : CellCal} (raw : BitVec 12) (h : c.mark = false) :
    cellSaturates c raw = decide (raw.toNat = 4095) := by
  have hraw := raw.isLt
  have hsmall : ¬ 4095 < raw.toNat - 300 := by omega
  simp [cellSaturates, corrected_unmarked raw h, hsmall]

theorem cellSaturates_marked {c : CellCal} (raw : BitVec 12) (h : c.mark = true) :
    cellSaturates c raw = decide (4095 < (raw.toNat - c.z.toNat) * c.g.toNat / 256 ∨ raw.toNat = 4095) := by
  simp [cellSaturates, corrected_marked raw h]

theorem tensionReading_eq (raw : BitVec 12) : tensionReading raw =
    { raw := raw, t := raw.toNat / 16, valid := decide (32 ≤ raw.toNat ∧ raw.toNat ≠ 4095) } := by
  have hvalid : (!(decide (raw.toNat < 32) || decide (raw.toNat = 4095))) = decide (32 ≤ raw.toNat ∧ raw.toNat ≠ 4095) := by
    rw [Bool.eq_iff_iff]; simp
  rw [tensionReading, hvalid]

theorem bandOf_eq (raw : BitVec 12) : bandOf raw =
    if raw.toNat ≤ 299 then .openCircuit else if raw.toNat ≤ 1599 then .unlatched
    else if raw.toNat ≤ 2999 then .latched else .short := by
  simp only [bandOf, Nat.lt_succ_iff]

/-- Settles O18. -/
theorem entryCompletionRecordsOrTearsTheFrame : Obligations.EntryCompletionRecordsOrTearsTheFrame := by
  have hrecords {s : State} {e : Sample} {c : CellCal} (h : s.feat.intake = .entry e c)
      (htorn : (frameFor s.feat.acc e.seat).torn = false) (hread : readingOf (frameFor s.feat.acc e.seat) e.channel = false)
      (hfits : fits (s.cmap.seats.get e.seat) e.channel = true) {a : Accumulator}
      (ha : (frameFor s.feat.acc e.seat).record e.channel e.raw c = a) :
      exec .entryComplete s = .next (entryDone s e.seat a) := by
    rw [← ha, ← take_records c htorn hread hfits, ← entryCompletes_entry h]; rfl
  refine ⟨fun s e c n h htorn hread hfits hch hmark => ⟨_, hrecords h htorn hread hfits rfl, rfl, ?_⟩,
    fun s e c n h htorn hread hfits hch hmark => ⟨_, hrecords h htorn hread hfits rfl, rfl, ?_⟩,
    fun s e c h htorn hread hfits hch => ⟨_, hrecords h htorn hread hfits rfl, rfl, ?_⟩,
    fun s e c h htorn hread hfits hch => ⟨_, hrecords h htorn hread hfits rfl, rfl, ?_⟩,
    fun s e c h hbad => ⟨entryDone s e.seat { frameFor s.feat.acc e.seat with torn := true }, ?_, rfl, rfl⟩,
    fun s h => ⟨s, ?_, rfl⟩⟩
  · simp [entryDone, hch, Accumulator.record, cellReading, corrected_marked, cellSaturates_marked, hmark]
  · simp [entryDone, hch, Accumulator.record, cellReading, corrected_unmarked, cellSaturates_unmarked, hmark]
  · simp [entryDone, hch, Accumulator.record, tensionReading_eq]
  · simp only [entryDone, hch, Accumulator.record, bandOf_eq]
  · rw [← take_tears c hbad, ← entryCompletes_entry h]; rfl
  · have hnone : entryCompletes s = s := by rcases h with h | h <;> simp only [entryCompletes, h]
    exact congrArg _ hnone

/-! ## Torn frames and blocked markers (R43, R44) -/

/-- The frame at its marker is the accumulator's, unless it is torn. -/
theorem completeFrame_eq (s : State) (mk : Marker) :
    completeFrame s.feat.acc s.cmap.seats mk = if tornAt s mk = true then none else s.feat.acc := by
  rcases ha : s.feat.acc with _ | a
  · simp [completeFrame]
  · have hcomplete : (!a.complete (s.cmap.seats.get mk.seat)) =
        (channelsOf (s.cmap.seats.get mk.seat)).any fun ch => !readingOf a ch := by
      rw [Accumulator.complete, channels_eq, hasReading_eq, List.not_all_eq_any_not]
    simp only [completeFrame, tornAt, ha, hcomplete]

theorem completeFrame_torn {mk : Marker} (h : tornAt s mk = true) : completeFrame s.feat.acc s.cmap.seats mk = none := by
  rw [completeFrame_eq, if_pos h]

theorem completeFrame_complete {mk : Marker} {a : Accumulator} (ha : s.feat.acc = some a) (h : tornAt s mk = false) :
    completeFrame s.feat.acc s.cmap.seats mk = some a := by
  rw [completeFrame_eq, if_neg (by simp [h]), ha]

/-- Settles O19. -/
theorem blockedMarkersAndTornFrames : Obligations.BlockedMarkersAndTornFrames := by
  refine ⟨fun s h hslot => ⟨takeBlocked s, rfl, ?_⟩, fun s h => ⟨takeBlocked s, rfl, ?_⟩,
    fun s mk bp bc h htorn => ⟨frameFinishes s, rfl, ?_⟩, fun s h => ⟨frameFinishes s, rfl, ?_⟩⟩
  · simp only [takeBlocked, h, hslot, Option.isNone_none, if_true]
    rw [featLook_idle _ rfl]
    rfl
  · unfold takeBlocked
    split
    · rename_i hblocked
      have hfull : ¬ s.verd.slot.isNone = true := by
        rcases h with h | h
        · exact absurd hblocked h
        · rw [Option.isNone_iff_eq_none]; exact Option.isSome_iff_ne_none.1 h
      rw [if_neg hfull]
    · rfl
  · rw [frameFinishes_torn h (completeFrame_torn htorn), featLook_idle _ rfl]
    rfl
  · exact frameFinishes_idle fun mk bp bc hf => by rcases h with h | h <;> rw [h] at hf <;> cases hf

/-! ## The features of a frame (R50 to R55) -/

theorem p_eq (a : Accumulator) : a.p = valueOf a := by
  funext n; unfold Accumulator.p valueOf; cases a.cells.get n <;> rfl

theorem isOpen_eq (a : Accumulator) : a.isOpen = openAt a := by
  funext n; unfold Accumulator.isOpen openAt; cases a.cells.get n <;> rfl

theorem loadOf_eq (m : SeatMap) (a : Accumulator) : loadOf m a = loadAt m a := by
  rw [loadOf, Accumulator.sum, p_eq, cellList_eq, loadAt]

theorem contactsOf_eq (m : SeatMap) (p : Profile) (a : Accumulator) : contactsOf m p a = contactsAt m p a := by
  rw [contactsOf, p_eq, cellList_eq, contactsAt]

/-- The outer columns of the mat (R50). -/
theorem outerCell_eq : outerCell = fun n : Cell => decide (n ∈ ([0, 3, 4, 7, 8, 11, 12, 15] : List Cell)) := by decide

theorem railOf_eq (m : SeatMap) (a : Accumulator) : railOf m a = railAt m a := by
  rw [railOf, loadOf_eq, Accumulator.sum, p_eq, cellList_eq, outerCell_eq, railAt]

theorem conditionsOf_eq (m : SeatMap) (p : Profile) (a : Accumulator) : conditionsOf m p a = conditionsAt m p a := by
  rw [conditionsOf, rawMass, loadOf_eq, railOf_eq, someOpenOf, allOpenOf, isOpen_eq, cellList_eq, conditionsAt]
  cases a.tension <;> simp [Bool.and_assoc]

/-- The features of a complete frame in the words of the statements. -/
theorem featuresOf_eq (m : SeatMap) (p : Profile) (a : Accumulator) :
    featuresOf m p a =
      { contacts := contactsAt m p a, load := loadAt m a, mass := min 255 (loadAt m a * p.k.toNat / 4096)
        rail := railAt m a, conditions := conditionsAt m p a } := by
  rw [featuresOf, rawMass, loadOf_eq, contactsOf_eq, railOf_eq, conditionsOf_eq]

/-! ## A complete frame finished (R44 to R46) -/

theorem looked_congr (hcal : t.feat.cal = s.feat.cal) (hslot : t.verd.slot = s.verd.slot) (q : List Entry) :
    looked t q = looked s q := by
  unfold looked calibrationAt; rw [hcal, hslot]

/-- The capture's part of a finished frame: calibration, capture, the commit and a notice. -/
theorem captureOffer_frame (before : Bool) (mk : Marker) (a : Accumulator) (s : State) :
    captureOffer before mk a s = { s with
      feat := { s.feat with cal := (captureOffer before mk a s).feat.cal, capture := (captureOffer before mk a s).feat.capture }
      store := (captureOffer before mk a s).store, lnk := (captureOffer before mk a s).lnk
      pins := { s.pins with attn := (captureOffer before mk a s).pins.attn } } := by
  unfold captureOffer captureEnds
  split
  · split
    · dsimp only
      split
      · rfl
      · split
        · rfl
        · split <;> rfl
    · rfl
  · rfl

section
variable {mk : Marker} {a : Accumulator} {bp bc : Bool}

/-- A complete frame offered to the capture after the probe (R45, R60). -/
def frameCounted (bp bc : Bool) (mk : Marker) (a : Accumulator) (s : State) : State :=
  captureOffer bc mk a (frameOffered bp mk a s)

theorem frameCounted_eq : frameCounted bp bc mk a s = { frameOffered bp mk a s with
    feat := { (frameOffered bp mk a s).feat with
      cal := (frameCounted bp bc mk a s).feat.cal, capture := (frameCounted bp bc mk a s).feat.capture }
    store := (frameCounted bp bc mk a s).store, lnk := (frameCounted bp bc mk a s).lnk
    pins := { s.pins with attn := (frameCounted bp bc mk a s).pins.attn } } :=
  captureOffer_frame bc mk a (frameOffered bp mk a s)

theorem frameFinishes_whole (h : s.feat.intake = .finishing mk bp bc) (ha : s.feat.acc = some a)
    (htorn : tornAt s mk = false) :
    frameFinishes s = { s with
      feat := { intake := (looked (frameFinishes s) s.scan.queue).1, acc := none
                cal := (frameCounted bp bc mk a s).feat.cal, capture := (frameCounted bp bc mk a s).feat.capture }
      scan := { s.scan with queue := (looked (frameFinishes s) s.scan.queue).2, probe := (frameOffered bp mk a s).scan.probe }
      verd := { s.verd with slot := frameInSlot s mk a s.verd.slot }
      store := (frameCounted bp bc mk a s).store, lnk := (frameCounted bp bc mk a s).lnk
      pins := { s.pins with attn := (frameCounted bp bc mk a s).pins.attn } } := by
  have hfin := frameFinishes_complete h (completeFrame_complete ha htorn)
  rw [← frameCounted, frameCounted_eq] at hfin
  generalize frameCounted bp bc mk a s = w at hfin ⊢
  rw [featLook_idle _ rfl] at hfin
  have hlook : looked (frameFinishes s) s.scan.queue = looked { s with
      feat := { s.feat with cal := w.feat.cal }
      verd := { s.verd with slot := frameInSlot s mk a s.verd.slot } } s.scan.queue :=
    looked_congr (by rw [hfin]) (by rw [hfin]; rfl) _
  rw [hlook]
  exact hfin

theorem frameFinishes_fields (h : s.feat.intake = .finishing mk bp bc) (ha : s.feat.acc = some a) (htorn : tornAt s mk = false) :
    (frameFinishes s).feat.cal = (frameCounted bp bc mk a s).feat.cal ∧
    (frameFinishes s).feat.capture = (frameCounted bp bc mk a s).feat.capture ∧
    (frameFinishes s).store = (frameCounted bp bc mk a s).store ∧
    (frameFinishes s).lnk = (frameCounted bp bc mk a s).lnk ∧
    (frameFinishes s).pins = { s.pins with attn := (frameCounted bp bc mk a s).pins.attn } := by
  rw [frameFinishes_whole h ha htorn]
  exact ⟨rfl, rfl, rfl, rfl, rfl⟩

theorem frameFinishes_frame (h : s.feat.intake = .finishing mk bp bc) (ha : s.feat.acc = some a) (htorn : tornAt s mk = false) :
    frameFinishes s = { s with
      feat := { s.feat with intake := (looked (frameFinishes s) s.scan.queue).1, acc := none
                            cal := (frameFinishes s).feat.cal, capture := (frameFinishes s).feat.capture }
      scan := { s.scan with queue := (looked (frameFinishes s) s.scan.queue).2, probe := (frameFinishes s).scan.probe }
      verd := { s.verd with slot := (frameFinishes s).verd.slot }
      store := (frameFinishes s).store, lnk := (frameFinishes s).lnk
      pins := { s.pins with attn := (frameFinishes s).pins.attn } } := by
  have hw := frameFinishes_whole h ha htorn
  obtain ⟨hcal, hcapture, hstore, hlnk, hpins⟩ := frameFinishes_fields h ha htorn
  have hprobe : (frameFinishes s).scan.probe = (frameOffered bp mk a s).scan.probe := by rw [hw]
  have hslot : (frameFinishes s).verd.slot = frameInSlot s mk a s.verd.slot := by rw [hw]
  rw [hcal, hcapture, hstore, hlnk, hpins, hprobe, hslot]
  exact hw

/-- What the capture counts, in the words of the statements (R60). -/
theorem captureOffer_uncounted (a : Accumulator) (h : counts s mk bc = false) : captureOffer bc mk a s = s := by
  unfold captureOffer
  split
  · rename_i c hc
    rw [if_neg]
    intro hcounts
    have : counts s mk bc = true := by
      simp only [Bool.and_eq_true, decide_eq_true_eq] at hcounts
      simp [counts, hc, hcounts]
    rw [h] at this
    cases this
  · rfl

theorem frameCounted_uncounted (a : Accumulator) (bp : Bool) (h : counts s mk bc = false) :
    frameCounted bp bc mk a s = frameOffered bp mk a s :=
  captureOffer_uncounted a h

/-- Settles O20. -/
theorem completeFramesReachTheSlotAndTheProbe : Obligations.CompleteFramesReachTheSlotAndTheProbe := by
  refine ⟨fun s mk a bp bc h ha htorn => ⟨frameFinishes s, rfl, fun honly => ?_, fun honly => ?_, ?_⟩,
    fun s mk a bp bc h ha htorn hcounts => ⟨frameFinishes s, rfl, ?_⟩⟩
  · rw [frameFinishes_whole h ha htorn, frameInSlot, if_pos honly]
  · rw [frameFinishes_whole h ha htorn, frameInSlot, honly, featuresAt, featuresOf_eq]
    rfl
  · rw [frameFinishes_whole h ha htorn, frameOffered, featuresAt, featuresOf_eq, offer_eq]
    rfl
  · have hw := frameFinishes_whole h ha htorn
    rw [frameCounted_uncounted a bp hcounts] at hw
    have hprobe : (frameFinishes s).scan.probe = (frameOffered bp mk a s).scan.probe := by rw [hw]
    have hslot : (frameFinishes s).verd.slot = frameInSlot s mk a s.verd.slot := by rw [hw]
    rw [hprobe, hslot]
    exact hw

/-! ## The zero capture (R60) -/

theorem captureOffer_counted {c : Capture} (a : Accumulator) (hc : s.feat.capture = some c) (h : counts s mk bc = true) :
    c.seat = mk.seat ∧ captureOffer bc mk a s =
      if c.count + 1 < 4 then
        { s with feat := { s.feat with capture := some (c.add (s.cmap.seats.get mk.seat) a) } }
      else captureEnds (c.add (s.cmap.seats.get mk.seat) a) s := by
  simp only [counts, hc, Option.any_some, Bool.and_eq_true, decide_eq_true_eq, Bool.not_eq_true'] at h
  obtain ⟨⟨honly, hbefore⟩, hstate, hseat⟩ := h
  refine ⟨hseat, ?_⟩
  simp only [captureOffer, hc, hstate, hseat, honly, hbefore, decide_true, Bool.not_false, Bool.and_self, if_true]
  rfl

theorem cellFitted_iff (m : SeatMap) (n : Cell) : m.cellFitted n = true ↔ m.fitted = true ∧ m.cells.getLsbD n.val = true := by
  simp [SeatMap.cellFitted]

theorem add_sums (c : Capture) (m : SeatMap) (a : Accumulator) (n : Cell) :
    (c.add m a).sums.get n = if m.fitted = true ∧ m.cells.getLsbD n.val = true then
      c.sums.get n + ((a.cells.get n).map fun x => x.raw.toNat).getD 0 else c.sums.get n := by
  simp only [Capture.add, Tab.get_ofFn, cellFitted_iff]
  cases a.cells.get n <;> rfl

theorem averages_get (c : Capture) (m : SeatMap) (a : Accumulator) (n : Cell)
    (hn : m.fitted = true ∧ m.cells.getLsbD n.val = true) :
    (c.add m a).averages.get n = (c.sums.get n + ((a.cells.get n).map fun x => x.raw.toNat).getD 0) / 4 := by
  rw [Capture.averages, Tab.get_ofFn, add_sums, if_pos hn]

theorem offsetsInRange_averages (c : Capture) (m : SeatMap) (a : Accumulator) :
    offsetsInRange m (c.add m a).averages = true ↔
      ∀ n : Cell, (m.fitted = true ∧ m.cells.getLsbD n.val = true) →
        64 ≤ (c.sums.get n + ((a.cells.get n).map fun x => x.raw.toNat).getD 0) / 4 ∧
        (c.sums.get n + ((a.cells.get n).map fun x => x.raw.toNat).getD 0) / 4 ≤ 1023 := by
  simp only [offsetsInRange, List.all_eq_true, SeatMap.cellList, List.mem_filter, List.mem_finRange, true_and,
    cellFitted_iff]
  refine forall₂_congr fun n hn => ?_
  rw [averages_get c m a n hn]
  simp [inRange]

/-- An offset out of range closes the capture with RANGE. -/
theorem captureEnds_outside {c : Capture} (h : ¬ offsetsInRange (s.cmap.seats.get c.seat) c.averages = true) :
    captureEnds c s = post (.calibration c.seat .range) (closeCapture s) := by
  simp only [captureEnds, h, Bool.not_false, if_true]

/-- With the store committing the offsets wait. -/
theorem captureEnds_waits {c : Capture} (h : offsetsInRange (s.cmap.seats.get c.seat) c.averages = true)
    (hbusy : s.store.commit ≠ .idle) : captureEnds c s =
      { s with feat := { s.feat with capture := some { c with state := .waitingStore, offsets := some c.averages } } } := by
  have hcommitting : s.store.committing = true := by
    rw [← Bool.not_eq_false, committing_false_iff]; exact hbusy
  simp only [captureEnds, h, hcommitting, Bool.not_true, Bool.false_eq_true, if_false, if_true]

theorem captureEnds_commits {c : Capture} (h : offsetsInRange (s.cmap.seats.get c.seat) c.averages = true)
    (hidle : s.store.commit = .idle) : captureEnds c s = captureCommits c c.averages s := by
  have hcommitting : s.store.committing = false := (committing_false_iff _).2 hidle
  simp only [captureEnds, h, hcommitting, Bool.not_true, Bool.false_eq_true, if_false]

/-- The fourth counted frame ends the capture. -/
theorem frameCounted_fourth {c : Capture} (a : Accumulator) (bp : Bool) (hc : s.feat.capture = some c)
    (h : counts s mk bc = true) (hcount : c.count = 3) : c.seat = mk.seat ∧ frameCounted bp bc mk a s =
      captureEnds (c.add (s.cmap.seats.get mk.seat) a) (frameOffered bp mk a s) := by
  obtain ⟨hseat, hoffer⟩ := captureOffer_counted (s := frameOffered bp mk a s) a hc h
  rw [if_neg (by omega)] at hoffer
  exact ⟨hseat, hoffer⟩

/-- The range test of the fourth frame, at the seat of the capture. -/
theorem offsetsInRange_fourth {c : Capture} (a : Accumulator) (bp : Bool) (hseat : c.seat = mk.seat) :
    offsetsInRange ((frameOffered bp mk a s).cmap.seats.get (c.add (s.cmap.seats.get mk.seat) a).seat)
      (c.add (s.cmap.seats.get mk.seat) a).averages = true ↔
    ∀ n : Cell, ((s.cmap.seats.get mk.seat).fitted = true ∧ (s.cmap.seats.get mk.seat).cells.getLsbD n.val = true) →
      64 ≤ (c.sums.get n + ((a.cells.get n).map fun x => x.raw.toNat).getD 0) / 4 ∧
      (c.sums.get n + ((a.cells.get n).map fun x => x.raw.toNat).getD 0) / 4 ≤ 1023 := by
  rw [← offsetsInRange_averages]
  change offsetsInRange (s.cmap.seats.get c.seat) _ = true ↔ _
  rw [hseat]

/-- Settles O21. -/
theorem zeroCaptureCountsFramesAndEndsAtTheFourth : Obligations.ZeroCaptureCountsFramesAndEndsAtTheFourth := by
  refine ⟨fun s mk a c bp bc h ha htorn hcounts hc hcount => ⟨frameFinishes s, rfl, ?_⟩,
    fun s mk a c bp bc h ha htorn hcounts hc hcount hrange => ⟨frameFinishes s, rfl, ?_⟩,
    fun s mk a c bp bc h ha htorn hcounts hc hcount hrange hidle => ⟨frameFinishes s, rfl, ?_⟩,
    fun s mk a c bp bc h ha htorn hcounts hc hcount hrange hbusy => ⟨frameFinishes s, rfl, ?_⟩⟩ <;>
  obtain ⟨hcal, hcapture, hstore, hlnk, hpins⟩ := frameFinishes_fields h ha htorn
  · obtain ⟨hseat, hoffer⟩ := captureOffer_counted (s := frameOffered bp mk a s) a hc hcounts
    rw [if_pos (by omega)] at hoffer
    rw [frameCounted, hoffer] at hcal hcapture hstore hlnk hpins
    exact ⟨by rw [hcapture]; rfl, fun n => by rw [hcapture]; exact congrArg some (add_sums c _ a n), hcal, hstore, hlnk, hpins,
      frameFinishes_frame h ha htorn⟩
  · obtain ⟨hseat, hends⟩ := frameCounted_fourth a bp hc hcounts hcount
    rw [captureEnds_outside (mt (offsetsInRange_fourth a bp hseat).1 hrange)] at hends
    rw [hends] at hcal hcapture hstore hlnk
    exact ⟨hcapture, hcal, hstore, by rw [hlnk, ← hseat]; exact Lnk.post_eq_enqueue .., frameFinishes_frame h ha htorn⟩
  · obtain ⟨hseat, hends⟩ := frameCounted_fourth a bp hc hcounts hcount
    rw [captureEnds_commits ((offsetsInRange_fourth a bp hseat).2 hrange) hidle] at hends
    rw [hends] at hcal hcapture hstore hlnk
    have hwritten : (frameFinishes s).feat.cal = s.feat.cal.set mk.seat (applyOffsets (s.cmap.seats.get mk.seat)
        (c.add (s.cmap.seats.get mk.seat) a).averages (s.feat.cal.get mk.seat)) := by
      rw [hcal, ← hseat]; rfl
    refine ⟨by rw [hcapture]; rfl, ?_, by rw [hcapture]; rfl, fun i hi => ?_, fun n => ?_, ?_, hlnk,
      frameFinishes_frame h ha htorn⟩
    · rw [hcapture]; exact congrArg some hseat
    · rw [hwritten, Tab.get_set, if_neg hi]
    · rw [hwritten, Tab.get_set, if_pos rfl, applyOffsets, Tab.get_ofFn]
      simp only [cellFitted_iff]
      split
      · rw [averages_get c _ a n ‹_›]
      · rfl
    · rw [hstore, hcal]; rfl
  · obtain ⟨hseat, hends⟩ := frameCounted_fourth a bp hc hcounts hcount
    rw [captureEnds_waits ((offsetsInRange_fourth a bp hseat).2 hrange) hbusy] at hends
    rw [hends] at hcal hcapture hstore hlnk
    refine ⟨by rw [hcapture]; rfl, ?_, fun n hn => ?_, hcal, hstore, hlnk, frameFinishes_frame h ha htorn⟩
    · rw [hcapture]; exact congrArg some hseat
    · rw [hcapture]; exact congrArg some (averages_get c _ a n hn)

end

end Sys2Proof.Machine

/-! SUPPORT. What a map apply leaves, in the words of the statements (R7, R8): fresh records, rested reminders and reported
positions. -/

namespace Sys2Proof.Machine

open Sys2Proof.Safety

variable {s t u : State}

/-! ## Fresh records and rested reminders -/

theorem anchorLine_isSome (m : SeatMap) : m.anchorLine.isSome = decide (m.anchor.toNat < 8) := by
  unfold SeatMap.anchorLine; split <;> simp_all

theorem freshSeat_isFresh (m : SeatMap) (l : Lifecycle) : IsFresh m (freshSeat m l) := by
  simp [IsFresh, freshSeat, anchorLine_isSome]

/-- A fresh record is unknown to REM when its seat is presumed with a buckle fitted, and not reminded otherwise. -/
theorem caseOf_fresh (m : SeatMap) (l : Lifecycle) (hl : l ≠ .faulted) : caseOf m (freshSeat m l) =
    if l = .active ∧ m.presume = true ∧ (m.fitted = true ∧ m.buckle = true) then .buckleUnknown else .notReminded := by
  by_cases hb : m.fitted = true ∧ m.buckle = true
  · cases l <;> cases hp : m.presume <;> simp_all [caseOf, freshSeat, personOccupied]
  · have hun : (freshSeat m l).buckle = .unfitted := by simp [freshSeat, hb]
    rw [if_neg (by tauto), caseOf]
    simp [hun]

theorem lifecycleOf_not_faulted (c : CMap) (i : Seat) : c.lifecycleOf i ≠ .faulted := by
  unfold CMap.lifecycleOf; dsimp only; split
  · simp
  · split <;> simp

theorem lifecycleOf_active_fitted {c : CMap} {i : Seat} (h : c.lifecycleOf i = .active) : (c.seats.get i).fitted = true := by
  unfold CMap.lifecycleOf at h
  dsimp only at h
  split at h
  · cases h
  · simp_all

/-- The reminder of a fresh seat: ARMED for a presumed ACTIVE seat with a buckle, with ignition ON, and NONE otherwise. -/
def freshReminder (ign : Ignition) (m : SeatMap) (l : Lifecycle) (tChime : Nat) : ReminderRec :=
  { state := if ign = .on ∧ l = .active ∧ m.presume = true ∧ m.buckle = true then .armed else .none
    visual := 0, budget := 10 * tChime }

/-- Every record rested and then every fresh seat evaluated (R117, R118). -/
theorem rested_get (hseats : s.verd.seats = s.cmap.freshSeats) (htable : s.rem.table = s.restedTable fun _ => true)
    (i : Seat) : (evaluateReminders (fun _ => true) s).1.rem.table.get i =
      freshReminder s.ret.ignition (s.cmap.seats.get i) (s.cmap.lifecycleOf i) s.rem.settings.tChime := by
  have hrest : s.rem.table.get i = restingReminder s.rem.settings.tChime := by rw [htable]; simp [State.restedTable]
  have hrec : s.verd.seats.get i = freshSeat (s.cmap.seats.get i) (s.cmap.lifecycleOf i) := by
    rw [hseats]; simp [CMap.freshSeats]
  rw [evaluateReminders_state, State.withTable_rem]
  cases hign : s.ret.ignition with
  | off => rw [evaluatedTable_off _ _ hign, hrest]; simp [freshReminder, restingReminder, steps, Nat.mul_comm]
  | on =>
    rw [evaluatedTable_on _ _ hign, if_pos rfl, hrest, hrec, caseOf_fresh _ _ (lifecycleOf_not_faulted s.cmap i)]
    by_cases harmed : s.cmap.lifecycleOf i = .active ∧ (s.cmap.seats.get i).presume = true ∧ (s.cmap.seats.get i).buckle = true
    · obtain ⟨hactive, hpresume, hbuckle⟩ := harmed
      have hfitted := lifecycleOf_active_fitted hactive
      simp [freshReminder, hactive, hpresume, hbuckle, hfitted, moveReminder, restingReminder, ReminderRec.to, steps,
        Nat.mul_comm]
    · rw [if_neg (fun h => harmed ⟨h.1, h.2.1, h.2.2.2⟩)]
      simp [freshReminder, harmed, moveReminder, restingReminder, ReminderRec.to, steps, Nat.mul_comm]

/-! ## The map apply -/

theorem mapApply_rem (recs : MapRecs) (valid : Bool) (s : State) :
    (mapApply recs valid s).rem = (mapReminded recs valid s).1.rem := by
  rw [mapApply_eq, postMerged_rem, (advApply_advMoves _).rem]; rfl

theorem mapApply_table (recs : MapRecs) (valid : Bool) (s : State) (i : Seat) :
    (mapApply recs valid s).rem.table.get i = freshReminder s.ret.ignition (recs.seats.get i)
      ((s.cmap.applied s.pins recs valid).lifecycleOf i) s.rem.settings.tChime := by
  rw [mapApply_rem]
  let u := withFeat (featFlush (mapScanned recs valid s).feat).1 (mapScanned recs valid s)
  exact rested_get (s := u.withTable (u.restedTable fun _ => true)) rfl (by simp [State.restedTable]) i

theorem mapReminded_cmap (recs : MapRecs) (valid : Bool) (s : State) :
    (mapReminded recs valid s).1.cmap = (mapApply recs valid s).cmap := by
  rw [mapApply_eq, postMerged_cmap, (advApply_advMoves _).cmap]; rfl

theorem mapReminded_verd (recs : MapRecs) (valid : Bool) (s : State) :
    (mapReminded recs valid s).1.verd = (mapApply recs valid s).verd := by
  rw [mapApply_eq, postMerged_verd, (advApply_advMoves _).verd]; rfl

theorem mapApply_summary (recs : MapRecs) (valid : Bool) (s : State) : SummaryLaw (mapApply recs valid s) := by
  have h : SummaryLaw (mapReminded recs valid s).1 := refreshSummary_law _
  simp only [SummaryLaw, mapApply_rem, ← mapReminded_cmap, ← mapReminded_verd]
  exact h

theorem mapApply_pins (recs : MapRecs) (valid : Bool) (s : State) :
    (mapApply recs valid s).pins =
      { s.pins with sup := (mapApply recs valid s).pins.sup, attn := (mapApply recs valid s).pins.attn } := by
  have hforgotten : (mapForgotten recs valid s).1.pins = s.pins := by
    simp [mapForgotten, mapReminded, (remApply_remMoves _).pins, mapScanned]
  have hadv : (advApply (mapForgotten recs valid s).1).pins = { s.pins with
      sup := (advApply (mapForgotten recs valid s).1).pins.sup, attn := (advApply (mapForgotten recs valid s).1).pins.attn } := by
    rw [← hforgotten]
    exact congrArg State.pins (advApply_advMoves (mapForgotten recs valid s).1)
  rw [mapApply_eq, postMerged, postAll_pins_frame, hadv]

theorem presenceLevel_iff (p : Pins) (r : RowRec) (hr : r.removable = true) :
    p.presenceLevel r = true ↔ ∃ l : Line, r.presence.toNat = l.val ∧ p.rowp.get l = true := by
  simp [Pins.presenceLevel, RowRec.lineIs, hr]

/-- SCAN between passes, field by field (R18, R20, R30). -/
theorem settled_eq (c : Scan) (valid : Bool) (ign : Ignition) : c.settled valid ign = { c with
    state := if valid = false then .halted else if ign = .on then .waiting else .stopped
    interval := if valid = true ∧ ign = .on then some (max 10000 (min 1000000 (c.timing.p * c.timing.d))) else none
    closing := false, visited := [], step := none, rest := [] } := by
  cases valid <;> cases ign <;> simp [Scan.settled, Scan.atRest, interval_eq]

/-- SCAN after a map apply, in the words of the statements. -/
theorem mapApply_scan_eq (recs : MapRecs) (valid : Bool) (s : State) : (mapApply recs valid s).scan = { s.scan with
    state := if valid = false then .halted else if s.ret.ignition = .on then .waiting else .stopped
    interval := if valid = true ∧ s.ret.ignition = .on then some (max 10000 (min 1000000 (s.scan.timing.p * s.scan.timing.d)))
      else none
    closing := false, visited := [], step := none, rest := [], queue := []
    probe := match s.scan.probe with
      | .free report => .free report
      | .armed _ _ => .free (some .map)
      | .filled _ => .free (some .map) } := by
  rw [mapApply_scan, settled_eq]
  cases s.scan.probe <;> rfl

/-- A fresh record's advisory: SUPPRESS for an ACTIVE seat, FAULT otherwise. -/
theorem mapApply_value (recs : MapRecs) (valid : Bool) (s : State) (p : Pos) :
    ((mapApply recs valid s).adv.positions.get p).value =
      advisoryValue (mapApply recs valid s).verd.seats ((mapApply recs valid s).adv.positions.get p).seat := by
  have hverd : (advMapped recs valid s).verd = (mapApply recs valid s).verd := (mapReminded_verd recs valid s)
  rw [mapApply_adv, advBoth_value, hverd, advBoth_seat]

/-- The lifecycle that the map and the row states give (R13). -/
theorem lifecycleOf_eq (c : CMap) (i : Seat) : c.lifecycleOf i =
    if c.valid = true ∧ (c.seats.get i).fitted = true then
      if c.rowState.get (c.seats.get i).rowIx = .removed then .absent else .active
    else .unmapped := by
  simp only [CMap.lifecycleOf]
  by_cases hmapped : c.valid = true ∧ (c.seats.get i).fitted = true
  · simp [hmapped]
  · rw [if_neg hmapped, if_pos]
    cases hv : c.valid
    · rfl
    · simpa [hv] using hmapped

/-- The lifecycles of an applied map (R7, R13). -/
theorem lifecycleOf_applied (c : CMap) (p : Pins) (recs : MapRecs) (valid : Bool) (i : Seat) :
    (c.applied p recs valid).lifecycleOf i =
      if valid = true ∧ (recs.seats.get i).fitted = true then
        if (recs.rows.get (recs.seats.get i).rowIx).removable = true then .absent else .active
      else .unmapped := by
  rw [lifecycleOf_eq]
  simp only [CMap.applied, Tab.get_ofFn]
  split
  · rename_i hmapped
    cases (recs.rows.get (recs.seats.get i).rowIx).removable <;> simp [hmapped.1]
  · rfl

theorem mapApply_justApplied (recs : MapRecs) (valid : Bool) (s : State) : JustApplied (mapApply recs valid s) := by
  have hrowp : (mapApply recs valid s).pins.rowp = s.pins.rowp := by rw [mapApply_pins]
  have hign : (mapApply recs valid s).ret.ignition = s.ret.ignition := by rw [mapApply_ret]; rfl
  have hset : (mapApply recs valid s).rem.settings = s.rem.settings := by rw [mapApply_rem_frame]
  have htiming : (mapApply recs valid s).scan.timing = s.scan.timing := by
    rw [mapApply_scan_eq]
  have hlife (i : Seat) : ((mapApply recs valid s).verd.seats.get i) =
      freshSeat (recs.seats.get i) ((s.cmap.applied s.pins recs valid).lifecycleOf i) := by
    rw [mapApply_verd]; simp [CMap.freshSeats, CMap.applied]
  refine ⟨fun r => ⟨?_, ?_⟩, fun i => ⟨?_, ?_, ?_, ?_, ?_, ?_⟩, ?_, ?_, ?_, ?_, ?_, ?_, ?_, ?_, ?_, ?_, ?_, ?_, ?_,
    mapApply_summary recs valid s, fun p => ⟨?_, fun hp => ?_, fun i hi => ?_⟩⟩
  · rw [mapApply_cmap]; simp [CMap.applied]
  · rw [mapApply_cmap, hrowp]
    simp only [CMap.applied, Tab.get_ofFn, Bool.and_eq_true, and_assoc]
    refine and_congr_right fun _ => and_congr_right fun hr => ?_
    exact presenceLevel_iff _ _ hr
  · rw [hlife, mapApply_cmap]
    exact lifecycleOf_applied ..
  · rw [hlife, mapApply_cmap]; exact freshSeat_isFresh ..
  · rw [mapApply_table]; rfl
  · rw [mapApply_table, hset]; rfl
  · rw [mapApply_table, hlife, mapApply_cmap, hign]; rfl
  · rw [mapApply_ret, drop_get]; rfl
  · rw [mapApply_verd]
  · rw [mapApply_scan_eq]
  · rw [mapApply_scan_eq]
  · rw [mapApply_scan_eq]; cases s.scan.probe <;> rfl
  · rw [mapApply_scan_eq, mapApply_cmap, hign]; rfl
  · rw [htiming, mapApply_scan_eq, mapApply_cmap, hign]; rfl
  · rw [mapApply_scan_eq]
  · rw [mapApply_scan_eq]
  · rw [mapApply_scan_eq]
  · rw [mapApply_feat]
  · rw [mapApply_feat]
  · rw [mapApply_feat]
  · rw [mapApply_ret, drop_timer, if_neg]; simp [everySeat]
  · rw [mapApply_mapped, mapApply_cmap]
  · rw [mapApply_value, hp]; rfl
  · rw [mapApply_value, hi]
    have hunknown : ((mapApply recs valid s).verd.seats.get i).confirmed = .unknown := by rw [hlife]; rfl
    simp only [advisoryValue, hunknown]
    cases ((mapApply recs valid s).verd.seats.get i).lifecycle <;> rfl

/-- A report reads the values, the pairs and the mailbox before, and ADV and the records after. -/
theorem positionsReported_congr {a b : State} (h : PositionsReported a b)
    (hvalue : ∀ p, (a.adv.positions.get p).value = (s.adv.positions.get p).value) (hsup : a.pins.sup = s.pins.sup)
    (hmail : a.adv.mailbox = s.adv.mailbox) (hover : a.adv.superseded = s.adv.superseded)
    (hadv : t.adv = b.adv) (hpairs : t.pins.sup = b.pins.sup) (hverd : t.verd = b.verd) : PositionsReported s t := by
  simp only [PositionsReported, recordAtPosition, hvalue, hsup, hmail, hover] at h
  simp only [PositionsReported, recordAtPosition, hadv, hpairs, hverd]
  exact h

/-- The probe and the positions after a map apply, from the state before (R36, R124 to R128). -/
theorem mapApply_reached (recs : MapRecs) (valid : Bool) (s : State) : ApplyReached s (mapApply recs valid s) := by
  have hboth := advBoth_reported (advMapped recs valid s)
  refine ⟨congrArg Scan.probe (mapApply_scan_eq recs valid s), by rw [mapApply_scan_eq], by rw [mapApply_scan_eq], ?_⟩
  refine positionsReported_congr hboth (fun p => ?_) (mapForgotten_sup recs valid s) ?_ ?_ (mapApply_adv ..) (mapApply_sup ..) ?_
  · simp [advMapped, mapForgotten_adv]
  · simp [advMapped, mapForgotten_adv]
  · simp [advMapped, mapForgotten_adv]
  · rw [(advBoth_advMoves _).verd, ← mapReminded_verd]; rfl

end Sys2Proof.Machine

/-! SUPPORT. Settles the statements on the full-reset load and on the commits (O2 to O5). -/

namespace Sys2Proof.Machine

open Sys2Proof.Safety

variable {s t u : State}

/-! ## The working copies that the load fills (R165) -/

theorem loadCompletes_copies (straps : BitVec 2) (hload : s.store.loading = true) :
    (loadCompletes straps s).store = (copiesLoaded straps s).store ∧
    (loadCompletes straps s).cmap.profiles = (copiesLoaded straps s).cmap.profiles ∧
    (loadCompletes straps s).cmap.strap = straps ∧
    (loadCompletes straps s).scan.timing = (copiesLoaded straps s).scan.timing ∧
    (loadCompletes straps s).rem.settings = (copiesLoaded straps s).rem.settings ∧
    (loadCompletes straps s).feat.cal = (copiesLoaded straps s).feat.cal ∧
    (loadCompletes straps s).ret = ((copiesLoaded straps s).ret.drop everySeat).watch s.pins := by
  have hpins : (mapLoaded straps s).pins = { s.pins with
      sup := (mapLoaded straps s).pins.sup, attn := (mapLoaded straps s).pins.attn } := mapApply_pins ..
  have hstore : (mapLoaded straps s).store = (copiesLoaded straps s).store := mapApply_store ..
  have hret : (mapLoaded straps s).ret = (copiesLoaded straps s).ret.drop everySeat := mapApply_ret ..
  rw [loadCompletes_eq straps s hload]
  refine ⟨hstore, ?_, ?_, ?_, ?_, ?_, ?_⟩ <;> dsimp only
  · rw [mapLoaded, mapApply_cmap]; rfl
  · rw [mapLoaded, mapApply_cmap]; rfl
  · rw [mapLoaded, mapApply_scan_eq]
  · rw [mapLoaded, mapApply_rem_frame]
  · rw [mapLoaded, mapApply_feat]
  · rw [hret, hpins]; rfl

/-- Every profile of a table passes when every index's does. -/
theorem all_ok_cells (ps : Tab 4 Profile) : ((List.finRange 4).all fun i => (ps.get i).ok) = ps.cells.all Profile.ok := by
  rcases ps with ⟨cells, size⟩
  match cells, size with
  | [_, _, _, _], _ => rfl

/-- The profiles section as loaded: its content when every profile is in range and ordered (R165). -/
theorem goodProfiles_eq (d : Stored) : d.goodProfiles = d.profiles.filter fun ps => ps.cells.all Profile.ok := by
  unfold Stored.goodProfiles
  rcases d.profiles with _ | ps
  · rfl
  · simp only [all_ok_cells, Option.filter_some]

/-- The profiles flag and the working profiles after the load. -/
theorem profiles_loaded (d : Stored) :
    d.goodProfiles.isSome = (d.profiles.any fun ps => ps.cells.all Profile.ok) ∧
    (d.goodProfiles.isSome = true → some (d.goodProfiles.getD defaultProfiles) = d.profiles) ∧
    (d.goodProfiles.isSome = false → ∀ i : ProfileIx, (d.goodProfiles.getD defaultProfiles).get i = defaultProfile i) := by
  rw [goodProfiles_eq]
  rcases d.profiles with _ | ps
  · simp [defaultProfiles]
  · by_cases h : ps.cells.all Profile.ok = true
    · simp only [Option.filter_some, if_pos h]
      exact ⟨h.symm, fun _ => rfl, nofun⟩
    · simp only [Option.filter_some, if_neg h]
      exact ⟨(Bool.eq_false_iff.2 h).symm, nofun, fun _ i => by simp [defaultProfiles]⟩

theorem timing_loaded (x : Option Timing) :
    (x.getD defaultTiming).clamped.p = max 2 (min 1000 ((x.map Timing.p).getD 1000)) ∧
    (x.getD defaultTiming).clamped.d = max 2 (min 65535 ((x.map Timing.d).getD 50)) ∧
    (x.getD defaultTiming).clamped.settle = max 20 (min 500 ((x.map Timing.settle).getD 100)) := by
  cases x <;> simp [Timing.clamped, clamp_eq, defaultTiming]

theorem reminder_loaded (x : Option (ReminderSettings × Nat)) :
    (x.getD (defaultSettings, defaultRetain)).1.clamped.vRemind = max 5 (min 60 ((x.map fun r => r.1.vRemind).getD 20)) ∧
    (x.getD (defaultSettings, defaultRetain)).1.clamped.vHold = max 3 (min 60 ((x.map fun r => r.1.vHold).getD 10)) ∧
    (x.getD (defaultSettings, defaultRetain)).1.clamped.tStart = max 10 (min 300 ((x.map fun r => r.1.tStart).getD 60)) ∧
    (x.getD (defaultSettings, defaultRetain)).1.clamped.tVisual = min 60 ((x.map fun r => r.1.tVisual).getD 8) ∧
    (x.getD (defaultSettings, defaultRetain)).1.clamped.tChime = max 10 (min 240 ((x.map fun r => r.1.tChime).getD 90)) ∧
    clampRetain (x.getD (defaultSettings, defaultRetain)).2 = min 3600 ((x.map fun r => r.2).getD 600) := by
  cases x <;> simp [ReminderSettings.clamped, clampRetain, clamp_eq, defaultSettings, defaultRetain]

theorem cal_loaded (x : Option Calibration) (i : Seat) (n : Cell) :
    ((match x with | some c => loadedCal c | none => uncalibrated).get i).get n =
      if (x.any fun c => ((c.get i).get n).mark && decide (64 ≤ ((c.get i).get n).z.toNat) &&
          decide (64 ≤ ((c.get i).get n).g.toNat)) = true
        then (x.map fun c => (c.get i).get n).getD { z := 300, g := 256, mark := false }
        else { z := 300, g := 256, mark := false } := by
  rcases x with _ | c
  · simp [uncalibrated, uncalibratedCell]
  · simp [loadedCal, CellCal.loaded, CellCal.inRange, uncalibratedCell, and_assoc]

/-- RET's debounces as it begins to watch its lines (R134, R135). -/
theorem watch_ign (r : Ret) (p : Pins) :
    (r.watch p).ignDebounce = true ↔ ¬ (p.ign = true ↔ r.ignition = .on) := by
  unfold Ret.watch
  cases p.ign <;> cases r.ignition <;> simp

theorem watch_door (r : Ret) (p : Pins) (d : Door) :
    (r.watch p).doorDebounce.get d = true ↔ p.door.get d ≠ r.doorOpen.get d := by
  rw [Ret.watch, Tab.get_ofFn]
  exact decide_eq_true_iff

/-- Settles O2. -/
theorem loadFillsTheWorkingCopiesFromTheSections : Obligations.LoadFillsTheWorkingCopiesFromTheSections := by
  refine ⟨fun s straps hload => ⟨loadCompletes straps s, rfl, ?_⟩, fun s straps hload => ⟨loadCompletes straps s, rfl, ?_⟩⟩
  · obtain ⟨hstore, hprofiles, hstrap, htiming, hsettings, hcal, hret⟩ := loadCompletes_copies straps hload
    rw [hstore, hprofiles, hstrap, htiming, hsettings, hcal, hret]
    obtain ⟨hgood, hloaded, hdefault⟩ := profiles_loaded s.store.stored
    have htimes := timing_loaded s.store.stored.timing
    have hset := reminder_loaded s.store.stored.reminder
    obtain ⟨hp, hd, hsettle⟩ := htimes
    obtain ⟨hremind, hhold, hstart, hvisual, hchime, hretain⟩ := hset
    refine ⟨rfl, rfl, rfl, rfl, rfl, rfl, rfl, rfl, rfl, hgood, hloaded, hdefault, hp, hd, hsettle, hremind, hhold, hstart,
      hvisual, hchime, hretain, rfl, cal_loaded s.store.stored.calibration, rfl, rfl, watch_ign .., watch_door _ _⟩
  · simp [loadCompletes, hload]

/-! ## The presets (R6) -/

/-- The rows and the fitted seats of a preset are those of the tables of R6; an unfitted one has no presume occupied
setting, no tension, no anchor line and no advisory position. -/
theorem preset_rows {straps : BitVec 2} (h : straps ≠ 0) (r : Row) : (preset straps).rows.get r =
    (presetRowTable straps).getD r.val { removable := false, presence := 0xFF, doors := 0 } := by
  revert straps r; decide

theorem presetSeats_table {straps : BitVec 2} (h : straps ≠ 0) (i : Seat) :
    (presetSeats straps)[i.val]? = ((presetSeatTable straps)[i.val]?).map (presetRecord i) := by
  revert straps i; decide

/-- What R6 says of a preset's seat. -/
theorem preset_seat {straps : BitVec 2} (h : straps ≠ 0) (i : Seat) :
    (((preset straps).seats.get i).fitted = true ↔ i.val < (presetSeatTable straps).length) ∧
    (((preset straps).seats.get i).fitted = true →
      some ((preset straps).seats.get i) = ((presetSeatTable straps)[i.val]?).map (presetRecord i)) ∧
    (((preset straps).seats.get i).fitted = false →
      ((preset straps).seats.get i).presume = false ∧ ((preset straps).seats.get i).tension = false ∧
      ((preset straps).seats.get i).anchor = 0xFF ∧ ((preset straps).seats.get i).advisory = 0xF) := by
  have htable := presetSeats_table h i
  rcases hm : (presetSeatTable straps)[i.val]? with _ | x
  · have hout := List.getElem?_eq_none_iff.1 hm
    have hseat : (preset straps).seats.get i = unfittedPresetSeat straps i := by
      rw [preset, Tab.get_ofFn, htable, hm]; rfl
    rw [hseat]
    exact ⟨⟨nofun, fun hlt => absurd hlt (by omega)⟩, nofun, fun _ => ⟨rfl, rfl, rfl, rfl⟩⟩
  · have hin : i.val < (presetSeatTable straps).length := (List.getElem?_eq_some_iff.1 hm).1
    have hseat : (preset straps).seats.get i = presetRecord i x := by
      rw [preset, Tab.get_ofFn, htable, hm]; rfl
    rw [hseat]
    exact ⟨⟨fun _ => hin, fun _ => rfl⟩, fun _ => rfl, nofun⟩

/-- Settles O3. -/
theorem loadAppliesTheMapThatTheStrapsChoose : Obligations.LoadAppliesTheMapThatTheStrapsChoose := by
  intro s straps hload
  refine ⟨loadCompletes straps s, rfl, ?_⟩
  have hcmap : (mapLoaded straps s).cmap = (copiesLoaded straps s).cmap.applied s.pins
      (strapRecords straps s.store.stored.map)
      (if straps = 0 then mapValid (strapRecords straps s.store.stored.map) (copiesLoaded straps s).cmap.profiles else true) :=
    mapApply_cmap ..
  have happlied : JustApplied (mapLoaded straps s) := mapApply_justApplied ..
  have hreached : ApplyReached (copiesLoaded straps s) (mapLoaded straps s) := mapApply_reached ..
  rw [loadCompletes_eq straps s hload]
  refine ⟨happlied, hreached, fun h0 => ?_, fun h0 => ?_⟩
  · subst h0
    refine ⟨congrArg CMap.rows hcmap, congrArg CMap.seats hcmap, ?_⟩
    dsimp only
    rw [hcmap]
    exact Option.isNone_iff_eq_none
  · rw [if_neg h0, strapRecords, if_neg h0] at hcmap
    dsimp only
    rw [hcmap]
    exact ⟨rfl, preset_rows h0, preset_seat h0⟩

/-! ## Commits complete (R166, R167) -/

theorem storedAfter_write (d : Stored) (image : SectionImage) (passes : Bool) :
    StoredAfter d (.one image) passes (d.write image passes) := by
  intro x _
  refine ⟨fun h => sectOf_write_other d image passes x (by simpa [writes] using h), fun h => ?_⟩
  have hx : image.sec = x := by simpa [writes] using h
  rw [← hx]
  exact contentOf_write d image passes

theorem flagOf_put (v : SectionFlags) (x y : Section) (b : Bool) :
    flagOf (v.put x b) y = if y = x then b else flagOf v y := by
  cases x <;> cases y <;> rfl

/-- A section's commit completed, before a capture is told. -/
def sectionWritten (image : SectionImage) (passes : Bool) (s : State) : State :=
  post (.store image.sec passes) { s with store := { s.store with
    stored := s.store.stored.write image passes, valid := s.store.valid.put image.sec passes, commit := .idle } }

theorem commitCompletes_one {image : SectionImage} (passes : Bool) (h : s.store.commit = .one image) :
    commitCompletes passes s = releaseCapture
      (if image.sec = .calibration then finishCapture passes (sectionWritten image passes s)
      else sectionWritten image passes s) := by
  simp only [commitCompletes, h]; rfl

theorem isOne_iff (c : Commit) : isOne c = true ↔ ∃ image, c = .one image := by
  cases c <;> simp [isOne]

theorem releaseCapture_of_not_waiting (h : ∀ c, s.feat.capture = some c → c.state ≠ .waitingStore) : releaseCapture s = s := by
  unfold releaseCapture
  split
  · rw [if_neg (h _ ‹_›)]
  · rfl

theorem finishCapture_of_not_committing (passes : Bool) (h : ∀ c, s.feat.capture = some c → c.state ≠ .committing) :
    finishCapture passes s = s := by
  unfold finishCapture
  split
  · rw [if_neg (h _ ‹_›)]
  · rfl

theorem sectionWritten_lnk (image : SectionImage) (passes : Bool) (s : State) :
    (sectionWritten image passes s).lnk = enqueue [.store image.sec passes] s.lnk := Lnk.post_eq_enqueue ..

/-- The capture's own commit completed: the capture closed, with DONE on success (R60). -/
def captureClosed (passes : Bool) (c : Capture) (s : State) : State :=
  postAll (if passes then [.calibration c.seat .done] else []) (closeCapture s)

theorem finishCapture_committing {c : Capture} (passes : Bool) (hc : s.feat.capture = some c) (hstate : c.state = .committing) :
    finishCapture passes s = captureClosed passes c s := by
  simp only [finishCapture, hc, hstate, if_true]
  cases passes <;> rfl

theorem captureClosed_eq (passes : Bool) (c : Capture) (s : State) : captureClosed passes c s = { s with
    feat := { s.feat with capture := none }
    lnk := enqueue (if passes then [.calibration c.seat .done] else []) s.lnk
    pins := { s.pins with attn := (captureClosed passes c s).pins.attn } } := by
  conv_lhs => rw [captureClosed, postAll_frame]
  rw [postAll_lnk]
  rfl

/-- Settles O4. -/
theorem commitCompletionSetsTheFlagAndPostsStore : Obligations.CommitCompletionSetsTheFlagAndPostsStore := by
  refine ⟨fun s passes hone hcapture => ⟨commitCompletes passes s, rfl, ?_⟩,
    fun s passes hone htarget hcapture => ⟨commitCompletes passes s, rfl, ?_⟩,
    fun s passes c offsets hone hcapture hstate hoffsets => ⟨commitCompletes passes s, rfl, ?_⟩,
    fun s passes hone => ⟨commitCompletes passes s, rfl, ?_⟩⟩
  · obtain ⟨image, himage⟩ := (isOne_iff _).1 hone
    have hcollecting (c : Capture) (hc : s.feat.capture = some c) : c.state = .collecting := by
      rw [hc] at hcapture; simpa using hcapture
    have hdone : commitCompletes passes s = sectionWritten image passes s := by
      rw [commitCompletes_one passes himage, finishCapture_of_not_committing, ite_self, releaseCapture_of_not_waiting]
      · exact fun c hc => by rw [hcollecting c hc]; decide
      · exact fun c hc => by rw [hcollecting c hc]; decide
    rw [hdone, himage]
    refine ⟨?_, storedAfter_write s.store.stored image passes, fun x _ => flagOf_put ..⟩
    rw [target, ← sectionWritten_lnk]
    rfl
  · obtain ⟨image, himage⟩ := (isOne_iff _).1 hone
    obtain ⟨c, hc, hstate⟩ := Option.map_eq_some_iff.1 hcapture
    rw [himage, target] at htarget
    have hdone : commitCompletes passes s = captureClosed passes c (sectionWritten image passes s) := by
      rw [commitCompletes_one passes himage, if_pos htarget,
        finishCapture_committing (s := sectionWritten image passes s) passes hc hstate,
        releaseCapture_of_not_waiting]
      intro d hd
      rw [captureClosed_eq] at hd
      cases hd
    have hlnk : enqueue (if passes then [.calibration c.seat .done] else []) (sectionWritten image passes s).lnk =
        enqueue (.store .calibration passes :: (if passes then [.calibration c.seat .done] else [])) s.lnk := by
      rw [sectionWritten_lnk, enqueue_append, htarget]; rfl
    rw [hdone, himage]
    refine ⟨?_, ?_, fun x _ => ?_⟩
    · conv_lhs => rw [captureClosed_eq, hlnk]
      rw [captureClosed_eq, hc]
      rfl
    · rw [captureClosed_eq]; exact storedAfter_write s.store.stored image passes
    · rw [captureClosed_eq, ← htarget]; exact flagOf_put ..
  · obtain ⟨image, himage⟩ := (isOne_iff _).1 hone
    have hdone : commitCompletes passes s = captureCommits c offsets (sectionWritten image passes s) := by
      rw [commitCompletes_one passes himage, finishCapture_of_not_committing, ite_self, releaseCapture]
      · simp only [sectionWritten, post_feat, hcapture, hstate, if_true, hoffsets, Option.getD_some]
      · intro d hd
        have hd : s.feat.capture = some d := hd
        rw [hcapture] at hd
        cases hd
        rw [hstate]; decide
    rw [hdone, himage]
    refine ⟨sectionWritten_lnk .., rfl, rfl, storedAfter_write s.store.stored image passes, fun x _ => flagOf_put ..,
      fun i hi => ?_, fun n => ?_, rfl, rfl⟩
    · exact (Tab.get_set ..).trans (if_neg hi)
    · refine (congrArg (fun x => Tab.get x n) ((Tab.get_set ..).trans (if_pos rfl))).trans ?_
      rw [applyOffsets, Tab.get_ofFn]
      simp only [cellFitted_iff]
      rfl
  · unfold commitCompletes
    split
    · rename_i himage; rw [himage] at hone; cases hone
    · rfl

/-- The store after the six sections read back (R170). -/
def clearedSections (passes : BitVec 6) (c : ClearImages) (s : State) : State :=
  { s with
    store := { s.store with
      stored := clearedStore (heldMap s.free s.store.stored.map) c passes
      valid := { map := passes.getLsbD 0, profiles := passes.getLsbD 1, reminder := passes.getLsbD 2
                 timing := passes.getLsbD 3, calibration := passes.getLsbD 4, protection := passes.getLsbD 5 }
      commit := .idle }
    free := s.free + 1 }

/-- The six STORE notices (R170). -/
def clearedNotices (passes : BitVec 6) : List Notice :=
  [.store .map (!passes.getLsbD 0), .store .profiles (passes.getLsbD 1), .store .reminder (passes.getLsbD 2),
    .store .timing (passes.getLsbD 3), .store .calibration (passes.getLsbD 4), .store .protection (passes.getLsbD 5)]

theorem clearCompletes_clear {c : ClearImages} (passes : BitVec 6) (h : s.store.commit = .clear c) :
    clearCompletes passes s = releaseCapture (postAll (clearedNotices passes) (clearedSections passes c s)) := by
  simp only [clearCompletes, h]; rfl

/-- Settles O5. -/
theorem clearCommitCompletionReadsBackSixSections : Obligations.ClearCommitCompletionReadsBackSixSections := by
  refine ⟨fun s passes c hcommit hcapture => ⟨clearCompletes passes s, rfl, ?_⟩,
    fun s passes h => ⟨clearCompletes passes s, rfl, ?_⟩⟩
  · have hdone : clearCompletes passes s = postAll (clearedNotices passes) (clearedSections passes c s) := by
      rw [clearCompletes_clear passes hcommit, releaseCapture_of_not_waiting]
      intro d hd
      have hd : s.feat.capture = some d := by rw [← hd, postAll_feat]; rfl
      rw [hd] at hcapture
      simpa using hcapture
    have hmap : (clearedSections passes c s).store.stored.map =
        if passes.getLsbD 0 = true then some (heldMap s.free s.store.stored.map) else none := clearedStore_map ..
    rw [hdone]
    refine ⟨?_, ?_, ?_, fun hp hheld => ?_, ?_, ?_, ?_, ?_, ?_⟩
    · conv_lhs => rw [postAll_frame, postAll_lnk]
      rw [postAll_store]
      rfl
    · rw [postAll_store]; rfl
    · rw [postAll_store, hmap]; cases passes.getLsbD 0 <;> rfl
    · obtain ⟨m, hm⟩ := Option.isSome_iff_exists.1 hheld
      rw [postAll_store, hmap, if_pos hp, hm]; rfl
    · rw [postAll_store]; exact clearedStore_profiles ..
    · rw [postAll_store]; exact clearedStore_reminder ..
    · rw [postAll_store]; exact clearedStore_timing ..
    · rw [postAll_store]; exact clearedStore_calibration ..
    · rw [postAll_store]; exact clearedStore_protection ..
  · unfold clearCompletes
    split
    · rename_i hclear; rw [hclear] at h; cases h
    · rfl

end Sys2Proof.Machine

/-! SUPPORT. Settles the statement on REPLY_COMPLETE (O33): what RESTART leaves in every block. -/

namespace Sys2Proof.Machine

open Sys2Proof.Safety

variable {s t u : State}

/-! ## REM, ADV and LNK at RESTART -/

theorem restartBlocks_table (s : State) (i : Seat) : (restartBlocks s).rem.table.get i =
    freshReminder s.ret.ignition (s.cmap.seats.get i) (s.cmap.lifecycleOf i) s.rem.settings.tChime := by
  rw [restartBlocks_rem]
  let u := withFeat (featFlush (scanRestarted s).feat).1 (scanRestarted s)
  exact rested_get (s := { u with rem := { u.rem with
    startTimer := if u.ret.ignition = .on then some (steps u.rem.settings.tStart) else none
    startElapsed := false, table := u.restedTable fun _ => true } }) rfl (by simp [State.restedTable]) i

theorem restartBlocks_rem_frame (s : State) : (restartBlocks s).rem = { s.rem with
    startTimer := if s.ret.ignition = .on then some (10 * s.rem.settings.tStart) else none
    startElapsed := false, table := (restartBlocks s).rem.table, summary := (restartBlocks s).rem.summary } := by
  rw [restartBlocks_rem, Nat.mul_comm 10]
  rfl

theorem restartBlocks_summary (s : State) : SummaryLaw (restartBlocks s) := by
  have h : SummaryLaw (remRestarted s).1 := refreshSummary_law _
  have hcmap : (remRestarted s).1.cmap = s.cmap := (remRestarted_remMoves s).cmap
  have hverd : (remRestarted s).1.verd = (restartBlocks s).verd := by rw [restartBlocks_verd, (remRestarted_remMoves s).verd]; rfl
  simp only [SummaryLaw, restartBlocks_rem, restartBlocks_cmap, ← hcmap, ← hverd]
  exact h

/-- ADV's part of RESTART, before its positions are evaluated (R131). -/
def mailboxEmptied (s : State) : State := emptyMailbox (discardSnapshots .restart everySeat (remRestarted s).1).1

theorem advRestarted_eq (s : State) : advRestarted s = advBoth (mailboxEmptied s) := rfl

theorem mailboxEmptied_adv (s : State) : (mailboxEmptied s).adv = { s.adv with mailbox := none, superseded := false } := by
  simp [mailboxEmptied, emptyMailbox, (remRestarted_remMoves s).adv, scanRestarted]

theorem mailboxEmptied_sup (s : State) : (mailboxEmptied s).pins.sup = s.pins.sup := by
  simp [mailboxEmptied, emptyMailbox, (remRestarted_remMoves s).pins, scanRestarted]

theorem restartBlocks_advVerd (s : State) : (advBoth (mailboxEmptied s)).verd = (restartBlocks s).verd := by
  rw [(advBoth_advMoves _).verd, restartBlocks_verd]
  exact (remRestarted_remMoves s).verd

theorem restartBlocks_advisory (h : PairsShow s) : AdvisoryLaw (restartBlocks s) := by
  refine (advisoryLaw_iff _).2 ⟨fun p => ?_, ?_⟩
  · have htrue := advBoth_true p (mailboxEmptied s)
    rw [ValueTrue, restartBlocks_advVerd] at htrue
    rw [ValueTrue, restartBlocks_adv]
    exact htrue
  · have hpairs : PairsShow (advBoth (mailboxEmptied s)) :=
      evaluatePosition_pairsShow 1 (evaluatePosition_pairsShow 0 fun p => by
        rw [mailboxEmptied_sup, mailboxEmptied_adv]; exact h p)
    intro p
    rw [restartBlocks_adv, restartBlocks_sup]
    exact hpairs p

/-- The mailbox after RESTART holds a record exactly when a value changed (R131). -/
theorem restartBlocks_mailbox (s : State) : (restartBlocks s).adv.mailbox.isSome = true ↔
    ∃ p : Pos, ((restartBlocks s).adv.positions.get p).value ≠ (s.adv.positions.get p).value := by
  obtain ⟨-, hmail, -⟩ := advBoth_reported (mailboxEmptied s)
  rw [mailboxEmptied_adv] at hmail
  rw [restartBlocks_adv, advRestarted_eq, hmail, Fin.exists_fin_two]
  split
  · exact ⟨fun _ => .inr ‹_›, fun _ => rfl⟩
  · rename_i h1
    split
    · exact ⟨fun _ => .inl ‹_›, fun _ => rfl⟩
    · rename_i h0
      exact ⟨nofun, fun h => (h.elim h0 h1).elim⟩

/-! ## The notices of a RESTART -/

theorem reminderNotices_length (a b : Tab 16 ReminderRec) : (reminderNotices a b).length ≤ 16 := by
  have h := List.length_filterMap_le (fun i : Seat =>
    if (a.get i).state = (b.get i).state then none else some (Notice.reminder i (b.get i).state)) allSeats
  simpa [reminderNotices, allSeats] using h

theorem featFlush_notices_length (f : Feat) : (featFlush f).2.length ≤ 1 := by
  have hnotices : (featFlush f).2 = (abortCapture f).2 := rfl
  rw [hnotices, abortCapture_notices, List.length_map]
  refine (List.length_filter_le _ _).trans ?_
  cases f.capture <;> simp

theorem retentionNotices_length (c : Option DiscardCause) (x : SeatSet) : (retentionNotices c x).length ≤ 1 := by
  unfold retentionNotices; split <;> simp

theorem afterCut_length {α : Type} (c : Nat) (l : List α) : (afterCut c l).length ≤ l.length := by
  unfold afterCut; split <;> simp

/-- At most a REMINDER for each seat, CALIBRATION ABORTED and RETENTION DISCARDED (R163). -/
theorem restartNotices_length (s : State) : (restartNotices s).length ≤ 18 := by
  refine (afterCut_length ..).trans ?_
  rw [(mergeNotices_perm _ _).length_eq]
  have hrem : (remRestarted s).2.length ≤ 16 := reminderNotices_length ..
  have hfeat := featFlush_notices_length (scanRestarted s).feat
  have hret : (discardSnapshots .restart everySeat (remRestarted s).1).2.length ≤ 1 := retentionNotices_length ..
  simp only [List.flatten_cons, List.flatten_nil, List.append_nil, List.length_append]
  omega

theorem enqueue_empty {ns : List Notice} {l : Lnk} (hl : l.notices = []) (hover : l.overflow = false) (hlen : ns.length ≤ 32) :
    enqueue ns l = { l with notices := ns, overflow := false } := by
  have hfit : ¬ 32 < ns.length := by omega
  simp [enqueue, hl, hover, List.take_of_length_le hlen, hfit]

theorem restartBlocks_lnk (s : State) : (restartBlocks s).lnk =
    { s.lnk with notices := restartNotices s, overflow := false } := by
  have hlnk : (advRestarted s).lnk = s.lnk := by
    rw [(advRestarted_advMoves s).lnk]; simp [(remRestarted_remMoves s).lnk, scanRestarted]
  rw [restartBlocks_eq, postAll_lnk, State.refreshAttn_lnk, enqueue_empty rfl rfl (by have := restartNotices_length s; omega), hlnk]
  rfl

theorem restartBlocks_pins (s : State) : (restartBlocks s).pins =
    { s.pins with sup := (restartBlocks s).pins.sup, attn := (restartBlocks s).pins.attn } := by
  have hdrop : (discardSnapshots .restart everySeat (remRestarted s).1).1.pins = s.pins := (remRestarted_remMoves s).pins
  have hadv : (advRestarted s).pins = { s.pins with sup := (advRestarted s).pins.sup, attn := (advRestarted s).pins.attn } := by
    rw [← hdrop]
    exact congrArg State.pins (advRestarted_advMoves s)
  rw [restartBlocks_eq, postAll_pins_frame, State.refreshAttn_pins]
  dsimp only
  rw [hadv]

/-- Settles O33. -/
theorem replyCompletionFreesDispatchAndHandsOutRestart : Obligations.ReplyCompletionFreesDispatchAndHandsOutRestart := by
  refine ⟨fun s hidle => ⟨replyLeaves s, rfl, ?_⟩, fun s rep hbusy => ⟨replyLeaves s, rfl, ?_⟩,
    fun s rep hpairs hbusy => ⟨replyLeaves s, rfl, ?_⟩⟩
  · simp only [replyLeaves, hidle]
  · simp only [replyLeaves, hbusy, Bool.false_eq_true, if_false]
  · have hleft : replyLeaves s =
        { restartBlocks s with lnk := { (restartBlocks s).lnk with dispatch := .idle } } := by
      simp only [replyLeaves, hbusy, if_true]
    have hverd (i : Seat) : (restartBlocks s).verd.seats.get i = freshSeat (s.cmap.seats.get i) (s.cmap.lifecycleOf i) := by
      rw [restartBlocks_verd]; simp [CMap.freshSeats]
    rw [hleft]
    refine ⟨fun i => ⟨?_, ?_, ?_, ?_⟩, ?_, ?_, ?_, ?_, ?_, ?_, fun p => ?_, ?_, ?_, ?_, ?_⟩
    all_goals dsimp only
    · rw [hverd]; exact freshSeat_isFresh ..
    · rw [hverd]; exact lifecycleOf_eq s.cmap i
    · rw [restartBlocks_table, hverd]; rfl
    · rw [restartBlocks_ret, drop_get]; rfl
    · rw [restartBlocks_verd]
    · rw [restartBlocks_scan, scanRestarted, scanRestart, settled_eq]; rfl
    · rw [restartBlocks_feat]
    · exact restartBlocks_rem_frame s
    · exact restartBlocks_summary s
    · have htimer : (s.ret.drop everySeat).timer = none := by rw [drop_timer, if_neg]; simp [everySeat]
      rw [restartBlocks_ret, ← htimer]; rfl
    · rw [restartBlocks_adv, advRestarted_eq, advBoth_seat, mailboxEmptied_adv]
    · exact restartBlocks_advisory hpairs
    · exact restartBlocks_mailbox s
    · rw [restartBlocks_lnk]; exact restartNotices_length s
    · rw [State.mk.injEq]
      exact ⟨restartBlocks_cmap s, rfl, rfl, rfl, rfl, rfl, rfl, by rw [restartBlocks_lnk], restartBlocks_store s,
        restartBlocks_pins s, rfl, restartBlocks_pending s⟩

end Sys2Proof.Machine

/-! SUPPORT. Settles the statement on IGNITION_OFF (O7). What a frame cut short reads and moves is said first. -/

namespace Sys2Proof.Machine

open Sys2Proof.Safety

variable {s t u : State}

/-- States with the same blocks are the same. -/
theorem state_ext (hcmap : t.cmap = u.cmap) (hscan : t.scan = u.scan) (hfeat : t.feat = u.feat) (hverd : t.verd = u.verd)
    (hrem : t.rem = u.rem) (hadv : t.adv = u.adv) (hret : t.ret = u.ret) (hlnk : t.lnk = u.lnk) (hstore : t.store = u.store)
    (hpins : t.pins = u.pins) (hfree : t.free = u.free) (hpending : t.pending = u.pending) : t = u := by
  cases t
  cases u
  rw [State.mk.injEq]
  exact ⟨hcmap, hscan, hfeat, hverd, hrem, hadv, hret, hlnk, hstore, hpins, hfree, hpending⟩

/-! ## A frame cut short (R28, R31) -/

theorem marked_frame (st : SeatStep) (s : State) : marked st s = { s with
    scan := (marked st s).scan, feat := { s.feat with intake := (marked st s).feat.intake } } := by
  unfold marked markerIn; dsimp only; split <;> rfl

theorem cutNow_frame (s : State) : cutNow s = { s with
    scan := (cutNow s).scan, feat := { s.feat with intake := (cutNow s).feat.intake } } := by
  unfold cutNow
  split
  · rfl
  · split
    · exact marked_frame ..
    · rfl
    · rfl

/-- The intake after a marker is formed: FEAT takes it when it is IDLE and the queue has room. -/
theorem marked_intake (st : SeatStep) (s : State) : (marked st s).feat.intake =
    if s.scan.queue.length < 64 then (Safety.pushed (.marker (markerOf s st)) s).1 else s.feat.intake := by
  unfold marked markerOf
  rw [anchor_eq]
  dsimp only
  split <;> rfl

/-- Cutting a frame short moves FEAT by the step, the queue and the state of SCAN alone. -/
theorem cutNow_intake_congr {c : Scan} (r : Ret) (hstep : c.step = s.scan.step) (hqueue : c.queue = s.scan.queue)
    (hstate : c.state = s.scan.state) :
    (cutNow { s with ret := r, scan := c }).feat.intake = (cutNow s).feat.intake := by
  unfold cutNow
  simp only [hstep]
  split
  · rfl
  · split
    · simp only [marked_intake, hqueue, markerOf, hstate, Safety.pushed]
      rfl
    · rfl
    · rfl

/-! ## RET, SCAN and REM at ignition OFF -/

/-- A probe armed for timed passes is cancelled by ignition OFF (R36). -/
def timedCancelled : ProbeSlot → ProbeSlot
  | .armed _ .timed => .free (some .ignition)
  | q => q

theorem timedProbeCancelled_eq (s : State) :
    timedProbeCancelled s = { s with scan := { s.scan with probe := timedCancelled s.scan.probe } } := by
  unfold timedProbeCancelled
  rcases hp : s.scan.probe with r | ⟨i, how⟩ | b
  · simp only [timedCancelled, ← hp]
  · cases how
    · rfl
    · simp only [timedCancelled, ← hp]
    · simp only [timedCancelled, ← hp]
  · simp only [timedCancelled, ← hp]

theorem scanTurnedOff_pass (h : s.scan.state = .pass) : scanTurnedOff s = cutNow { retOff s with scan := { s.scan with
    interval := none, closing := true, probe := timedCancelled s.scan.probe } } := by
  have hscan : (retOff s).scan = s.scan := by rw [retOff_frame]
  rw [scanTurnedOff, scanIgnitionOff_eq, timedProbeCancelled_eq, hscan]
  simp only [h, cutShort_eq]

theorem scanTurnedOff_waiting (h : s.scan.state = .waiting) : scanTurnedOff s = { retOff s with scan := { s.scan with
    state := .stopped, interval := none, closing := false, visited := [], step := none, rest := []
    probe := timedCancelled s.scan.probe } } := by
  have hscan : (retOff s).scan = s.scan := by rw [retOff_frame]
  rw [scanTurnedOff, scanIgnitionOff_eq, timedProbeCancelled_eq, hscan]
  simp only [h, Scan.atRest]

theorem scanTurnedOff_other (hwait : s.scan.state ≠ .waiting) (hpass : s.scan.state ≠ .pass) :
    scanTurnedOff s = { retOff s with scan := { s.scan with probe := timedCancelled s.scan.probe } } := by
  have hscan : (retOff s).scan = s.scan := by rw [retOff_frame]
  rw [scanTurnedOff, scanIgnitionOff_eq, timedProbeCancelled_eq, hscan]
  dsimp only
  split
  · rename_i h; exact absurd h hwait
  · rename_i h; exact absurd h hpass
  · rfl

/-- SCAN's part of ignition OFF moves SCAN and FEAT's intake. -/
theorem scanTurnedOff_frame (s : State) : scanTurnedOff s = { s with
    scan := (scanTurnedOff s).scan, feat := { s.feat with intake := (scanTurnedOff s).feat.intake }
    ret := (retOff s).ret } := by
  by_cases hpass : s.scan.state = .pass
  · have h := scanTurnedOff_pass hpass
    have hframe := h.trans (cutNow_frame _)
    rw [← h] at hframe
    conv_lhs => rw [hframe, retOff_frame]
  · by_cases hwait : s.scan.state = .waiting
    · rw [scanTurnedOff_waiting hwait, retOff_frame]
    · rw [scanTurnedOff_other hwait hpass, retOff_frame]

theorem scanTurnedOff_intake (hpass : s.scan.state ≠ .pass) : (scanTurnedOff s).feat.intake = s.feat.intake := by
  by_cases hwait : s.scan.state = .waiting
  · rw [scanTurnedOff_waiting hwait, retOff_frame]
  · rw [scanTurnedOff_other hwait hpass, retOff_frame]

theorem scanTurnedOff_probe (hpass : s.scan.state ≠ .pass) : (scanTurnedOff s).scan.probe = timedCancelled s.scan.probe := by
  by_cases hwait : s.scan.state = .waiting
  · rw [scanTurnedOff_waiting hwait]
  · rw [scanTurnedOff_other hwait hpass]

theorem ignitionOff_pins (s : State) : (ignitionOff s).pins = { s.pins with attn := (ignitionOff s).pins.attn } := by
  have hpins : (remTurnedOff s).1.pins = s.pins := by
    rw [(remTurnedOff_remMoves s).pins, withFeat_pins, scanTurnedOff_frame]
  rw [ignitionOff_eq, postMerged, postAll_pins_frame]
  dsimp only
  rw [hpins]

theorem ignitionOff_lnk (s : State) : (ignitionOff s).lnk =
    enqueue (mergeNotices s.free [(remTurnedOff s).2, (abortCapture (scanTurnedOff s).feat).2]) s.lnk := by
  have hfree : (remTurnedOff s).1.free = s.free := by
    rw [(remTurnedOff_remMoves s).free, withFeat_free, scanTurnedOff_frame]
  have hlnk : (remTurnedOff s).1.lnk = s.lnk := by rw [(remTurnedOff_remMoves s).lnk, withFeat_lnk, scanTurnedOff_lnk]
  rw [ignitionOff_eq, postMerged_lnk, hfree, hlnk]

theorem retOff_snapshots_get (htRetain : s.ret.tRetain ≠ 0) (i : Seat) : (retOff s).ret.snapshots.get i =
    if (s.verd.seats.get i).lifecycle = .active ∧ (s.verd.seats.get i).confirmed ≠ .unknown then
      some { confirmed := (s.verd.seats.get i).confirmed, buckle := (s.verd.seats.get i).buckle,
             budget := (s.rem.table.get i).budget }
    else none := by
  simp [retOff, htRetain, takenSnapshots]

theorem retOff_timer (htRetain : s.ret.tRetain ≠ 0) : (retOff s).ret.timer =
    if ∃ i : Seat, ((retOff s).ret.snapshots.get i).isSome = true then some (10 * s.ret.tRetain) else none := by
  simp only [retOff, if_neg htRetain, ← anySnapshot_iff, steps, Nat.mul_comm 10]

theorem retOff_ret (s : State) : (retOff s).ret = { s.ret with
    ignition := .off, ignDebounce := false, snapshots := (retOff s).ret.snapshots, timer := (retOff s).ret.timer } := by
  unfold retOff; dsimp only; split <;> rfl

theorem remTurnedOff_table (s : State) (i : Seat) :
    (remTurnedOff s).1.rem.table.get i = { state := .none, visual := 0, budget := (s.rem.table.get i).budget } := by
  simp [remTurnedOff, remIgnitionOff, ReminderRec.to]

theorem noSeatSet_eq {x : SeatSet} : x = Tab.const 16 false ↔ ∀ i : Seat, x.get i = false :=
  ⟨fun h i => by rw [h, Tab.get_const], fun h => Tab.ext_get fun i => by rw [h, Tab.get_const]⟩

/-- With every reminder NONE the demand is clear and both sets are empty. -/
theorem quiet_summary (h : ∀ i : Seat, (s.rem.table.get i).state = .none) :
    s.deriveSummary.chime = false ∧ s.deriveSummary.visual = Tab.const 16 false ∧
    s.deriveSummary.child = Tab.const 16 false := by
  refine ⟨?_, noSeatSet_eq.2 fun i => ?_, noSeatSet_eq.2 fun i => ?_⟩
  · simp [State.deriveSummary, h]
  · simp [State.deriveSummary, seatSet, h, ReminderState.shown]
  · simp [State.deriveSummary, seatSet, h]

/-- REM's notices at ignition OFF (R107, R115, R120). -/
theorem remTurnedOff_notices (s : State) : (remTurnedOff s).2 =
    ((List.finRange 16).filter fun i : Seat => decide ((s.rem.table.get i).state ≠ .none)).map (fun i => Notice.reminder i .none) ++
    (if s.rem.summary.chime = false ∧ (∀ i : Seat, s.rem.summary.visual.get i = false) ∧
        (∀ i : Seat, s.rem.summary.child.get i = false) then []
      else [.cabin false (Tab.const 16 false) (Tab.const 16 false)]) := by
  have hrem : (withFeat (abortCapture (scanTurnedOff s).feat).1 (scanTurnedOff s)).rem = s.rem := scanTurnedOff_rem s
  have hreminders : reminderNotices s.rem.table (remTurnedOff s).1.rem.table =
      ((List.finRange 16).filter fun i : Seat => decide ((s.rem.table.get i).state ≠ .none)).map
        (fun i => Notice.reminder i .none) := by
    rw [reminderNotices_eq, remindersOf]
    simp only [remTurnedOff_table]
  have hquiet : ∀ i : Seat, ((remTurnedOff s).1.rem.table.get i).state = .none := fun i => by rw [remTurnedOff_table]
  obtain ⟨hchime, hvisual, hchild⟩ := quiet_summary hquiet
  have hcabin : (remTurnedOff s).2 = reminderNotices s.rem.table (remTurnedOff s).1.rem.table ++
      cabinNotices s.rem.summary (remTurnedOff s).1.deriveSummary := by
    rw [← hrem]; rfl
  rw [hcabin, hreminders, cabinNotices, hchime, hvisual, hchild]
  simp only [noSeatSet_eq]

/-- Settles O7. -/
theorem ignitionOffEventSnapshotsAndQuietsTheCabin : Obligations.IgnitionOffEventSnapshotsAndQuietsTheCabin := by
  refine ⟨fun s hdebounce hon => ⟨ignitionOff s, ?_, ?_⟩, fun s h => ⟨s, ?_, rfl⟩⟩
  · simp [exec, execIgnitionOff, hdebounce, hon]
  · refine ⟨?_, fun h0 => ⟨?_, ?_⟩, fun h0 => ⟨fun i => ?_, ?_⟩, fun i => ?_, ?_, fun hwait => ?_, fun hwait hpass => ?_,
      fun hpass => ⟨?_, ?_⟩, fun hpass => ⟨?_, ?_⟩, ?_, ?_, ?_, ?_, fun hnone => ?_, ?_⟩
    · rw [ignitionOff_ret]; exact retOff_ret s
    · rw [ignitionOff_ret]; simp [retOff, h0]
    · rw [ignitionOff_ret]; simp [retOff, h0]
    · rw [ignitionOff_ret]; exact retOff_snapshots_get h0 i
    · rw [ignitionOff_ret]; exact retOff_timer h0
    · rw [ignitionOff_rem]; exact remTurnedOff_table s i
    · rw [ignitionOff_rem, ← scanTurnedOff_rem s]; rfl
    · rw [ignitionOff_scan, scanTurnedOff_waiting hwait]
    · rw [ignitionOff_scan, scanTurnedOff_other hwait hpass]
    · rw [ignitionOff_feat, abortCapture_intake]; exact scanTurnedOff_intake hpass
    · rw [ignitionOff_scan, scanTurnedOff_probe hpass]; rfl
    · rw [ignitionOff_scan, ignitionOff_ret, scanTurnedOff_pass hpass, retOff_frame]; rfl
    · rw [ignitionOff_feat, abortCapture_intake, scanTurnedOff_pass hpass, retOff_frame]
      exact cutNow_intake_congr (s := { s with scan := { s.scan with closing := true } }) _ rfl rfl rfl
    · rw [ignitionOff_feat, abortCapture_feat, scanTurnedOff_frame]
    · rw [ignitionOff_feat, abortCapture_feat, scanTurnedOff_frame]
    · rw [ignitionOff_feat, abortCapture_feat, scanTurnedOff_frame]
    · rw [ignitionOff_lnk]; exact List.prefix_append ..
    · rw [ignitionOff_lnk, remTurnedOff_notices, abortCapture_notices, scanTurnedOff_frame, hnone]
      simp only [mergeNotices, Option.toList_none, List.filter_nil, List.map_nil, interleave_nil_right]
    · exact state_ext (ignitionOff_cmap s) rfl rfl (ignitionOff_verd s) rfl (ignitionOff_adv s) rfl rfl (ignitionOff_store s)
        (ignitionOff_pins s) rfl (ignitionOff_pending s)
  · have hnot : ¬ (s.ret.ignDebounce = true ∧ s.ret.ignition = .on) := by
      rintro ⟨hdebounce, hon⟩
      rcases h with h | h
      · rw [hdebounce] at h; cases h
      · rw [hon] at h; cases h
    simp only [exec, execIgnitionOff, if_neg hnot]

end Sys2Proof.Machine

/-! SUPPORT. Settles the statement on IGNITION_ON (O8). The rules on REM's events that the statements share come first. -/

namespace Sys2Proof.Machine

open Sys2Proof.Safety

variable {s t u : State}

/-! ## Events of REM in the words of the statements -/

theorem triggerHolds_congr (hign : t.ret.ignition = s.ret.ignition) (helapsed : t.rem.startElapsed = s.rem.startElapsed)
    (hspeed : t.rem.speed = s.rem.speed) (hset : t.rem.settings = s.rem.settings) : triggerHolds t = triggerHolds s := by
  simp only [triggerHolds, hign, helapsed, hspeed, hset]

/-- A move reads the trigger, the speed and the settings alone. -/
theorem movedTo_congr (hign : t.ret.ignition = s.ret.ignition) (helapsed : t.rem.startElapsed = s.rem.startElapsed)
    (hspeed : t.rem.speed = s.rem.speed) (hset : t.rem.settings = s.rem.settings) (k : ReminderCase) (r : ReminderRec) :
    movedTo t k r = movedTo s k r := by
  simp only [movedTo, stagesFrom, visualFrom, triggerHolds_congr hign helapsed hspeed hset, hspeed, hset]

theorem movedTo_fits (s : State) (k : ReminderCase) (r : ReminderRec) : fitsCase k (movedTo s k r).state = true := by
  rw [← moveReminder_eq]; exact moveReminder_fits ..

/-- A record leaving NONE keeps its budget, but for the full one on entry to LATCHED (R110). -/
theorem movedTo_none_budget (s : State) (k : ReminderCase) {r : ReminderRec} (h : r.state = .none) :
    (movedTo s k r).budget = if k = .belted then 10 * s.rem.settings.tChime else r.budget := by
  cases k with
  | notReminded | belted | buckleUnknown | childUnsecured => simp [movedTo, h]
  | unbelted =>
    simp only [movedTo, h, stagesFrom, visualFrom, audibleFrom]
    split
    · split <;> rfl
    · rfl

/-- The notices at the end of an event of REM: REMINDER of each seat that changed, then CABIN for a changed summary. -/
theorem remNotices_eq {v : State} (htable : t.rem.table = v.rem.table) (hderived : t.rem.summary = v.deriveSummary)
    (hsummary : v.rem.summary = s.rem.summary) :
    reminderNotices s.rem.table v.rem.table ++ cabinNotices v.rem.summary v.deriveSummary = remindersOf s t ++ cabinOf s t := by
  rw [← htable, reminderNotices_eq, cabinNotices, cabinOf, hderived, hsummary]

/-- The summary law reads REM, the map's records and the Seat Table. -/
theorem summaryLaw_congr (h : SummaryLaw s) (hrem : t.rem = s.rem) (hseats : t.cmap.seats = s.cmap.seats)
    (hverd : t.verd.seats = s.verd.seats) : SummaryLaw t := by
  simp only [SummaryLaw, hrem, hseats, hverd]
  exact h

/-! ## Ignition ON -/

/-- REM's evaluation at ignition ON, before the table moves: the trip started and every budget set (R116). -/
def tripStarted (s : State) : State :=
  { resumesTold s with rem := { s.rem with
    startTimer := some (10 * s.rem.settings.tStart), startElapsed := false
    table := Tab.ofFn fun i => { s.rem.table.get i with budget := budgetAtOn s i } } }

theorem resumeBudget_eq (s : State) (i : Seat) :
    (match s.resumeBudget i with | some b => min b (steps s.rem.settings.tChime) | none => steps s.rem.settings.tChime) =
      budgetAtOn s i := by
  by_cases h : s.resumes i = true
  · have hheld := (resumes_iff s i).1 h
    obtain ⟨snap, hsnap⟩ := Option.isSome_iff_exists.1 hheld.1
    simp [State.resumeBudget, h, budgetAtOn, hsnap, hheld.2, steps, Nat.mul_comm]
  · have hnot := mt (resumes_iff s i).2 h
    simp [State.resumeBudget, h, budgetAtOn, hnot, steps, Nat.mul_comm]

theorem remIgnitionOn_eq (s : State) : remIgnitionOn s.resumeBudget (resumesTold s) =
    endRemEvent (evaluateReminders (fun _ => true) (tripStarted s)) := by
  have htable : (Tab.ofFn fun i => { s.rem.table.get i with budget := budgetAtOn s i } : Tab 16 ReminderRec) =
      Tab.ofFn fun i => { s.rem.table.get i with budget :=
        (match s.resumeBudget i with | some b => min b (steps s.rem.settings.tChime) | none => steps s.rem.settings.tChime) } :=
    Tab.ext_get fun i => by rw [Tab.get_ofFn, Tab.get_ofFn, resumeBudget_eq]
  rw [tripStarted, htable, Nat.mul_comm 10, remIgnitionOn, resumesTold_rem]
  rfl

theorem ignitionOn_table (s : State) (i : Seat) : (ignitionOn s).rem.table.get i =
    movedTo (ignitionOn s) (caseOf (s.cmap.seats.get i) ((ignitionOn s).verd.seats.get i))
      { s.rem.table.get i with budget := budgetAtOn s i } := by
  have hon : (tripStarted s).ret.ignition = .on := by simp [tripStarted, seatsResumed]
  have hrem : (ignitionOn s).rem = ((tripStarted s).withTable ((tripStarted s).evaluatedTable fun _ => true)).refreshSummary.rem := by
    rw [ignitionOn_rem, remIgnitionOn_eq]; rfl
  have hmoved := movedTo_congr (s := tripStarted s) (t := ignitionOn s) (by rw [hon, ignitionOn_ret]; rfl) (by rw [hrem]; rfl)
    (by rw [hrem]; rfl) (by rw [hrem]; rfl)
  rw [hmoved, hrem, State.refreshSummary_rem, State.withTable_rem]
  dsimp only
  rw [evaluatedTable_on _ _ hon, if_pos rfl, moveReminder_eq, ignitionOn_verd]
  simp [tripStarted]

theorem ignitionOn_rem_frame (s : State) : (ignitionOn s).rem = { s.rem with
    startTimer := some (10 * s.rem.settings.tStart), startElapsed := false
    table := (ignitionOn s).rem.table, summary := (ignitionOn s).rem.summary } := by
  rw [ignitionOn_rem, remIgnitionOn_eq]
  rfl

theorem ignitionOn_summary (s : State) : SummaryLaw (ignitionOn s) := by
  have h : SummaryLaw (remIgnitionOn s.resumeBudget (resumesTold s)).1 := by rw [remIgnitionOn_eq]; exact refreshSummary_law _
  have hmoves := remTurnedOn_remMoves s
  exact summaryLaw_congr h (ignitionOn_rem s) (by rw [ignitionOn_cmap, hmoves.cmap, resumesTold_cmap])
    (by rw [ignitionOn_verd, hmoves.verd, resumesTold_verd])

/-- The RETENTION notices of an ON event (R144, R145). -/
theorem retainedNotices_eq (s : State) :
    retentionNotices none (heldSnapshots s.ret s.resumes) ++
      retentionNotices (some .ignition) (heldSnapshots s.ret fun i => !s.resumes i) = retainedNotices s := by
  rw [heldSnapshots, heldSnapshots, retentionNotices_eq, retentionNotices_eq, retainedNotices]
  congr 2 <;> funext i <;> unfold State.resumes <;> cases (s.ret.snapshots.get i).isSome <;> simp

theorem ignitionOn_lnk (s : State) : (ignitionOn s).lnk =
    enqueue (retainedNotices s ++ remindersOf s (ignitionOn s) ++ cabinOf s (ignitionOn s)) s.lnk := by
  have hmoves := remTurnedOn_remMoves s
  have htold : (resumesTold s).lnk = enqueue (retainedNotices s) s.lnk := by
    rw [resumesTold, postAll_lnk, (advSeats_resumed s).lnk, retainedNotices_eq]; rfl
  have hrem : (ignitionOn s).rem = ((tripStarted s).withTable ((tripStarted s).evaluatedTable fun _ => true)).refreshSummary.rem := by
    rw [ignitionOn_rem, remIgnitionOn_eq]; rfl
  have hreminders : reminderNotices (tripStarted s).rem.table ((tripStarted s).evaluatedTable fun _ => true) =
      remindersOf s (ignitionOn s) := by
    have htable : (ignitionOn s).rem.table = (tripStarted s).evaluatedTable fun _ => true := by rw [hrem]; rfl
    rw [← htable, reminderNotices_eq, remindersOf, remindersOf]
    simp [tripStarted]
  have hnotices : (remIgnitionOn s.resumeBudget (resumesTold s)).2 =
      remindersOf s (ignitionOn s) ++ cabinOf s (ignitionOn s) := by
    rw [remIgnitionOn_eq, endRemEvent_notices, ← hreminders, cabinOf, hrem]
    rfl
  have hl : (ignitionOn s).lnk = (postEvent (remIgnitionOn s.resumeBudget (resumesTold s))).lnk :=
    (congrArg State.lnk (scanIgnitionOn_frame (postEvent (remIgnitionOn s.resumeBudget (resumesTold s)))) :)
  rw [hl, postEvent, postAll_lnk, hmoves.lnk, htold, hnotices, enqueue_append, List.append_assoc]

/-! ### SCAN, ADV and the rest -/

theorem ignitionOn_scan (s : State) : (ignitionOn s).scan = if s.scan.state = .stopped then { s.scan with
    state := .waiting, interval := some (max 10000 (min 1000000 (s.scan.timing.p * s.scan.timing.d)))
    closing := false, visited := [], step := none, rest := [] } else s.scan := by
  have hscan : (postEvent (remIgnitionOn s.resumeBudget (resumesTold s))).scan = s.scan := by
    rw [postEvent_scan (remTurnedOn_remMoves s), resumesTold_scan]
  rw [ignitionOn_eq, scanIgnitionOn, hscan, ← interval_eq]
  split
  · rename_i h; rw [if_pos h]; rfl
  · rename_i h; rw [if_neg h]; exact hscan

theorem evaluateIf_position (g : Seat → Bool) (p : Pos) (s : State) : (evaluateIf g p s).adv.positions.get p =
    { s.adv.positions.get p with value :=
        if (s.adv.positions.get p).seat.any g = true then advisoryValue s.verd.seats (s.adv.positions.get p).seat
        else (s.adv.positions.get p).value } := by
  have hevaluated : (evaluatePosition p s).adv.positions.get p =
      { s.adv.positions.get p with value := advisoryValue s.verd.seats (s.adv.positions.get p).seat } := by
    rw [← evaluatePosition_value]
    exact congrArg (fun x => ({ seat := x, value := _ } : Advisory)) (evaluatePosition_seat p p s)
  unfold evaluateIf
  rcases hseat : (s.adv.positions.get p).seat with _ | i
  · simp
  · cases hg : g i
    · simp [hg]
    · simp [hg, hevaluated, hseat]

/-- ADV evaluates the positions of the seats concerned and no other (R124). -/
theorem advSeats_position (g : Seat → Bool) (p : Pos) (s : State) : (advSeats g s).adv.positions.get p =
    { s.adv.positions.get p with value :=
        if (s.adv.positions.get p).seat.any g = true then advisoryValue s.verd.seats (s.adv.positions.get p).seat
        else (s.adv.positions.get p).value } := by
  have h0 := evaluateIf_reported g 0 s
  have h1 := evaluateIf_reported g 1 (evaluateIf g 0 s)
  match p with
  | 0 => rw [advSeats, (h1.other 0 (by decide)).1, evaluateIf_position]
  | 1 => rw [advSeats, evaluateIf_position, (h0.other 1 (by decide)).1, h0.verd]

theorem ignitionOn_reported (s : State) : PositionsReported s (ignitionOn s) :=
  positionsReported_congr (advSeats_reported s.resumes (seatsResumed s)) (fun _ => rfl) rfl rfl rfl (ignitionOn_adv s)
    (ignitionOn_sup s)
    (by rw [ignitionOn_verd, (advSeats_resumed s).verd]; rfl)

theorem ignitionOn_position (s : State) (p : Pos) : (ignitionOn s).adv.positions.get p =
    { s.adv.positions.get p with value :=
        (if (s.adv.positions.get p).seat.any s.resumes = true
          then advisoryValue (ignitionOn s).verd.seats (s.adv.positions.get p).seat
          else (s.adv.positions.get p).value) } := by
  rw [ignitionOn_adv, advSeats_position, ignitionOn_verd]
  rfl

theorem ignitionOn_pins (s : State) :
    (ignitionOn s).pins = { s.pins with attn := (ignitionOn s).pins.attn, sup := (ignitionOn s).pins.sup } := by
  have hadv : (advSeats s.resumes (seatsResumed s)).pins =
      { s.pins with attn := (advSeats s.resumes (seatsResumed s)).pins.attn, sup := (advSeats s.resumes (seatsResumed s)).pins.sup } :=
    congrArg State.pins (advSeats_resumed s)
  have hp : (ignitionOn s).pins = (postEvent (remIgnitionOn s.resumeBudget (resumesTold s))).pins :=
    (congrArg State.pins (scanIgnitionOn_frame (postEvent (remIgnitionOn s.resumeBudget (resumesTold s)))) :)
  rw [hp, postEvent, postAll_pins_frame, (remTurnedOn_remMoves s).pins, resumesTold, postAll_pins_frame, hadv]

theorem ignitionOn_free (s : State) : (ignitionOn s).free = s.free := by
  rw [ignitionOn_eq, scanIgnitionOn_frame, postEvent, postAll_free, (remTurnedOn_remMoves s).free, resumesTold, postAll_free,
    (advSeats_resumed s).free]
  rfl

/-- Settles O8. -/
theorem ignitionOnEventResumesSnapshotsAndStartsTheTrip : Obligations.IgnitionOnEventResumesSnapshotsAndStartsTheTrip := by
  refine ⟨fun s hdebounce hoff => ⟨ignitionOn s, ?_, ?_⟩, fun s h => ⟨s, ?_, rfl⟩⟩
  · simp [exec, execIgnitionOn, hdebounce, hoff]
  · refine ⟨?_, fun i => ?_, ignitionOn_rem_frame s, ignitionOn_summary s, ignitionOn_table s, fun i => ?_, fun i hi => ?_,
      ignitionOn_lnk s, fun hstopped => ?_, fun hother => ?_, fun p => ⟨?_, fun hp => ?_, fun i hi hheld hactive => ?_⟩, ?_, ?_⟩
    · rw [ignitionOn_ret]; rfl
    · rw [ignitionOn_verd, resumedSeats_get]
      simp only [resumes_iff, SeatRec.resumed, Bool.and_eq_true]
    · rw [ignitionOn_table]; exact movedTo_fits ..
    · rw [ignitionOn_table, movedTo_none_budget (r := { s.rem.table.get i with budget := budgetAtOn s i }) _ _ hi,
        ignitionOn_rem_frame]
    · rw [ignitionOn_scan, if_pos hstopped]
    · rw [ignitionOn_scan, if_neg hother]
    · rw [ignitionOn_position]
    · have hsame : (ignitionOn s).adv.positions.get p = s.adv.positions.get p := by
        have hnot : ¬ (s.adv.positions.get p).seat.any s.resumes = true := by rw [Bool.not_eq_true]; exact hp
        rw [ignitionOn_position, if_neg hnot]
      obtain ⟨hpair, -, -⟩ := ignitionOn_reported s
      exact ⟨hsame, by rw [hpair p, hsame, if_pos rfl]⟩
    · have hresumes : s.resumes i = true := (resumes_iff s i).2 ⟨hheld, hactive⟩
      have hlife : ((ignitionOn s).verd.seats.get i).lifecycle = .active := by
        rw [ignitionOn_verd, resumedSeats_get, if_pos hresumes]; exact hactive
      rw [ignitionOn_position, hi, Option.any_some, if_pos hresumes, advisoryValue_some, if_pos hlife]
    · exact ignitionOn_reported s
    · exact state_ext (ignitionOn_cmap s) rfl (ignitionOn_feat s) (by rw [ignitionOn_verd]) rfl rfl rfl rfl
        (ignitionOn_store s) (ignitionOn_pins s) (ignitionOn_free s) (ignitionOn_pending s)
  · have hnot : ¬ (s.ret.ignDebounce = true ∧ s.ret.ignition = .off) := by
      rintro ⟨hdebounce, hoff⟩
      rcases h with h | h
      · rw [hdebounce] at h; cases h
      · rw [hoff] at h; cases h
    simp only [exec, execIgnitionOn, if_neg hnot]

end Sys2Proof.Machine

/-! SUPPORT. Settles the statements on REM's timers and the speed record: a step (O27), the start interval (O28), the stages
(O29), the freshness timer (O30). -/

namespace Sys2Proof.Machine

open Sys2Proof.Safety

variable {s t u v : State}

/-! ## The end of an event of REM -/

/-- An event of REM that took `s` to `v` ends: the summary is re-derived and the notices are posted (R107, R120). -/
def eventEnded (s v : State) : State := postEvent (endRemEvent (v, reminderNotices s.rem.table v.rem.table))

theorem eventEnded_rem (s v : State) : (eventEnded s v).rem = { v.rem with summary := (eventEnded s v).rem.summary } := by
  rw [eventEnded, postEvent, postAll_rem]
  rfl

theorem eventEnded_table (s v : State) : (eventEnded s v).rem.table = v.rem.table := by rw [eventEnded_rem]

theorem eventEnded_summary (s v : State) : SummaryLaw (eventEnded s v) := by
  refine summaryLaw_congr (refreshSummary_law v) ?_ ?_ ?_ <;> simp [eventEnded, postEvent]

theorem eventEnded_frame (h : RemMoves s v) (hsummary : v.rem.summary = s.rem.summary) : eventEnded s v = { s with
    rem := { v.rem with summary := (eventEnded s v).rem.summary }
    lnk := enqueue (remindersOf s (eventEnded s v) ++ cabinOf s (eventEnded s v)) s.lnk
    pins := { s.pins with attn := (eventEnded s v).pins.attn } } := by
  have hrem : (eventEnded s v).rem = v.refreshSummary.rem := postAll_rem ..
  have hlnk : (eventEnded s v).lnk =
      enqueue (remindersOf s (eventEnded s v) ++ cabinOf s (eventEnded s v)) s.lnk := by
    rw [← remNotices_eq (v := v) (by rw [hrem]; rfl) (by rw [hrem]; rfl) hsummary, ← h.lnk]
    exact postAll_lnk ..
  have hpins : (eventEnded s v).pins = { s.pins with attn := (eventEnded s v).pins.attn } := by
    rw [← h.pins]
    exact postAll_pins_frame ..
  exact state_ext ((postAll_cmap ..).trans h.cmap) ((postAll_scan ..).trans h.scan) ((postAll_feat ..).trans h.feat)
    ((postAll_verd ..).trans h.verd) (eventEnded_rem s v) ((postAll_adv ..).trans h.adv) ((postAll_ret ..).trans h.ret) hlnk
    ((postAll_store ..).trans h.store) hpins ((postAll_free ..).trans h.free) ((postAll_pending ..).trans h.pending)

/-- The frame of an event whose notices are named by the fields they reach. -/
theorem eventEnded_fields (h : RemMoves s v) (hsummary : v.rem.summary = s.rem.summary) : eventEnded s v = { s with
    rem := { v.rem with table := (eventEnded s v).rem.table, summary := (eventEnded s v).rem.summary }
    lnk := { s.lnk with notices := (eventEnded s v).lnk.notices, overflow := (eventEnded s v).lnk.overflow }
    pins := { s.pins with attn := (eventEnded s v).pins.attn } } := by
  have hframe := eventEnded_frame h hsummary
  have hlnk := congrArg State.lnk hframe
  refine hframe.trans ?_
  rw [hlnk, eventEnded_table]
  rfl

/-! ## The trigger coming to hold (R103) -/

theorem reminderNotices_self (x : Tab 16 ReminderRec) : reminderNotices x x = [] := by simp [reminderNotices]

theorem evaluateTrigger_notices (b : Bool) (s : State) :
    (evaluateTrigger b s).2 = reminderNotices s.rem.table (evaluateTrigger b s).1.rem.table := by
  rcases evaluateTrigger_cases b s with ⟨-, -, h⟩ | ⟨-, h⟩ <;> rw [h]
  · rfl
  · exact (reminderNotices_self _).symm

theorem evaluateTrigger_rem (b : Bool) (s : State) :
    (evaluateTrigger b s).1.rem = { s.rem with table := (evaluateTrigger b s).1.rem.table } := by
  rcases evaluateTrigger_cases b s with ⟨-, -, h⟩ | ⟨-, h⟩ <;> rw [h]
  rfl

/-- An evaluation under the trigger moves a record that fits its case only from ARMED, unbelted (R110 to R114). -/
theorem movedTo_settled {k : ReminderCase} {r : ReminderRec} (hfits : fitsCase k r.state = true)
    (hvisual : r.state ≠ .visual → r.visual = 0) (htrigger : triggerHolds s = true) :
    movedTo s k r = if r.state = .armed ∧ k = .unbelted then visualFrom s r else r := by
  cases k with
  | notReminded =>
    have hstate : r.state = .none := by simpa [fitsCase] using hfits
    obtain ⟨st, visual, budget⟩ := r
    obtain rfl : st = .none := hstate
    obtain rfl : visual = 0 := hvisual nofun
    simp [movedTo]
  | belted =>
    have hstate : r.state = .latched := by simpa [fitsCase] using hfits
    simp [movedTo, hstate]
  | unbelted => cases hstate : r.state <;> simp [fitsCase, hstate] at hfits <;> simp [movedTo, hstate, htrigger]
  | buckleUnknown =>
    have hstate : r.state = .armed := by simpa [fitsCase] using hfits
    simp [movedTo, hstate]
  | childUnsecured =>
    have hstate : r.state = .childUnsecured := by simpa [fitsCase] using hfits
    simp [movedTo, hstate]

/-- When the trigger comes to hold, the unbelted seats in ARMED enter the stages and no other record moves (R103, R111). -/
theorem evaluateTrigger_table (b : Bool) {i : Seat} (hfits : s.ret.ignition = .on →
      fitsCase (caseOf (s.cmap.seats.get i) (s.verd.seats.get i)) (s.rem.table.get i).state = true)
    (hvisual : (s.rem.table.get i).state ≠ .visual → (s.rem.table.get i).visual = 0) :
    (evaluateTrigger b s).1.rem.table.get i =
      if b = false ∧ triggerHolds s = true ∧ (s.rem.table.get i).state = .armed ∧
          caseOf (s.cmap.seats.get i) (s.verd.seats.get i) = .unbelted then
        visualFrom s (s.rem.table.get i)
      else s.rem.table.get i := by
  rcases evaluateTrigger_cases b s with ⟨hb, htrigger, h⟩ | ⟨hnot, h⟩ <;> rw [h]
  · rw [trigger_eq] at htrigger
    have hon : s.ret.ignition = .on := by
      rw [triggerHolds, Bool.and_eq_true, decide_eq_true_eq] at htrigger
      exact htrigger.1
    rw [evaluateReminders_state, State.withTable_rem]
    dsimp only
    rw [evaluatedTable_on _ _ hon, if_pos rfl, moveReminder_eq, movedTo_settled (hfits hon) hvisual htrigger]
    simp only [hb, htrigger, true_and]
  · rw [if_neg]
    rintro ⟨hb, htrigger, -⟩
    rw [trigger_eq, hb, htrigger] at hnot
    rcases hnot with h | h <;> cases h

/-- An event that moved `s` to `u` without changing a record or a case, and then evaluated the trigger (R103). -/
theorem triggered_of_evaluated (htable : u.rem.table = s.rem.table) (hsummary : u.rem.summary = s.rem.summary)
    (hset : u.rem.settings = s.rem.settings) (hlnk : u.lnk = s.lnk)
    (hcase : ∀ i : Seat, caseOf (u.cmap.seats.get i) (u.verd.seats.get i) = caseOf (s.cmap.seats.get i) (s.verd.seats.get i))
    (hfits : u.ret.ignition = .on → ∀ i : Seat,
      fitsCase (caseOf (s.cmap.seats.get i) (s.verd.seats.get i)) (s.rem.table.get i).state = true)
    (htimer : TimerLaw s) (htrigger : triggerHolds t = triggerHolds u)
    (hrem : t.rem = (eventEnded u (evaluateTrigger s.trigger u).1).rem)
    (hseats : t.cmap.seats = u.cmap.seats) (hverd : t.verd.seats = u.verd.seats)
    (hnotices : t.lnk.notices = (eventEnded u (evaluateTrigger s.trigger u).1).lnk.notices)
    (hoverflow : t.lnk.overflow = (eventEnded u (evaluateTrigger s.trigger u).1).lnk.overflow) : Triggered s t := by
  have hmoves := evaluateTrigger_remMoves s.trigger u
  have hframe := eventEnded_frame hmoves (by rw [evaluateTrigger_rem])
  have hwords : remindersOf u (eventEnded u (evaluateTrigger s.trigger u).1) ++
      cabinOf u (eventEnded u (evaluateTrigger s.trigger u).1) = remindersOf s t ++ cabinOf s t := by
    rw [remindersOf, remindersOf, cabinOf, cabinOf, htable, hsummary, hrem]
  have hl := congrArg State.lnk hframe
  rw [hwords, hlnk] at hl
  refine ⟨fun i => ?_, ?_, by rw [hnotices, hl], by rw [hoverflow, hl]⟩
  · obtain ⟨hvisual, -⟩ := htimer i
    rw [hrem, eventEnded_table, evaluateTrigger_table s.trigger (i := i) (fun hon => by rw [hcase, htable]; exact hfits hon i)
      (by rw [htable]; exact hvisual), htable, hcase, htrigger, trigger_eq, visualFrom, hset]
  · exact summaryLaw_congr (eventEnded_summary u _) hrem (by rw [hseats, hframe]) (by rw [hverd, hframe])

theorem postEvent_evaluateTrigger (b : Bool) (s : State) :
    postEvent (endRemEvent (evaluateTrigger b s)) = eventEnded s (evaluateTrigger b s).1 := by
  rw [eventEnded, ← evaluateTrigger_notices]

/-! ## The start interval (R102, O28) -/

/-- The start interval stopped and its flag set. -/
def startStopped (s : State) : State := { s with rem := { s.rem with startTimer := none, startElapsed := true } }

theorem startElapses_eq (s : State) : startElapses s = evaluateTrigger s.trigger (startStopped s) := rfl

/-- What the expiry of the start interval does (R102, R103). -/
theorem startElapses_event (hfits : ReminderLaw s) (htimer : TimerLaw s) (ht : t = postEvent (endRemEvent (startElapses s))) :
    t = { s with
      rem := { s.rem with startTimer := none, startElapsed := true, table := t.rem.table, summary := t.rem.summary }
      lnk := { s.lnk with notices := t.lnk.notices, overflow := t.lnk.overflow }
      pins := { s.pins with attn := t.pins.attn } } ∧ Triggered s t := by
  obtain rfl : t = eventEnded (startStopped s) (evaluateTrigger s.trigger (startStopped s)).1 := by
    rw [ht, startElapses_eq, postEvent_evaluateTrigger]
  have hframe := eventEnded_frame (evaluateTrigger_remMoves s.trigger (startStopped s)) (by rw [evaluateTrigger_rem])
  constructor
  · refine (eventEnded_fields (evaluateTrigger_remMoves s.trigger (startStopped s)) (by rw [evaluateTrigger_rem])).trans ?_
    rw [evaluateTrigger_rem]
    rfl
  · refine triggered_of_evaluated (u := startStopped s) rfl rfl rfl rfl (fun _ => rfl) hfits.2 htimer ?_ rfl ?_ ?_ rfl rfl
    · refine triggerHolds_congr ?_ ?_ ?_ ?_ <;> rw [hframe] <;> rw [evaluateTrigger_rem]
    · rw [hframe]
    · rw [hframe]

/-- Under the trigger the start interval moves no record (R103). -/
theorem countStart_table (h : s.trigger = true) : (countStart s).1.rem.table = s.rem.table := by
  rcases countStart_cases s with ⟨-, he⟩ | ⟨n, -, -, he⟩ | ⟨n, -, -, he⟩ <;> rw [he]
  rw [startElapses_triggered s h]

/-! ## A step of 0.1 s (R105, O27) -/

theorem countCondition_iff (s : State) : s.countCondition = true ↔ triggerHolds s = true ∧ s.rem.speed.isSome = true := by
  rw [State.countCondition, trigger_eq, Bool.and_eq_true]

theorem timerStep_event (hon : s.ret.ignition = .on) :
    postEvent (timerStep s) = eventEnded s (countStart (s.withTable s.countedTable)).1 := by
  rw [timerStep_on s hon, eventEnded]

theorem on_of_triggerHolds (h : triggerHolds s = true) : s.ret.ignition = .on := by
  rw [triggerHolds, Bool.and_eq_true, decide_eq_true_eq] at h
  exact h.1

theorem timerStep_counts (htrigger : triggerHolds s = true) (hspeed : s.rem.speed.isSome = true) (i : Seat) :
    (postEvent (timerStep s)).rem.table.get i = countedFrom (s.rem.table.get i) := by
  have hheld : (s.withTable s.countedTable).trigger = true := by rw [trigger_eq]; exact htrigger
  rw [timerStep_event (on_of_triggerHolds htrigger), eventEnded_table, countStart_table hheld]
  exact (countedTable_get s i).trans (if_pos ((countCondition_iff s).2 ⟨htrigger, hspeed⟩))

theorem not_counting (h : triggerHolds s = false ∨ s.rem.speed = none) : ¬ s.countCondition = true := by
  rw [countCondition_iff]
  rintro ⟨htrigger, hspeed⟩
  rcases h with h | h
  · rw [htrigger] at h; cases h
  · rw [h] at hspeed; cases hspeed

theorem idle_counted (h : triggerHolds s = false ∨ s.rem.speed = none) : s.withTable s.countedTable = s := by
  have htable : s.countedTable = s.rem.table := Tab.ext_get fun i => (countedTable_get s i).trans (if_neg (not_counting h))
  rw [htable]
  rfl

/-- A start interval with more than one step left, or none, is one step lower (R105). -/
theorem countStart_counts (h : s.rem.startTimer.any (fun n => decide (n ≤ 1)) = false) :
    (countStart s).1 = { s with rem := { s.rem with startTimer := s.rem.startTimer.map (fun n => n - 1) } } := by
  rcases countStart_cases s with ⟨hn, he⟩ | ⟨n, hn, -, he⟩ | ⟨n, hn, hle, -⟩
  · rw [he, hn, Option.map_none, ← hn]
  · rw [he, hn]; rfl
  · simp [hn, hle] at h

theorem countStart_expires (h : s.rem.startTimer.any (fun n => decide (n ≤ 1)) = true) : countStart s = startElapses s := by
  rcases countStart_cases s with ⟨hn, -⟩ | ⟨n, hn, hmore, -⟩ | ⟨n, -, -, he⟩
  · simp [hn] at h
  · simp only [hn, Option.any_some, decide_eq_true_eq] at h; omega
  · exact he

/-- The step at which the start interval reaches 0 under no count is its expiry (R102, R105). -/
theorem timerStep_expires (hon : s.ret.ignition = .on) (hlast : s.rem.startTimer.any (fun n => decide (n ≤ 1)) = true)
    (hidle : triggerHolds s = false ∨ s.rem.speed = none) :
    postEvent (timerStep s) = postEvent (endRemEvent (startElapses s)) := by
  rw [timerStep_event hon, idle_counted hidle, countStart_expires hlast, startElapses_eq, postEvent_evaluateTrigger]
  rfl

/-- Settles O27. -/
theorem reminderTimerStepCountsOnlyUnderTheCountCondition : Obligations.ReminderTimerStepCountsOnlyUnderTheCountCondition := by
  have hcounted (s : State) : RemMoves s (countStart (s.withTable s.countedTable)).1 :=
    RemMoves.trans (.rem _) (countStart_remMoves _)
  refine ⟨fun s hon hmore => ⟨_, rfl, fun i => ?_, ?_, ?_⟩, fun s hon hlast htrigger hspeed =>
    ⟨_, rfl, timerStep_counts htrigger hspeed, ?_, ?_⟩, fun s hfits htimer hon hlast hidle => ⟨_, rfl, ?_⟩,
    fun s hoff => ⟨_, rfl, ?_⟩⟩
  · rw [timerStep_event hon, eventEnded_table, countStart_counts (s := s.withTable s.countedTable) hmore]
    exact (countedTable_get s i).trans (by simp only [countCondition_iff])
  · rw [timerStep_event hon]; exact eventEnded_summary ..
  · have hv := countStart_counts (s := s.withTable s.countedTable) hmore
    rw [timerStep_event hon]
    refine (eventEnded_frame (hcounted s) (by rw [hv]; rfl)).trans ?_
    rw [eventEnded_table, hv]
    rfl
  · rw [timerStep_event hon]; exact eventEnded_summary ..
  · have hv : countStart (s.withTable s.countedTable) = _ := (countStart_expires (s := s.withTable s.countedTable) hlast).trans
      (startElapses_triggered (s.withTable s.countedTable) (by rw [trigger_eq]; exact htrigger))
    rw [timerStep_event hon]
    refine (eventEnded_frame (hcounted s) (by rw [hv]; rfl)).trans ?_
    rw [eventEnded_table, hv]
    rfl
  · exact startElapses_event hfits htimer (timerStep_expires hon hlast hidle)
  · rw [timerStep_off s hoff]; rfl

/-- Settles O28. -/
theorem startIntervalExpirySetsTheFlagAndTheTrigger : Obligations.StartIntervalExpirySetsTheFlagAndTheTrigger := by
  refine ⟨fun s hfits htimer hdue => ⟨_, rfl, ?_⟩, fun s hlast => ⟨_, rfl, ?_, fun hon => ?_⟩,
    fun s h0 h1 => ⟨_, rfl, ?_⟩⟩
  · exact startElapses_event hfits htimer (by rw [startIntervalExpires, if_pos hdue])
  · rw [startIntervalExpires, hlast]; rfl
  · have hlast' : s.rem.startTimer.any (fun n => decide (n ≤ 1)) = true := by rw [hlast]; rfl
    have hv := countStart_expires (s := s.withTable s.countedTable) hlast'
    rw [startIntervalExpires, hlast, if_neg (by decide), if_pos rfl, timerStep_event hon, eventEnded_rem, hv, startElapses_eq,
      evaluateTrigger_rem]
    exact ⟨rfl, rfl⟩
  · rw [startIntervalExpires, if_neg h0, if_neg h1]; rfl

/-! ## The stages (R108, R109, O29) -/

theorem filter_seat_eq (i : Seat) : (List.finRange 16).filter (fun j : Seat => decide (j = i)) = [i] := by
  revert i; decide

/-- One seat's record replaced at an event (R107). -/
theorem moveSeat_event (i : Seat) (r : ReminderRec) (hstate : (s.rem.table.get i).state ≠ r.state)
    (ht : t = postEvent (endRemEvent (moveSeat i r s))) :
    (∀ j : Seat, t.rem.table.get j = if j = i then r else s.rem.table.get j) ∧ SummaryLaw t ∧
    t = { s with
      rem := { s.rem with table := t.rem.table, summary := t.rem.summary }
      lnk := enqueue (.reminder i r.state :: cabinOf s t) s.lnk
      pins := { s.pins with attn := t.pins.attn } } := by
  obtain rfl : t = eventEnded s (s.withTable (s.rem.table.set i r)) := ht
  have htable (j : Seat) : (eventEnded s (s.withTable (s.rem.table.set i r))).rem.table.get j =
      if j = i then r else s.rem.table.get j := by
    rw [eventEnded_table, State.withTable_rem]
    exact Tab.get_set ..
  have hnotices : remindersOf s (eventEnded s (s.withTable (s.rem.table.set i r))) = [.reminder i r.state] := by
    have hchanged : (fun j : Seat => decide ((s.rem.table.get j).state ≠
        ((eventEnded s (s.withTable (s.rem.table.set i r))).rem.table.get j).state)) = fun j => decide (j = i) := by
      funext j
      rw [htable]
      by_cases hj : j = i <;> simp [hj, hstate]
    rw [remindersOf, hchanged, filter_seat_eq, List.map_singleton, htable, if_pos rfl]
  refine ⟨htable, eventEnded_summary .., (eventEnded_frame (v := s.withTable (s.rem.table.set i r)) (.rem _) rfl).trans ?_⟩
  rw [hnotices, eventEnded_table]
  rfl

/-- Settles O29. -/
theorem stageExpiriesMoveVisualToAudibleAndAudibleToCapped :
    Obligations.StageExpiriesMoveVisualToAudibleAndAudibleToCapped := by
  refine ⟨fun s i hstate hdue => ⟨_, rfl, ?_⟩, fun s i hstate hdue => ⟨_, rfl, ?_⟩,
    fun s i hstate hlast htrigger hspeed => ⟨_, rfl, ?_⟩, fun s i hstate hlast htrigger hspeed => ⟨_, rfl, ?_⟩,
    fun s i h => ⟨_, rfl, ?_⟩, fun s i h => ⟨_, rfl, ?_⟩⟩
  · have hmoved : (s.rem.table.get i).state ≠ (audibleFrom (s.rem.table.get i)).state := by
      rw [hstate, audibleFrom]; dsimp only; split <;> decide
    obtain ⟨htable, hsummary, hframe⟩ := moveSeat_event (t := postEvent (visualExpires i s)) i _ hmoved
      (by rw [visualExpires, if_pos ⟨hstate, hdue⟩, enterAudible_eq_audibleFrom])
    refine ⟨htable, hsummary, ?_⟩
    rw [htable i, if_pos rfl]
    exact hframe
  · have hrec : (s.rem.table.get i).to .capped = { state := .capped, visual := 0, budget := 0 } := by
      rw [ReminderRec.to, hdue]
    exact moveSeat_event i _ (by rw [hstate]; decide) (by rw [budgetExpires, if_pos ⟨hstate, hdue⟩, hrec])
  · have hstep : visualExpires i s = timerStep s := by
      rw [visualExpires, if_neg (by rw [hlast]; rintro ⟨-, h⟩; cases h),
        if_pos ⟨hstate, hlast, (countCondition_iff s).2 ⟨htrigger, hspeed⟩⟩]
    refine ⟨by rw [hstep]; rfl, ?_⟩
    rw [hstep, timerStep_counts htrigger hspeed]
    simp [countedFrom, hstate, hlast]
  · have hstep : budgetExpires i s = timerStep s := by
      rw [budgetExpires, if_neg (by rw [hlast]; rintro ⟨-, h⟩; cases h),
        if_pos ⟨hstate, hlast, (countCondition_iff s).2 ⟨htrigger, hspeed⟩⟩]
    refine ⟨by rw [hstep]; rfl, ?_⟩
    rw [hstep, timerStep_counts htrigger hspeed]
    simp [countedFrom, hstate, hlast]
  · have hnot1 : ¬ ((s.rem.table.get i).state = .visual ∧ (s.rem.table.get i).visual = 0) := fun hdue => by
      rcases h with h | ⟨h, -⟩
      · exact h hdue.1
      · exact h hdue.2
    have hnot2 : ¬ ((s.rem.table.get i).state = .visual ∧ (s.rem.table.get i).visual = 1 ∧ s.countCondition = true) := by
      rintro ⟨hstate, hlast, hcount⟩
      rcases h with h | ⟨-, h⟩
      · exact h hstate
      · exact not_counting (h.resolve_left fun h => h hlast) hcount
    rw [visualExpires, if_neg hnot1, if_neg hnot2]
    rfl
  · have hnot1 : ¬ ((s.rem.table.get i).state = .audible ∧ (s.rem.table.get i).budget = 0) := fun hdue => by
      rcases h with h | ⟨h, -⟩
      · exact h hdue.1
      · exact h hdue.2
    have hnot2 : ¬ ((s.rem.table.get i).state = .audible ∧ (s.rem.table.get i).budget = 1 ∧ s.countCondition = true) := by
      rintro ⟨hstate, hlast, hcount⟩
      rcases h with h | ⟨-, h⟩
      · exact h hstate
      · exact not_counting (h.resolve_left fun h => h hlast) hcount
    rw [budgetExpires, if_neg hnot1, if_neg hnot2]
    rfl

/-! ## The speed record (R100, R101, O30) -/

/-- A summary that meets the law is the one derived (R119). -/
theorem deriveSummary_of_law (h : SummaryLaw s) : s.deriveSummary = s.rem.summary := by
  obtain ⟨hchime, hvisual, hchild, hoccupied, hlatched⟩ := h
  obtain ⟨hchime', hvisual', hchild', hoccupied', hlatched'⟩ := refreshSummary_law s
  have hset {x y : SeatSet} (h : ∀ i : Seat, x.get i = true ↔ y.get i = true) : x = y :=
    Tab.ext_get fun i => Bool.eq_iff_iff.2 (h i)
  have hc : s.deriveSummary.chime = s.rem.summary.chime := Bool.eq_iff_iff.2 (hchime'.trans hchime.symm)
  have hv : s.deriveSummary.visual = s.rem.summary.visual := hset fun i => (hvisual' i).trans (hvisual i).symm
  have hk : s.deriveSummary.child = s.rem.summary.child := hset fun i => (hchild' i).trans (hchild i).symm
  have ho : s.deriveSummary.occupied = s.rem.summary.occupied := hoccupied'.trans hoccupied.symm
  have hl : s.deriveSummary.latched = s.rem.summary.latched := hlatched'.trans hlatched.symm
  generalize s.deriveSummary = d at *
  generalize s.rem.summary = x at *
  cases d
  cases x
  rw [Summary.mk.injEq]
  exact ⟨hc, hv, hk, ho, hl⟩

theorem speedTaken_case (x : Option Nat) (b : Bool) (s : State) (i : Seat) :
    caseOf ((speedTaken x b s).cmap.seats.get i) ((speedTaken x b s).verd.seats.get i) =
      caseOf (s.cmap.seats.get i) (s.verd.seats.get i) := by
  rw [speedTaken, evaluateHold_get]
  rfl

theorem speedTaken_summary (x : Option Nat) (b : Bool) (s : State) : (speedTaken x b s).deriveSummary = s.deriveSummary := by
  simp only [State.deriveSummary, speedTaken, evaluateHold_get]
  rfl

/-- An unknown speed never brings the trigger to hold (R103). -/
theorem speedUnknown_trigger (s : State) (h : triggerHolds (speedTaken none false s) = true) : triggerHolds s = true := by
  simp only [triggerHolds, speedTaken, evaluateHold, Option.any_none, Bool.or_false, Bool.and_eq_true] at h
  obtain ⟨hon, helapsed⟩ := h
  simp [triggerHolds, of_decide_eq_true hon, helapsed]

theorem speedLost_eq (h : SummaryLaw s) : speedChanges none false s = speedTaken none false s := by
  have hstill : evaluateTrigger s.trigger (speedTaken none false s) = (speedTaken none false s, []) := by
    rcases evaluateTrigger_cases s.trigger (speedTaken none false s) with ⟨hbefore, hafter, -⟩ | ⟨-, he⟩
    · rw [trigger_eq] at hbefore hafter
      rw [speedUnknown_trigger s hafter] at hbefore
      cases hbefore
    · exact he
  have hderived : (speedTaken none false s).deriveSummary = (speedTaken none false s).rem.summary :=
    (speedTaken_summary none false s).trans (deriveSummary_of_law h)
  have hsame : (speedTaken none false s).refreshSummary = speedTaken none false s := by
    rw [State.refreshSummary, hderived]
  have hquiet : endRemEvent (speedTaken none false s, []) = (speedTaken none false s, []) := by
    rw [endRemEvent, hderived, cabinNotices, if_pos ⟨rfl, rfl, rfl⟩, hsame]
    rfl
  rw [speedChanges_eq]
  exact (congrArg (fun r => postEvent (endRemEvent r)) hstill).trans ((congrArg postEvent hquiet).trans rfl)

/-- Settles O30. -/
theorem freshnessExpiryMakesTheSpeedUnknown : Obligations.FreshnessExpiryMakesTheSpeedUnknown := by
  refine ⟨fun s hsummary hrun => ⟨speedTaken none false s, ?_, rfl, evaluateHold_evaluated rfl⟩,
    fun s hstopped => ⟨s, ?_, rfl⟩⟩
  · rw [exec, execFreshnessExpiry, if_pos hrun, speedLost_eq hsummary]
  · rw [exec, execFreshnessExpiry, hstopped]
    rfl

end Sys2Proof.Machine

/-! SUPPORT. Settles the statements on VEHICLE STATE (O31) and REMINDER SET (O42). -/

namespace Sys2Proof.Machine

open Sys2Proof.Safety

variable {s t u v : State}

/-! ## Numbers of two bytes (R171) -/

theorem setNumber_lt (x : SeatSet) : setNumber x < 65536 := by
  have hle : setNumber x ≤ ((List.finRange 16).map fun i : Seat => 2 ^ i.val).sum :=
    List.sum_le_sum fun i _ => by split <;> simp
  have hfull : ((List.finRange 16).map fun i : Seat => 2 ^ i.val).sum = 65535 := by decide
  omega

theorem byte_of_small {n : Nat} (h : n < 256) : (byteOf n).toNat = n := by
  rw [byteOf, BitVec.toNat_ofNat]
  omega

theorem half_of_small {n : Nat} (h : n < 65536) : (byteOf n).toNat + 256 * (byteOf (n / 256)).toNat = n := by
  rw [byteOf, byteOf, BitVec.toNat_ofNat, BitVec.toNat_ofNat]
  omega

theorem seats_length_le (p : Seat → Bool) : ((List.finRange 16).filter p).length ≤ 16 :=
  (List.length_filter_le ..).trans (by simp)

/-! ## Requests that start a commit -/

section
variable {code : Byte} {owner : State → Answer} {barred : Bool} {inner : State → Answer} (hready : Ready s)
  (hcode : code ≠ mapWriteCode) (howner : owner (closed s) = guardCommit barred inner (closed s))
include hready hcode howner

theorem takeRequest_barred (h : barred = true) : takeRequest code owner s = refusing code .barred s :=
  takeRequest_refused code owner s .barred hready hcode (by rw [howner, h, guardCommit_barred])

theorem takeRequest_busy (h : barred = false) (hbusy : s.store.commit ≠ .idle) :
    takeRequest code owner s = refusing code .busy s :=
  takeRequest_refused code owner s .busy hready hcode (by rw [howner, h, guardCommit_busy inner (closed s) hbusy])

theorem takeRequest_free {body : List Byte} (h : barred = false) (hidle : s.store.commit = .idle)
    (hinner : inner (closed s) = Answer.ok t body) : takeRequest code owner s = answering code .ok body t :=
  takeRequest_ok code owner s t body hready hcode (by rw [howner, h, guardCommit_free inner (closed s) hidle, hinner])

end

/-! ## VEHICLE STATE (R100, O31) -/

/-- The part after a speed report, before the reply. -/
def speedReported (b : Byte) (s : State) : State := speedChanges (speedOf b) true (closed s)

theorem speedReported_eq (b : Byte) (s : State) : speedReported b s =
    eventEnded (speedTaken (speedOf b) true (closed s))
      (evaluateTrigger s.trigger (speedTaken (speedOf b) true (closed s))).1 := by
  rw [speedReported, speedChanges_eq, ← speedTaken, postEvent_evaluateTrigger]
  rfl

theorem speedReported_fields (b : Byte) (s : State) : speedReported b s = { closed s with
    verd := { s.verd with seats := (speedReported b s).verd.seats }
    rem := { s.rem with speed := speedOf b, freshness := true
                        table := (speedReported b s).rem.table, summary := (speedReported b s).rem.summary }
    lnk := { (closed s).lnk with
      notices := (speedReported b s).lnk.notices, overflow := (speedReported b s).lnk.overflow }
    pins := { s.pins with attn := (speedReported b s).pins.attn } } := by
  have hfields := eventEnded_fields (evaluateTrigger_remMoves s.trigger (speedTaken (speedOf b) true (closed s)))
    (by rw [evaluateTrigger_rem])
  rw [← speedReported_eq, evaluateTrigger_rem] at hfields
  have hverd : (speedReported b s).verd.seats = (speedTaken (speedOf b) true (closed s)).verd.seats := by
    rw [hfields]
  refine hfields.trans ?_
  rw [hverd]
  rfl

theorem speedReported_hold (b : Byte) (s : State) : HoldEvaluated s (speedReported b s) := by
  have hfields := eventEnded_fields (evaluateTrigger_remMoves s.trigger (speedTaken (speedOf b) true (closed s)))
    (by rw [evaluateTrigger_rem])
  rw [← speedReported_eq, evaluateTrigger_rem] at hfields
  refine holdEvaluated_congr (t := speedTaken (speedOf b) true (closed s)) (evaluateHold_evaluated rfl) ?_ ?_ ?_ ?_ ?_ <;>
    rw [hfields]

theorem speedReported_triggered (b : Byte) (hfits : ReminderLaw s) (htimer : TimerLaw s) :
    Triggered s (speedReported b s) := by
  have hfields := eventEnded_fields (evaluateTrigger_remMoves s.trigger (speedTaken (speedOf b) true (closed s)))
    (by rw [evaluateTrigger_rem])
  rw [← speedReported_eq, evaluateTrigger_rem] at hfields
  refine (triggered_of_evaluated (s := closed s) (u := speedTaken (speedOf b) true (closed s)) rfl rfl rfl rfl
    (speedTaken_case _ _ _) hfits.2 htimer ?_ (congrArg State.rem (speedReported_eq b s)) ?_ ?_
    (congrArg (·.lnk.notices) (speedReported_eq b s)) (congrArg (·.lnk.overflow) (speedReported_eq b s)) :)
  · refine triggerHolds_congr ?_ ?_ ?_ ?_ <;> rw [hfields]
  · rw [hfields]
  · rw [hfields]

/-- The reply of VEHICLE STATE (R100, R178). -/
def speedBody (x : Rem) : List Byte :=
  [speedByte x.speed, byteOf (bit x.summary.chime), byteOf (setNumber x.summary.visual),
    byteOf (setNumber x.summary.visual / 256), byteOf (setNumber x.summary.child),
    byteOf (setNumber x.summary.child / 256), byteOf x.summary.occupied, byteOf x.summary.latched]

theorem speedBody_eq (x : Rem) : [speedByte x.speed, byteOf x.summary.chime.toNat] ++ x.summary.setBytes = speedBody x := by
  rw [Summary.setBytes, seatSetBytes_eq_bytesOf, seatSetBytes_eq_bytesOf, toNat_eq_bit]
  rfl

theorem exec_vehicleState (s : State) (b : Byte) (h : Ready s) : exec (.vehicleState { body := [b], final := true }) s =
    .next (answering 0x41 .ok (speedBody (speedReported b s).rem) (speedReported b s)) := by
  rw [← speedBody_eq]
  exact congrArg Host.Outcome.next (takeRequest_ok 0x41 _ s (speedReported b s) _ h (by decide) rfl)

/-- Settles O31. -/
theorem vehicleStateSetsTheSpeedAndEvaluates : Obligations.VehicleStateSetsTheSpeedAndEvaluates := by
  intro s b hready hfits htimer
  have hsummary : SummaryLaw (speedReported b s) := by rw [speedReported_eq]; exact eventEnded_summary ..
  obtain ⟨-, -, -, hoccupied, hlatched⟩ := hsummary
  have hspeed : (speedReported b s).rem.speed = speedOf b := by rw [speedReported_fields]
  refine ⟨_, exec_vehicleState s b hready, speedReported_hold b s, speedReported_triggered b hfits htimer,
    congrArg (answering 0x41 .ok _) (speedReported_fields b s), rfl, ?_, ?_, ?_, ?_, ?_, ?_⟩
  · show (speedByte (speedReported b s).rem.speed).toNat = _
    rw [hspeed, speedOf]
    split
    · exact byte_of_small (by omega)
    · rfl
  · exact byte_of_small (by unfold bit; split <;> omega)
  · exact half_of_small (setNumber_lt (speedReported b s).rem.summary.visual)
  · exact half_of_small (setNumber_lt _)
  · exact byte_of_small (by rw [hoccupied]; exact (seats_length_le _).trans_lt (by decide))
  · exact byte_of_small (by rw [hlatched]; exact (seats_length_le _).trans_lt (by decide))

/-! ## REMINDER SET (R99, O42) -/

/-- REM after new settings, before the store and the reply. -/
def settingsApplied (new : ReminderSettings) (s : State) : State := postEvent (applySettings new (closed s))

theorem settingsApplied_eq (new : ReminderSettings) (s : State) : settingsApplied new s =
    eventEnded (closed s) (evaluateTrigger s.trigger (settingsTaken new (closed s))).1 := rfl

theorem settingsApplied_moves (new : ReminderSettings) (s : State) :
    RemMoves (closed s) (evaluateTrigger s.trigger (settingsTaken new (closed s))).1 :=
  RemMoves.trans (.rem _) (evaluateTrigger_remMoves ..)

theorem settingsApplied_frame (new : ReminderSettings) (s : State) : settingsApplied new s = { closed s with
    rem := { s.rem with settings := new, table := (settingsApplied new s).rem.table
                        summary := (settingsApplied new s).rem.summary }
    lnk := enqueue (remindersOf s (settingsApplied new s) ++ cabinOf s (settingsApplied new s)) (closed s).lnk
    pins := { s.pins with attn := (settingsApplied new s).pins.attn } } := by
  have hframe := eventEnded_frame (settingsApplied_moves new s) (by rw [evaluateTrigger_rem]; rfl)
  have htable : (settingsApplied new s).rem.table =
      (evaluateTrigger s.trigger (settingsTaken new (closed s))).1.rem.table := eventEnded_table ..
  rw [← settingsApplied_eq, evaluateTrigger_rem, ← htable] at hframe
  exact hframe

theorem lowerTimers_eq (new : ReminderSettings) (s : State) (r : ReminderRec) (hset : s.rem.settings = new) :
    lowerTimers s.reminderContext r =
      (let low : ReminderRec := { r with visual := min r.visual (10 * new.tVisual), budget := min r.budget (10 * new.tChime) }
      if low.state = .visual ∧ low.visual = 0 ∧ r.visual ≠ 0 then audibleFrom low
      else if low.state = .audible ∧ low.budget = 0 ∧ r.budget ≠ 0 then { low with state := .capped, visual := 0 }
      else low) := by
  rw [lowerTimers, State.reminderContext, steps, steps, hset, Nat.mul_comm _ 10, Nat.mul_comm _ 10]
  simp only [enterAudible_eq_audibleFrom, ReminderRec.to]

/-- A record that new settings let expire is not in ARMED, so the trigger does not move it again (R99, R103). -/
theorem lowered_triggered {P Q A B C : Prop} [Decidable P] [Decidable Q] [Decidable A] [Decidable B] [Decidable C]
    (low : ReminderRec) (g : ReminderRec → ReminderRec) {r : ReminderRec}
    (hr : r = if P then audibleFrom low else if Q then { low with state := .capped, visual := 0 } else low) :
    (if A ∧ B ∧ r.state = .armed ∧ C then g r else r) =
      if P then audibleFrom low else if Q then { low with state := .capped, visual := 0 }
      else if A ∧ B ∧ low.state = .armed ∧ C then g low else low := by
  by_cases hP : P
  · have hstate : (audibleFrom low).state ≠ .armed := by rw [audibleFrom]; dsimp only; split <;> decide
    rw [hr, if_pos hP, if_pos hP, if_neg fun h => hstate h.2.2.1]
  · by_cases hQ : Q
    · rw [hr, if_neg hP, if_neg hP, if_pos hQ, if_pos hQ, if_neg fun h => nomatch h.2.2.1]
    · rw [hr, if_neg hP, if_neg hP, if_neg hQ, if_neg hQ]

/-- The record of a seat after new settings (R99, R103). -/
theorem settingsApplied_table (new : ReminderSettings) (hfits : ReminderLaw s) (htimer : TimerLaw s) (i : Seat) :
    (settingsApplied new s).rem.table.get i =
      (let low : ReminderRec := { s.rem.table.get i with
        visual := min (s.rem.table.get i).visual (10 * new.tVisual)
        budget := min (s.rem.table.get i).budget (10 * new.tChime) }
      if low.state = .visual ∧ low.visual = 0 ∧ (s.rem.table.get i).visual ≠ 0 then audibleFrom low
      else if low.state = .audible ∧ low.budget = 0 ∧ (s.rem.table.get i).budget ≠ 0 then
        { low with state := .capped, visual := 0 }
      else if triggerHolds s = false ∧ triggerHolds (settingsApplied new s) = true ∧ low.state = .armed ∧
          caseOf (s.cmap.seats.get i) (s.verd.seats.get i) = .unbelted then
        (if new.tVisual = 0 then audibleFrom low
         else { low with state := .visual, visual := 10 * new.tVisual })
      else low) := by
  have hlow : (settingsTaken new (closed s)).rem.table.get i =
      lowerTimers { s with rem := { s.rem with settings := new } }.reminderContext (s.rem.table.get i) := Tab.get_ofFn ..
  have htrigger : triggerHolds (settingsApplied new s) = triggerHolds (settingsTaken new (closed s)) := by
    refine triggerHolds_congr ?_ ?_ ?_ ?_ <;> rw [settingsApplied_frame] <;> rfl
  have hok : TimersOk _ _ (lowerTimers { s with rem := { s.rem with settings := new } }.reminderContext (s.rem.table.get i)) :=
    lowerTimers_timersOk _ ((timerLaw_iff s).1 htimer i)
  rw [settingsApplied_eq, eventEnded_table, ← settingsApplied_eq,
    evaluateTrigger_table s.trigger (i := i) (fun hon => by rw [hlow]; exact fitsCase_lowerTimers _ (hfits.2 hon i))
      (by rw [hlow]; exact hok.outside),
    ← htrigger, hlow, trigger_eq]
  exact lowered_triggered _ (visualFrom (settingsTaken new (closed s)))
    (lowerTimers_eq new { s with rem := { s.rem with settings := new } } _ rfl)

/-- The settings that six bytes ask for (R99, R172). -/
def settingsSent (b0 b1 b2 b3 b4 b5 : Byte) : ReminderSettings :=
  { vRemind := b0.toNat, vHold := b1.toNat, tStart := ofLe16 b2 b3, tVisual := b4.toNat, tChime := b5.toNat }

theorem settingsSent_clamped (b0 b1 b2 b3 b4 b5 : Byte) : (settingsSent b0 b1 b2 b3 b4 b5).clamped = {
    vRemind := within 5 60 b0.toNat, vHold := within 3 60 b1.toNat
    tStart := within 10 300 (b2.toNat + 256 * b3.toNat), tVisual := min 60 b4.toNat, tChime := within 10 240 b5.toNat } := by
  simp only [ReminderSettings.clamped, settingsSent, ofLe16, clamp_eq_within (show 5 ≤ 60 by decide),
    clamp_eq_within (show 3 ≤ 60 by decide), clamp_eq_within (show 10 ≤ 300 by decide),
    clamp_eq_within (show 0 ≤ 60 by decide), clamp_eq_within (show 10 ≤ 240 by decide), ReminderSettings.mk.injEq, true_and,
    and_true]
  exact Nat.zero_max _

/-- The part after an accepted REMINDER SET, before the reply (R99). -/
def remindersSet (new : ReminderSettings) (s : State) : State :=
  startCommit (settingsApplied new s).reminderImage (settingsApplied new s)

theorem answerReminderSet_eq (b0 b1 b2 b3 b4 b5 : Byte) (s : State) :
    answerReminderSet { body := [b0, b1, b2, b3, b4, b5], final := true } (closed s) =
      guardCommit s.store.switches.profile (fun _ => Answer.ok (remindersSet (settingsSent b0 b1 b2 b3 b4 b5).clamped s)
        (settingsSent b0 b1 b2 b3 b4 b5).clamped.bytes) (closed s) := rfl

theorem remindersSet_frame (new : ReminderSettings) (s : State) : remindersSet new s = { s with
    rem := { s.rem with settings := new, table := (remindersSet new s).rem.table, summary := (remindersSet new s).rem.summary }
    lnk := enqueue (remindersOf s (remindersSet new s) ++ cabinOf s (remindersSet new s)) (closed s).lnk
    store := { s.store with commit := .one (.reminder new s.ret.tRetain) }
    pins := { s.pins with attn := (remindersSet new s).pins.attn } } := by
  have himage : (settingsApplied new s).reminderImage = .reminder new s.ret.tRetain := by
    rw [State.reminderImage, settingsApplied_frame]
    rfl
  have hframe := congrArg (startCommit (settingsApplied new s).reminderImage) (settingsApplied_frame new s)
  rw [himage] at hframe
  rw [remindersSet, himage]
  exact hframe

/-- Settles O42. -/
theorem reminderSettingsLowerTimersAndEvaluate : Obligations.ReminderSettingsLowerTimersAndEvaluate := by
  refine ⟨fun s b0 b1 b2 b3 b4 b5 hready hbarred => ⟨_, rfl,
      takeRequest_barred hready (by decide) (answerReminderSet_eq b0 b1 b2 b3 b4 b5 s) hbarred⟩,
    fun s b0 b1 b2 b3 b4 b5 hready hfree hbusy => ⟨_, rfl,
      takeRequest_busy hready (by decide) (answerReminderSet_eq b0 b1 b2 b3 b4 b5 s) hfree hbusy⟩,
    fun s b0 b1 b2 b3 b4 b5 hready hfits htimer hfree hidle => ⟨_, congrArg Host.Outcome.next
      (takeRequest_free hready (by decide) (answerReminderSet_eq b0 b1 b2 b3 b4 b5 s) hfree hidle rfl), ?_⟩⟩
  generalize hnew : (settingsSent b0 b1 b2 b3 b4 b5).clamped = new
  have hset : (answering 0x42 .ok new.bytes (remindersSet new s)).rem.settings = new :=
    congrArg (·.rem.settings) (remindersSet_frame new s)
  refine ⟨?_, fun i => ?_, ?_, ?_⟩
  · exact hset.trans (hnew.symm.trans (settingsSent_clamped b0 b1 b2 b3 b4 b5))
  · rw [hset]; exact settingsApplied_table new hfits htimer i
  · exact (eventEnded_summary (closed s) _ : SummaryLaw (settingsApplied new s))
  · rw [hset]; exact congrArg (answering 0x42 .ok new.bytes) (remindersSet_frame new s)

end Sys2Proof.Machine

/-! SUPPORT. Settles the statements on ROW_INSTALLED (O12) and ROW_REMOVED (O13). -/

namespace Sys2Proof.Machine

open Sys2Proof.Safety

variable {s t u v : State} {r : Row}

/-! ## The row and its seats (R10, R11) -/

theorem rowBecomes_rows (c : CMap) (r : Row) (st : RowState) (q : Row) :
    (c.rowBecomes r st).rowState.get q = (if q = r then st else c.rowState.get q) ∧
    (c.rowBecomes r st).rowDebounce.get q = (if q = r then false else c.rowDebounce.get q) := by
  rw [CMap.rowBecomes_rowState, CMap.rowBecomes_rowDebounce, Tab.get_set, Tab.get_set]
  exact ⟨rfl, rfl⟩

theorem rowSeated_record (r : Row) (st : RowState) (l : Lifecycle) (s : State) (i : Seat) :
    (rowSeated r st l s).verd.seats.get i =
      if (s.cmap.seats.get i).fitted = true ∧ (s.cmap.seats.get i).rowIx = r then freshSeat (s.cmap.seats.get i) l
      else s.verd.seats.get i := by
  rw [rowSeated_verd, freshRow_get]
  simp only [rowBecomes_inRow, inRow_iff, CMap.rowBecomes_seats]

theorem rowSeated_lnk_eq (r : Row) (st : RowState) (l : Lifecycle) (s : State) :
    (rowSeated r st l s).lnk = enqueue [.row r st] s.lnk := Lnk.post_eq_enqueue ..

theorem reminderNotices_congr {a b : Tab 16 ReminderRec} (h : ∀ i : Seat, (a.get i).state = (b.get i).state)
    (x : Tab 16 ReminderRec) : reminderNotices a x = reminderNotices b x := by
  simp only [reminderNotices, h]

/-! ## ROW_INSTALLED (R10, R117, O12) -/

/-- REM's table before the installed row is evaluated: full budgets in the row (R117). -/
def rowFilled (r : Row) (s : State) : Tab 16 ReminderRec := Tab.ofFn fun i =>
  if s.cmap.inRow r i then { s.rem.table.get i with visual := 0, budget := steps s.rem.settings.tChime }
  else s.rem.table.get i

/-- The part before REM evaluates the installed row. -/
def rowReady (r : Row) (s : State) : State := (rowSeated r .installed .active s).withTable (rowFilled r s)

/-- The part with the row's seats evaluated. -/
def rowEvaluated (r : Row) (s : State) : State := (evaluateReminders (s.cmap.inRow r) (rowReady r s)).1

theorem rowFilled_get (r : Row) (s : State) (i : Seat) : (rowFilled r s).get i =
    if s.cmap.inRow r i = true then { s.rem.table.get i with visual := 0, budget := steps s.rem.settings.tChime }
    else s.rem.table.get i := Tab.get_ofFn ..

theorem installRow_event (r : Row) (s : State) :
    installRow r s = eventEnded (rowSeated r .installed .active s) (rowEvaluated r s) := by
  have hstates : reminderNotices (rowFilled r s) (rowEvaluated r s).rem.table =
      reminderNotices s.rem.table (rowEvaluated r s).rem.table := by
    refine reminderNotices_congr (fun i => ?_) _
    rw [rowFilled_get]
    split <;> rfl
  rw [eventEnded, rowSeated_rem, ← hstates]
  rfl

theorem installRow_frame (r : Row) (s : State) : installRow r s = { s with
    cmap := s.cmap.rowBecomes r .installed
    verd := { s.verd with seats := (rowSeated r .installed .active s).verd.seats }
    rem := { s.rem with table := (installRow r s).rem.table, summary := (installRow r s).rem.summary }
    lnk := enqueue (.row r .installed :: (remindersOf s (installRow r s) ++ cabinOf s (installRow r s))) s.lnk
    pins := { s.pins with attn := (installRow r s).pins.attn } } := by
  have hmoves : RemMoves (rowSeated r .installed .active s) (rowEvaluated r s) := .rem _
  have htable : (installRow r s).rem.table = (rowEvaluated r s).rem.table := by rw [installRow_event, eventEnded_table]
  have hframe := eventEnded_frame hmoves rfl
  rw [← installRow_event, rowSeated_lnk_eq, enqueue_append] at hframe
  refine hframe.trans ?_
  rw [htable]
  rfl

theorem movedTo_buckleUnknown_of_rested {x : ReminderRec} (h : x.visual = 0) :
    movedTo s .buckleUnknown x = { state := .armed, visual := 0, budget := x.budget } := by
  obtain ⟨st, visual, budget⟩ := x
  obtain rfl : visual = 0 := h
  cases st <;> rfl

/-- The reminder of a seat after a row is installed (R10, R117). -/
theorem installRow_table (r : Row) (s : State) (i : Seat) : (installRow r s).rem.table.get i =
    if (s.cmap.seats.get i).fitted = true ∧ (s.cmap.seats.get i).rowIx = r then
      { state := if s.ret.ignition = .off then (s.rem.table.get i).state
          else if (s.cmap.seats.get i).presume = true ∧ (s.cmap.seats.get i).buckle = true then .armed else .none
        visual := 0, budget := 10 * s.rem.settings.tChime }
    else s.rem.table.get i := by
  have htable : (installRow r s).rem.table = (rowReady r s).evaluatedTable (s.cmap.inRow r) := by
    rw [installRow_event, eventEnded_table]; rfl
  have hfilled : (rowReady r s).rem.table.get i = if s.cmap.inRow r i = true
      then { s.rem.table.get i with visual := 0, budget := 10 * s.rem.settings.tChime } else s.rem.table.get i := by
    rw [Nat.mul_comm]; exact rowFilled_get r s i
  have hrecord : (rowReady r s).verd.seats.get i = _ := rowSeated_record r .installed .active s i
  rw [htable]
  by_cases hrow : s.cmap.inRow r i = true
  · have hin := (inRow_iff s.cmap r i).1 hrow
    rw [if_pos hrow] at hfilled
    rw [if_pos hin] at hrecord ⊢
    cases hign : s.ret.ignition with
    | off => rw [evaluatedTable_off _ (rowReady r s) hign, hfilled, if_pos rfl]
    | on =>
      have hcase : caseOf ((rowReady r s).cmap.seats.get i) ((rowReady r s).verd.seats.get i) =
          if (s.cmap.seats.get i).presume = true ∧ (s.cmap.seats.get i).buckle = true then .buckleUnknown
          else .notReminded := by
        rw [hrecord]
        refine (caseOf_fresh (s.cmap.seats.get i) .active (by decide)).trans ?_
        simp only [hin.1, true_and]
      rw [evaluatedTable_on _ (rowReady r s) hign, if_pos hrow, moveReminder_eq, hfilled, hcase,
          if_neg (show ¬ Ignition.on = Ignition.off by decide)]
      by_cases hpresumed : (s.cmap.seats.get i).presume = true ∧ (s.cmap.seats.get i).buckle = true
      · rw [if_pos hpresumed, if_pos hpresumed]
        exact movedTo_buckleUnknown_of_rested (s := rowReady r s)
          (x := { s.rem.table.get i with visual := 0, budget := 10 * s.rem.settings.tChime }) rfl
      · rw [if_neg hpresumed, if_neg hpresumed]
        rfl
  · rw [if_neg hrow] at hfilled
    rw [if_neg (mt (inRow_iff s.cmap r i).2 hrow)]
    cases hign : s.ret.ignition with
    | off => rw [evaluatedTable_off _ (rowReady r s) hign, hfilled]
    | on => rw [evaluatedTable_on _ (rowReady r s) hign, if_neg hrow, hfilled]

/-- Settles O12. -/
theorem rowInstallationMakesItsSeatsActiveAndFresh : Obligations.RowInstallationMakesItsSeatsActiveAndFresh := by
  refine ⟨fun s r hvalid hdebounce hremoved => ⟨installRow r s, ?_, fun q => ?_, fun i => ?_, ?_, ?_, ?_⟩,
    fun s r h => ⟨s, ?_, rfl⟩⟩
  · rw [exec, execRowInstalled, if_pos ⟨hvalid, hdebounce, hremoved⟩]
  · rw [installRow_cmap]; exact rowBecomes_rows ..
  · have hrecord : (installRow r s).verd.seats.get i = _ :=
      (congrArg (·.verd.seats.get i) (installRow_frame r s)).trans (rowSeated_record r .installed .active s i)
    have htable := installRow_table r s i
    split
    · rename_i hin
      rw [if_pos hin] at hrecord htable
      rw [hrecord, htable]
      exact ⟨rfl, freshSeat_isFresh .., rfl, rfl, rfl⟩
    · rename_i hin
      rw [if_neg hin] at hrecord htable
      exact ⟨hrecord, htable⟩
  · exact congrArg State.lnk (installRow_frame r s)
  · rw [installRow_event]; exact eventEnded_summary ..
  · have hframe := installRow_frame r s
    exact state_ext (by rw [installRow_cmap]; rfl) (installRow_scan r s) (installRow_feat r s) (by rw [hframe])
      (congrArg State.rem hframe :) (installRow_adv r s) (installRow_ret r s) rfl (installRow_store r s)
      (congrArg State.pins hframe :) (congrArg State.free hframe :) (installRow_pending r s)
  · have hnot : ¬ (s.cmap.valid = true ∧ s.cmap.rowDebounce.get r = true ∧ s.cmap.rowState.get r = .removed) := by
      rintro ⟨hvalid, hdebounce, hremoved⟩
      rw [hvalid, hdebounce] at h
      rcases h with h | h | h
      · cases h
      · cases h
      · exact h hremoved
    rw [exec, execRowInstalled, if_neg hnot]

/-! ## ROW_REMOVED (R11, O13) -/

theorem rowLeavesScan_eq (r : Row) (s : State) : rowLeavesScan r s = { s with scan := { s.scan with
    rest := s.scan.rest.filter fun i => !s.cmap.inRow r i
    probe := if s.scan.probe.seat.any (s.cmap.inRow r) = true then .free (some .row) else s.scan.probe } } := by
  unfold rowLeavesScan
  rcases s.scan.probe.seat with _ | i
  · rfl
  · cases hi : s.cmap.inRow r i <;> simp [hi, cancelProbe]

/-- Cutting a frame short reads no row state, seat record, notice or ATTN level. -/
theorem cutNow_rows_congr (s : State) (rows : Tab 5 RowState) (debounce : Tab 5 Bool) (seats : Tab 16 SeatRec) (l : Lnk)
    (attn : Bool) (ht : t = { s with
      cmap := { s.cmap with rowState := rows, rowDebounce := debounce }, verd := { s.verd with seats := seats }, lnk := l
      pins := { s.pins with attn := attn } }) :
    (cutNow t).scan = (cutNow s).scan ∧ (cutNow t).feat.intake = (cutNow s).feat.intake := by
  subst ht
  unfold cutNow
  rcases hstep : s.scan.step with _ | st
  · exact ⟨rfl, rfl⟩
  · rcases hphase : st.phase with x | x | m
    · simp only [hphase]
      unfold marked
      dsimp only
      split <;> exact ⟨rfl, rfl⟩
    · simp only [hphase, and_self]
    · simp only [hphase, and_self]

/-- SCAN before a frame of the row is cut short: the row has left the pass and its probe is cancelled (R31, R36). -/
def rowGone (r : Row) (s : State) : State := { s with scan := { s.scan with
  rest := s.scan.rest.filter fun i => !s.cmap.inRow r i
  probe := if s.scan.probe.seat.any (s.cmap.inRow r) = true then .free (some .row) else s.scan.probe } }

/-- The current frame is of the row. -/
def frameInRow (r : Row) (s : State) : Bool := s.scan.step.any fun st => s.cmap.inRow r st.seat

theorem scanRowRemoved_gone (r : Row) (s : State) : scanRowRemoved r s =
    if frameInRow r s = true then cutNow (rowGone r s) else rowGone r s := by
  have hgone : rowLeavesScan r s = rowGone r s := rowLeavesScan_eq r s
  have hstep : (rowGone r s).scan.step = s.scan.step := rfl
  rw [scanRowRemoved_eq, hgone, frameInRow, ← cutShort_eq, hstep]
  rcases s.scan.step with _ | st <;> rfl

theorem rowUnscanned_eq (r : Row) (s : State) : rowUnscanned r s =
    if frameInRow r s = true then cutNow (rowGone r (rowSeated r .removed .absent s))
    else rowGone r (rowSeated r .removed .absent s) := scanRowRemoved_gone ..

theorem rowUnscanned_frame (r : Row) (s : State) : rowUnscanned r s = { rowSeated r .removed .absent s with
    scan := (rowUnscanned r s).scan, feat := { s.feat with intake := (rowUnscanned r s).feat.intake } } := by
  have h := rowUnscanned_eq r s
  split at h
  · have hframe := h.trans (cutNow_frame _)
    rw [← h] at hframe
    exact hframe
  · rw [h]
    rfl

theorem rowUnscanned_scan (r : Row) (s : State) : (rowUnscanned r s).scan =
    if frameInRow r s = true then (cutNow (rowGone r s)).scan else (rowGone r s).scan := by
  rw [rowUnscanned_eq]
  split
  · exact (cutNow_rows_congr (rowGone r s) _ _ _ _ _ rfl).1
  · rfl

theorem rowUnscanned_intake (r : Row) (s : State) : (rowUnscanned r s).feat.intake =
    if frameInRow r s = true then (cutNow s).feat.intake else s.feat.intake := by
  rw [rowUnscanned_eq]
  split
  · exact (cutNow_rows_congr (rowGone r s) _ _ _ _ _ rfl).2.trans (cutNow_intake_congr s.ret rfl rfl rfl)
  · rfl

theorem abortCaptureOf_feat (g : Seat → Bool) (f : Feat) : (abortCaptureOf g f).1 = { f with
    capture := if f.capture.any (fun c => g c.seat && decide (c.state ≠ .committing)) = true then none else f.capture } := by
  obtain ⟨intake, acc, cal, capture⟩ := f
  rcases capture with _ | c
  · rfl
  · cases hg : g c.seat
    · simp [abortCaptureOf, hg]
    · by_cases hc : c.state = .committing <;> simp [abortCaptureOf, hg, abortCapture_feat, hc]

theorem removeRow_feat_eq (r : Row) (s : State) : (removeRow r s).feat = { s.feat with
    intake := (rowUnscanned r s).feat.intake
    capture := if s.feat.capture.any (fun c => s.cmap.inRow r c.seat && decide (c.state ≠ .committing)) = true then none
      else s.feat.capture } := by
  rw [removeRow_feat, rowUncaptured, abortCaptureOf_feat, rowUnscanned_frame]
  rfl

theorem removeRow_table (r : Row) (s : State) (i : Seat) : (removeRow r s).rem.table.get i =
    if s.cmap.inRow r i = true then { state := .none, visual := 0, budget := 10 * s.rem.settings.tChime }
    else s.rem.table.get i := by
  have h : (removeRow r s).rem.table = (withFeat (rowUncaptured r s).1 (rowUnscanned r s)).restedTable
      ((rowUnscanned r s).cmap.inRow r) := congrArg Rem.table (removeRow_rem r s)
  rw [h, rowUnscanned_frame, Nat.mul_comm]
  exact Tab.get_ofFn ..

theorem removeRow_rem_frame (r : Row) (s : State) : (removeRow r s).rem = { s.rem with
    table := (removeRow r s).rem.table, summary := (removeRow r s).rem.summary } := by
  have h : (removeRow r s).rem = { (rowUnscanned r s).rem with
      table := (removeRow r s).rem.table, summary := (removeRow r s).rem.summary } := by
    rw [removeRow_rem]; rfl
  rw [rowUnscanned_frame] at h
  exact h

/-- The part before the notices of the removal of a row are posted. -/
theorem rowForgotten_lnk (r : Row) (s : State) : (rowForgotten r s).1.lnk = enqueue [.row r .removed] s.lnk := by
  have h : (rowForgotten r s).1.lnk = (rowUnscanned r s).lnk := (rowUnreminded_remMoves r s).lnk
  rw [h, rowUnscanned_frame]
  exact rowSeated_lnk_eq ..

theorem removeRow_pins (r : Row) (s : State) : (removeRow r s).pins = { s.pins with attn := (removeRow r s).pins.attn } := by
  have h : (rowForgotten r s).1.pins = (rowUnscanned r s).pins := (rowUnreminded_remMoves r s).pins
  rw [removeRow_eq, postMerged, postAll_pins_frame]
  dsimp only
  rw [h, rowUnscanned_frame]
  rfl

/-- Settles O13. -/
theorem rowRemovalMakesItsSeatsAbsentEverywhere : Obligations.RowRemovalMakesItsSeatsAbsentEverywhere := by
  refine ⟨fun s r hvalid hdebounce hinstalled => ⟨removeRow r s, ?_, fun q => ?_, fun i => ?_, ?_, ?_, ?_, ?_, ?_, ?_, ?_, ?_⟩,
    fun s r h => ⟨s, ?_, rfl⟩⟩
  · rw [exec, execRowRemoved, if_pos ⟨hvalid, hdebounce, hinstalled⟩]
  · rw [removeRow_cmap]; exact rowBecomes_rows ..
  · have hrecord : (removeRow r s).verd.seats.get i = _ :=
      (congrArg (·.seats.get i) (removeRow_verd r s)).trans (rowSeated_record r .removed .absent s i)
    have htable := removeRow_table r s i
    have hsnapshot : (removeRow r s).ret.snapshots.get i = if s.cmap.inRow r i = true then none
        else s.ret.snapshots.get i := by rw [removeRow_ret]; exact drop_get ..
    simp only [inRow_iff] at htable hsnapshot
    split
    · rename_i hin
      rw [if_pos hin] at hrecord htable hsnapshot
      rw [hrecord]
      exact ⟨rfl, freshSeat_isFresh .., htable, hsnapshot⟩
    · rename_i hin
      rw [if_neg hin] at hrecord htable hsnapshot
      exact ⟨hrecord, htable, hsnapshot⟩
  · rw [removeRow_scan]; exact rowUnscanned_scan r s
  · rw [removeRow_feat_eq]; exact rowUnscanned_intake r s
  · rw [removeRow_feat_eq]; rfl
  · rw [removeRow_feat_eq]
  · rw [removeRow_feat_eq]
  · rw [removeRow_ret]; exact drop_timer ..
  · rw [removeRow_eq, postMerged_lnk, rowForgotten_lnk]; exact enqueue_prefix ..
  · have hlnk : (removeRow r s).lnk = { s.lnk with
        notices := (removeRow r s).lnk.notices, overflow := (removeRow r s).lnk.overflow } := by
      rw [removeRow_eq, postMerged_lnk, rowForgotten_lnk]
      rfl
    exact state_ext (by rw [removeRow_cmap]; rfl) rfl rfl (by rw [removeRow_verd]) (removeRow_rem_frame r s)
      (removeRow_adv r s) (by rw [removeRow_ret]; rfl) hlnk (removeRow_store r s) (removeRow_pins r s) rfl
      (removeRow_pending r s)
  · have hnot : ¬ (s.cmap.valid = true ∧ s.cmap.rowDebounce.get r = true ∧ s.cmap.rowState.get r = .installed) := by
      rintro ⟨hvalid, hdebounce, hinstalled⟩
      rw [hvalid, hdebounce] at h
      rcases h with h | h | h
      · cases h
      · cases h
      · exact h hinstalled
    rw [exec, execRowRemoved, if_neg hnot]

end Sys2Proof.Machine

/-! SUPPORT. What a frame does to the fields of its seat's record, step by step (R85 to R93), and to the notices. -/

namespace Sys2Proof.Machine

open Sys2Proof.Safety

variable {s t u v : State} {f : MatFrame} {r q : SeatRec}

/-! ## Step 2: the mat (R85 to R87) -/

/-- The fields of a record that step 3 owns, and the motion hold flag, stand as they were. -/
structure BodyKept (r q : SeatRec) : Prop where
  buckle : q.buckle = r.buckle
  agree : q.agree = r.agree
  buckleStreak : q.buckleStreak = r.buckleStreak
  anchor : q.anchor = r.anchor
  tensionFault : q.tensionFault = r.tensionFault
  tensionStreak : q.tensionStreak = r.tensionStreak
  motionHold : q.motionHold = r.motionHold

theorem BodyKept.trans {x : SeatRec} (h : BodyKept r q) (k : BodyKept q x) : BodyKept r x :=
  ⟨k.buckle.trans h.buckle, k.agree.trans h.agree, k.buckleStreak.trans h.buckleStreak, k.anchor.trans h.anchor,
    k.tensionFault.trans h.tensionFault, k.tensionStreak.trans h.tensionStreak, k.motionHold.trans h.motionHold⟩

theorem matStreaks_eq (f : MatFrame) (r : SeatRec) : matStreaks f r = { r with
    matStreak := if f.conditions.dirty = true then min 3 (r.matStreak + 1) else 0
    cleanStreak := if f.conditions.dirty = true then 0 else min 5 (r.cleanStreak + 1) } := by
  unfold matStreaks
  split <;> rfl

/-- The lifecycle after step 2, in the words of the statements (R86, R87). -/
def lifecycleAfter (f : MatFrame) (r : SeatRec) : Lifecycle :=
  if r.lifecycle = .active then (if f.conditions.dirty = true ∧ 2 ≤ r.matStreak then .faulted else .active)
  else if ¬ f.conditions.dirty = true ∧ 4 ≤ r.cleanStreak then .active else .faulted

/-- Step 2 of a seat that is ACTIVE or FAULTED: it stays, it is faulted, or it recovers. -/
theorem matStep_cases (hl : r.lifecycle = .active ∨ r.lifecycle = .faulted) :
    (lifecycleAfter f r = r.lifecycle ∧ matStep f r = (matStreaks f r, [])) ∨
    (r.lifecycle = .active ∧ lifecycleAfter f r = .faulted ∧
      matStep f r = ((matStreaks f r).faulted, [faultNotice f.seat (matStreaks f r).faulted])) ∨
    (r.lifecycle = .faulted ∧ lifecycleAfter f r = .active ∧
      matStep f r = ({ matStreaks f r with lifecycle := .active },
        [faultNotice f.seat { matStreaks f r with lifecycle := .active }])) := by
  rcases hl with hl | hl
  · by_cases h : f.conditions.dirty = true ∧ 2 ≤ r.matStreak
    · have hthree : min 3 (r.matStreak + 1) = 3 := by omega
      exact .inr (.inl ⟨hl, by rw [lifecycleAfter, if_pos hl, if_pos h], by simp [matStep, matStreaks, hl, h.1, hthree]⟩)
    · refine .inl ⟨by rw [lifecycleAfter, if_pos hl, if_neg h, hl], ?_⟩
      by_cases hd : f.conditions.dirty = true
      · have hless : min 3 (r.matStreak + 1) ≠ 3 := fun he => h ⟨hd, by omega⟩
        simp [matStep, matStreaks, hl, hd, hless]
      · simp [matStep, matStreaks, hl, hd]
  · have hnot : ¬ r.lifecycle = .active := by rw [hl]; decide
    by_cases h : ¬ f.conditions.dirty = true ∧ 4 ≤ r.cleanStreak
    · have hfive : min 5 (r.cleanStreak + 1) = 5 := by omega
      exact .inr (.inr ⟨hl, by rw [lifecycleAfter, if_neg hnot, if_pos h], by simp [matStep, matStreaks, hl, h.1, hfive]⟩)
    · refine .inl ⟨by rw [lifecycleAfter, if_neg hnot, if_neg h, hl], ?_⟩
      by_cases hd : f.conditions.dirty = true
      · simp [matStep, matStreaks, hl, hd]
      · have hless : min 5 (r.cleanStreak + 1) ≠ 5 := fun he => h ⟨hd, by omega⟩
        simp [matStep, matStreaks, hl, hd, hless]

section
variable (hl : r.lifecycle = .active ∨ r.lifecycle = .faulted)
include hl

theorem matStep_lifecycle : (matStep f r).1.lifecycle = lifecycleAfter f r := by
  rcases matStep_cases (f := f) hl with ⟨h, he⟩ | ⟨-, h, he⟩ | ⟨-, h, he⟩ <;> rw [he, h]
  · rw [matStreaks_eq]
  · rfl

theorem matStep_streaks : (matStep f r).1.matStreak = (matStreaks f r).matStreak ∧
    (matStep f r).1.cleanStreak = (matStreaks f r).cleanStreak := by
  rcases matStep_cases (f := f) hl with ⟨-, he⟩ | ⟨-, -, he⟩ | ⟨-, -, he⟩ <;> rw [he] <;> exact ⟨rfl, rfl⟩

theorem matStep_body : BodyKept r (matStep f r).1 := by
  have hstreaks : BodyKept r (matStreaks f r) := by rw [matStreaks_eq]; exact ⟨rfl, rfl, rfl, rfl, rfl, rfl, rfl⟩
  rcases matStep_cases (f := f) hl with ⟨-, he⟩ | ⟨-, -, he⟩ | ⟨-, -, he⟩ <;> rw [he] <;>
    exact hstreaks.trans ⟨rfl, rfl, rfl, rfl, rfl, rfl, rfl⟩

/-- The FAULT notice of step 2 (R96). -/
theorem matStep_posts : (matStep f r).2 =
    if r.lifecycle ≠ lifecycleAfter f r then [faultNotice f.seat (matStep f r).1] else [] := by
  rcases matStep_cases (f := f) hl with ⟨h, he⟩ | ⟨hr, h, he⟩ | ⟨hr, h, he⟩ <;> rw [he, h]
  · rw [if_neg (not_not.2 rfl)]
  · rw [hr, if_pos (by decide)]
  · rw [hr, if_pos (by decide)]

end

/-! ## Step 3: the buckle (R90, R91) -/

/-- The agree count after step 3. -/
def agreeAfter (f : MatFrame) (r : SeatRec) : Agree :=
  match f.band with
  | some .unlatched => r.agree.next false
  | some .latched => r.agree.next true
  | none => r.agree
  | _ => .zero

/-- The buckle fault streak after step 3. -/
def buckleStreakAfter (f : MatFrame) (r : SeatRec) : Nat :=
  match f.band with
  | some .unlatched => 0
  | some .latched => 0
  | none => r.buckleStreak
  | _ => min 3 (r.buckleStreak + 1)

/-- The buckle state after step 3. -/
def buckleAfter (f : MatFrame) (r : SeatRec) : BuckleState :=
  match f.band with
  | some .unlatched => if r.agree.next false = .run false 2 then .unlatched else r.buckle
  | some .latched => if r.agree.next true = .run true 2 then .latched else r.buckle
  | none => r.buckle
  | _ => if 2 ≤ r.buckleStreak then .fault else r.buckle

theorem goodBand_eq (i : Seat) (latched : Bool) (r : SeatRec) : goodBand i latched r =
    ({ r with buckle := if r.agree.next latched = .run latched 2 then goodState latched else r.buckle
              agree := r.agree.next latched, buckleStreak := 0 },
      if r.buckle ≠ (if r.agree.next latched = .run latched 2 then goodState latched else r.buckle)
      then [.buckle i (if r.agree.next latched = .run latched 2 then goodState latched else r.buckle)] else []) := by
  unfold goodBand
  by_cases ha : r.agree.next latched = .run latched 2
  · by_cases hb : r.buckle = goodState latched <;> simp [ha, hb]
  · simp [ha]

theorem badBand_eq (i : Seat) (r : SeatRec) : badBand i r =
    ({ r with buckle := if 2 ≤ r.buckleStreak then .fault else r.buckle
              agree := .zero, buckleStreak := min 3 (r.buckleStreak + 1) },
      if r.buckle ≠ (if 2 ≤ r.buckleStreak then .fault else r.buckle)
      then [.buckle i (if 2 ≤ r.buckleStreak then .fault else r.buckle)] else []) := by
  have hthree : min 3 (r.buckleStreak + 1) = 3 ↔ 2 ≤ r.buckleStreak := by omega
  unfold badBand
  by_cases hs : 2 ≤ r.buckleStreak
  · by_cases hb : r.buckle = .fault <;> simp [hs, hb]
  · simp [hs, hthree]

theorem buckleStep_eq (f : MatFrame) (r : SeatRec) : buckleStep f r =
    ({ r with buckle := buckleAfter f r, agree := agreeAfter f r, buckleStreak := buckleStreakAfter f r },
      if r.buckle ≠ buckleAfter f r then [.buckle f.seat (buckleAfter f r)] else []) := by
  unfold buckleStep buckleAfter agreeAfter buckleStreakAfter
  rcases f.band with _ | b
  · simp
  · cases b with
    | unlatched => exact goodBand_eq ..
    | latched => exact goodBand_eq ..
    | openCircuit => exact badBand_eq ..
    | short => exact badBand_eq ..

/-! ## Step 3: the tension reading (R93) -/

/-- The tension streak after step 3. -/
def tensionStreakAfter (f : MatFrame) (r : SeatRec) : Nat :=
  match f.tension with
  | some (_, valid) => if r.tensionFault = valid ∧ tensionAfter f r = r.tensionFault then r.tensionStreak + 1 else 0
  | none => r.tensionStreak

theorem tensionStep_eq (f : MatFrame) (r : SeatRec) : (tensionStep f r).1 =
    { r with tensionFault := tensionAfter f r, tensionStreak := tensionStreakAfter f r } := by
  rcases hf : f.tension with _ | ⟨reading, valid⟩
  · simp only [tensionStep, tensionAfter, tensionStreakAfter, hf]
  rcases hv : valid with _ | _ <;> rcases ht : r.tensionFault with _ | _
  case false.false =>
    by_cases hn : 2 ≤ r.tensionStreak <;> simp [tensionStep, tensionAfter, tensionStreakAfter, hf, hv, ht, hn]
  case true.true =>
    by_cases hn : 1 ≤ r.tensionStreak <;> simp [tensionStep, tensionAfter, tensionStreakAfter, hf, hv, ht, hn]
  all_goals simp [tensionStep, tensionAfter, tensionStreakAfter, hf, hv, ht]

theorem tensionStep_posts (f : MatFrame) (r : SeatRec) : (tensionStep f r).2 =
    if r.tensionFault ≠ tensionAfter f r then [faultNotice f.seat (tensionStep f r).1] else [] := by
  rcases hf : f.tension with _ | ⟨reading, valid⟩
  · simp [tensionStep, tensionAfter, hf]
  rcases hv : valid with _ | _ <;> rcases ht : r.tensionFault with _ | _
  case false.false =>
    by_cases hn : 2 ≤ r.tensionStreak <;> simp [tensionStep, tensionAfter, hf, hv, ht, hn]
  case true.true =>
    by_cases hn : 1 ≤ r.tensionStreak <;> simp [tensionStep, tensionAfter, hf, hv, ht, hn]
  all_goals simp [tensionStep, tensionAfter, hf, hv, ht]

/-! ## The whole handling of a record (R64) -/

/-- What steps 2 and 3 leave in the fields they own, and the motion hold flag. -/
structure FrameFollowed (m : SeatMap) (f : MatFrame) (r q : SeatRec) : Prop where
  lifecycle : q.lifecycle = lifecycleAfter f r
  matStreak : q.matStreak = if f.conditions.dirty = true then min 3 (r.matStreak + 1) else 0
  cleanStreak : q.cleanStreak = if f.conditions.dirty = true then 0 else min 5 (r.cleanStreak + 1)
  buckle : q.buckle = buckleAfter f r
  agree : q.agree = agreeAfter f r
  buckleStreak : q.buckleStreak = buckleStreakAfter f r
  anchor : q.anchor = anchorAfter m f r
  tensionFault : q.tensionFault = tensionAfter f r
  tensionStreak : q.tensionStreak = tensionStreakAfter f r
  motionHold : q.motionHold = r.motionHold

theorem BodyKept.buckleAfter (h : BodyKept r q) : Machine.buckleAfter f q = Machine.buckleAfter f r := by
  simp only [Machine.buckleAfter, h.agree, h.buckle, h.buckleStreak]

theorem BodyKept.agreeAfter (h : BodyKept r q) : Machine.agreeAfter f q = Machine.agreeAfter f r := by
  simp only [Machine.agreeAfter, h.agree]

theorem BodyKept.buckleStreakAfter (h : BodyKept r q) : Machine.buckleStreakAfter f q = Machine.buckleStreakAfter f r := by
  simp only [Machine.buckleStreakAfter, h.buckleStreak]

theorem anchorAfter_congr (m : SeatMap) (h : q.anchor = r.anchor) : anchorAfter m f q = anchorAfter m f r := by
  simp only [anchorAfter, h]

theorem tensionAfter_congr (hfault : q.tensionFault = r.tensionFault) (hstreak : q.tensionStreak = r.tensionStreak) :
    tensionAfter f q = tensionAfter f r := by
  simp only [tensionAfter, hfault, hstreak]

theorem tensionStreakAfter_congr (hfault : q.tensionFault = r.tensionFault) (hstreak : q.tensionStreak = r.tensionStreak) :
    tensionStreakAfter f q = tensionStreakAfter f r := by
  simp only [tensionStreakAfter, tensionAfter_congr (f := f) hfault hstreak, hfault, hstreak]

/-- The record before the tension reading is followed. -/
def anchored (m : SeatMap) (f : MatFrame) (r : SeatRec) : SeatRec := anchorStep m f (buckleStep f (matStep f r).1).1

theorem anchored_eq (m : SeatMap) (h : BodyKept r (matStep f r).1) : anchored m f r = { (matStep f r).1 with
    buckle := buckleAfter f r, agree := agreeAfter f r, buckleStreak := buckleStreakAfter f r
    anchor := anchorAfter m f r } := by
  rw [anchored, anchorStep_eq, buckleStep_eq, h.buckleAfter, h.agreeAfter, h.buckleStreakAfter]
  congr 1
  exact anchorAfter_congr m h.anchor

theorem followed_eq (m : SeatMap) (h : BodyKept r (matStep f r).1) : (followed m f r).1 = { (matStep f r).1 with
    buckle := buckleAfter f r, agree := agreeAfter f r, buckleStreak := buckleStreakAfter f r
    anchor := anchorAfter m f r, tensionFault := tensionAfter f r, tensionStreak := tensionStreakAfter f r } := by
  have hq : (followed m f r).1 = (tensionStep f (anchored m f r)).1 := rfl
  have hfault : (anchored m f r).tensionFault = r.tensionFault := by rw [anchored_eq m h]; exact h.tensionFault
  have hstreak : (anchored m f r).tensionStreak = r.tensionStreak := by rw [anchored_eq m h]; exact h.tensionStreak
  rw [hq, tensionStep_eq, tensionAfter_congr hfault hstreak, tensionStreakAfter_congr hfault hstreak, anchored_eq m h]

theorem followed_fields (m : SeatMap) (hl : r.lifecycle = .active ∨ r.lifecycle = .faulted) :
    FrameFollowed m f r (followed m f r).1 := by
  have hbody : BodyKept r (matStep f r).1 := matStep_body hl
  obtain ⟨hmat, hclean⟩ := matStep_streaks (f := f) hl
  rw [matStreaks_eq] at hmat hclean
  rw [followed_eq m hbody]
  exact ⟨matStep_lifecycle hl, hmat, hclean, rfl, rfl, rfl, rfl, rfl, rfl, hbody.motionHold⟩

theorem FrameFollowed.congr {m : SeatMap} (h : FrameFollowed m f r q) {x : SeatRec} (hlife : x.lifecycle = q.lifecycle)
    (hmat : x.matStreak = q.matStreak) (hclean : x.cleanStreak = q.cleanStreak) (hbody : BodyKept q x) :
    FrameFollowed m f r x :=
  ⟨hlife.trans h.lifecycle, hmat.trans h.matStreak, hclean.trans h.cleanStreak, hbody.buckle.trans h.buckle,
    hbody.agree.trans h.agree, hbody.buckleStreak.trans h.buckleStreak, hbody.anchor.trans h.anchor,
    hbody.tensionFault.trans h.tensionFault, hbody.tensionStreak.trans h.tensionStreak,
    hbody.motionHold.trans h.motionHold⟩

/-- A judgement and latched-while-empty leave what steps 2 and 3 own (R64). -/
theorem handleFrame_fields (m : SeatMap) (p : Profile) (hl : r.lifecycle = .active ∨ r.lifecycle = .faulted) :
    FrameFollowed m f r (handleFrame m p f r).1 := by
  have h := followed_fields (f := f) m hl
  rw [handleFrame_eq m p f r hl]
  split
  · dsimp only
    rw [judge_eq p f _ _ rfl, confirmStep_eq]
    exact h.congr rfl rfl rfl ⟨rfl, rfl, rfl, rfl, rfl, rfl, rfl⟩
  · exact h.congr rfl rfl rfl ⟨rfl, rfl, rfl, rfl, rfl, rfl, rfl⟩

/-- The verdict side of the record of a seat that the frame faulted (R86). -/
theorem handleFrame_faulted (m : SeatMap) (p : Profile) (hl : r.lifecycle = .active)
    (hfaulted : (handleFrame m p f r).1.lifecycle = .faulted) :
    (handleFrame m p f r).1.confirmed = .unknown ∧ (handleFrame m p f r).1.candidate = none ∧
    (handleFrame m p f r).1.candidateCount = 0 ∧ (handleFrame m p f r).1.history = [] ∧
    (handleFrame m p f r).1.evicted = none ∧ (handleFrame m p f r).1.unstable = false ∧
    (handleFrame m p f r).1.features = r.features := by
  have hbody : BodyKept r (matStep f r).1 := matStep_body (.inl hl)
  have hafter : lifecycleAfter f r = .faulted := (handleFrame_fields m p (.inl hl)).lifecycle.symm.trans hfaulted
  have hnot : ¬ accepted f (followed m f r).1 = true := by
    rw [accepted, (followed_fields (f := f) m (.inl hl)).lifecycle, hafter]
    exact Bool.false_ne_true
  rw [handleFrame_eq m p f r (.inl hl), if_neg hnot]
  dsimp only
  rw [followed_eq m hbody]
  rcases matStep_cases (f := f) (.inl hl) with ⟨h, -⟩ | ⟨-, -, he⟩ | ⟨h, -, -⟩
  · rw [hafter, hl] at h; cases h
  · rw [he, matStreaks_eq]; exact ⟨rfl, rfl, rfl, rfl, rfl, rfl, rfl⟩
  · rw [hl] at h; cases h

/-! ## The notices of steps 2 and 3 (R96) -/

/-- The FAULT notice of a seat with these faults (R95, R96). -/
def faultOf (i : Seat) (l : Lifecycle) (b : BuckleState) (tension : Bool) : Notice :=
  .fault i { mat := decide (l = .faulted), buckle := decide (b = .fault), tension := tension } l

/-- The notices of steps 2 and 3: FAULT of the mat, BUCKLE, FAULT of the tension reading. -/
theorem followed_posts (m : SeatMap) (hl : r.lifecycle = .active ∨ r.lifecycle = .faulted) : (followed m f r).2 =
    (if r.lifecycle ≠ lifecycleAfter f r then [faultOf f.seat (lifecycleAfter f r) r.buckle r.tensionFault] else []) ++
    (if r.buckle ≠ buckleAfter f r then [.buckle f.seat (buckleAfter f r)] else []) ++
    (if r.tensionFault ≠ tensionAfter f r then
      [faultOf f.seat (lifecycleAfter f r) (buckleAfter f r) (tensionAfter f r)] else []) := by
  have hbody : BodyKept r (matStep f r).1 := matStep_body hl
  have hlife : (matStep f r).1.lifecycle = lifecycleAfter f r := matStep_lifecycle hl
  have hfields := followed_fields (f := f) m hl
  have htension : (anchored m f r).tensionFault = r.tensionFault ∧ (anchored m f r).tensionStreak = r.tensionStreak := by
    rw [anchored_eq m hbody]; exact ⟨hbody.tensionFault, hbody.tensionStreak⟩
  have hposts : (followed m f r).2 =
      (matStep f r).2 ++ (buckleStep f (matStep f r).1).2 ++ (tensionStep f (anchored m f r)).2 := rfl
  have hmat : faultNotice f.seat (matStep f r).1 = faultOf f.seat (lifecycleAfter f r) r.buckle r.tensionFault := by
    rw [faultNotice, SeatRec.faultSet, hlife, hbody.buckle, hbody.tensionFault, faultOf]
  have hlast : faultNotice f.seat (tensionStep f (anchored m f r)).1 =
      faultOf f.seat (lifecycleAfter f r) (buckleAfter f r) (tensionAfter f r) := by
    rw [← hfields.lifecycle, ← hfields.buckle, ← hfields.tensionFault]; rfl
  rw [hposts, matStep_posts hl, buckleStep_eq, tensionStep_posts, hbody.buckleAfter, hbody.buckle, htension.1,
    tensionAfter_congr htension.1 htension.2, hlast, hmat]

end Sys2Proof.Machine

/-! SUPPORT. Settles the statements on the handling of a frame: the mat and the lifecycle (O22), buckle, anchor and tension
(O23), the reminder and the advisory (O26). -/

namespace Sys2Proof.Machine

open Sys2Proof.Safety

variable {s t u v : State} {f : MatFrame}

/-! ## The blocks after the event -/

/-- The part before REM evaluates the frame's seat. -/
def frameReady (s : State) (f : MatFrame) : State := withFeat (captureAborted s f).1 (afterAdv s f)

theorem frameReady_cmap (s : State) (f : MatFrame) : (frameReady s f).cmap = s.cmap := by
  rw [frameReady, withFeat_cmap, (afterAdv_advMoves s f).cmap, afterVerd, postAll_cmap]
theorem frameReady_rem (s : State) (f : MatFrame) : (frameReady s f).rem = s.rem := by
  rw [frameReady, withFeat_rem, (afterAdv_advMoves s f).rem, afterVerd, postAll_rem]
theorem frameReady_ret (s : State) (f : MatFrame) : (frameReady s f).ret = s.ret := by
  rw [frameReady, withFeat_ret, (afterAdv_advMoves s f).ret, afterVerd, postAll_ret]
theorem frameReady_record (s : State) (f : MatFrame) : (frameReady s f).verd.seats.get f.seat = (handledBy s f).1 := by
  rw [frameReady, withFeat_verd, (afterAdv_advMoves s f).verd, afterVerd_record]

theorem frameHandled_seat (hf : s.verd.slot = some f) (i : Seat) : (frameHandled s).verd.seats.get i =
    if i = f.seat then (handledBy s f).1 else s.verd.seats.get i := by
  rw [frameHandled_verd hf]; exact Tab.get_set ..

theorem afterRem_rem (s : State) (f : MatFrame) : (afterRem s f).1.rem = { s.rem with
    table := (afterRem s f).1.rem.table, summary := (afterRem s f).1.rem.summary } := by
  have h : (afterRem s f).1.rem = { (frameReady s f).rem with
      table := (afterRem s f).1.rem.table, summary := (afterRem s f).1.rem.summary } := by
    unfold afterRem
    split <;> rfl
  rw [frameReady_rem] at h
  exact h

theorem frameHandled_pins (hf : s.verd.slot = some f) : (frameHandled s).pins =
    { s.pins with sup := (frameHandled s).pins.sup, attn := (frameHandled s).pins.attn } := by
  have hadv : (afterAdv s f).pins = { s.pins with sup := (afterAdv s f).pins.sup, attn := (afterAdv s f).pins.attn } := by
    have h : (afterAdv s f).pins = { (afterVerd s f).pins with
        sup := (afterAdv s f).pins.sup, attn := (afterAdv s f).pins.attn } := congrArg State.pins (afterAdv_advMoves s f)
    rw [afterVerd, postAll_pins_frame] at h
    exact h
  have hrem : (afterRem s f).1.pins = (afterAdv s f).pins := (afterRem_remMoves s f).pins
  rw [frameHandled_eq s f hf, postMerged, postAll_pins_frame]
  dsimp only
  rw [hrem, hadv]

/-! ## The notices of the event (R66) -/

/-- What REM and FEAT post, in some order. -/
def frameOthers (s : State) (f : MatFrame) : List Notice :=
  mergeNotices (afterRem s f).1.free [(afterRem s f).2, (captureAborted s f).2]

theorem frameHandled_lnk_eq (hf : s.verd.slot = some f) :
    (frameHandled s).lnk = enqueue ((handledBy s f).2 ++ frameOthers s f) s.lnk := by
  rw [frameHandled_eq s f hf, postMerged_lnk, (afterRem_keeps s f).2, afterVerd_lnk, enqueue_append, frameOthers]

theorem handledBy_length (s : State) (f : MatFrame) : (handledBy s f).2.length ≤ 5 := by
  by_cases h : (s.verd.seats.get f.seat).lifecycle = .active ∨ (s.verd.seats.get f.seat).lifecycle = .faulted
  · exact (handleFrame_notices _ _ f _ h).1
  · rw [handledBy, handleFrame_unmounted _ _ f h]; exact Nat.zero_le 5

/-- The REMINDER notice of an event that moved one seat at most (R107). -/
theorem reminderNotices_one {a b : Tab 16 ReminderRec} {i : Seat} (h : ∀ j : Seat, j ≠ i → (a.get j).state = (b.get j).state) :
    reminderNotices a b = if (a.get i).state = (b.get i).state then [] else [.reminder i (b.get i).state] := by
  have hfilter : allSeats.filterMap (fun j => if (a.get j).state = (b.get j).state then none
      else some (Notice.reminder j (b.get j).state)) =
      ((List.finRange 16).filter fun j : Seat => decide (j = i)).filterMap fun j =>
        if (a.get j).state = (b.get j).state then none else some (Notice.reminder j (b.get j).state) := by
    rw [List.filterMap_filter, allSeats]
    congr 1
    funext j
    by_cases hj : j = i
    · simp [hj]
    · simp [hj, h j hj]
  rw [reminderNotices, hfilter, filter_seat_eq]
  by_cases hi : (a.get i).state = (b.get i).state <;> simp [hi]

/-- REM at a change of the record of seat `i` (R66, R107). -/
theorem remSeatChanged_table (i : Seat) (v : State) (j : Seat) : (remSeatChanged i v).1.rem.table.get j =
    if j = i ∧ v.ret.ignition = .on then movedTo v (caseOf (v.cmap.seats.get i) (v.verd.seats.get i)) (v.rem.table.get i)
    else v.rem.table.get j := by
  have htable : (remSeatChanged i v).1.rem.table = v.evaluatedTable fun j => decide (j = i) := rfl
  rw [htable]
  cases hign : v.ret.ignition with
  | off => rw [evaluatedTable_off _ _ hign, if_neg (by simp)]
  | on =>
    rw [evaluatedTable_on _ _ hign]
    by_cases hj : j = i
    · subst hj; rw [if_pos (by simp), if_pos ⟨rfl, rfl⟩, moveReminder_eq]
    · rw [if_neg (by simpa using hj), if_neg fun h => hj h.1]

/-- At most one notice, a CABIN. -/
def CabinAtMost (ns : List Notice) : Prop := ns = [] ∨ ∃ c x y, ns = [Notice.cabin c x y]

theorem cabinNotices_atMost (a b : Summary) : CabinAtMost (cabinNotices a b) := by
  unfold cabinNotices
  split
  · exact .inl rfl
  · exact .inr ⟨_, _, _, rfl⟩

/-- What REM posts at a change of the record of seat `i`: the seat's REMINDER when its state changed, and CABIN. -/
theorem remSeatChanged_notices (i : Seat) (v : State) : ∃ ns, CabinAtMost ns ∧ (remSeatChanged i v).2 =
    (if (v.rem.table.get i).state = ((remSeatChanged i v).1.rem.table.get i).state then []
      else [.reminder i ((remSeatChanged i v).1.rem.table.get i).state]) ++ ns := by
  have hone : reminderNotices v.rem.table (remSeatChanged i v).1.rem.table = _ := reminderNotices_one (i := i) fun j hj => by
    rw [remSeatChanged_table, if_neg fun h => hj h.1]
  refine ⟨_, cabinNotices_atMost v.rem.summary (v.withTable (v.evaluatedTable fun j => decide (j = i))).deriveSummary, ?_⟩
  rw [← hone]
  rfl

theorem afterRem_notices (s : State) (f : MatFrame) : ∃ ns, CabinAtMost ns ∧ (afterRem s f).2 =
    (if (s.rem.table.get f.seat).state = ((afterRem s f).1.rem.table.get f.seat).state then []
      else [.reminder f.seat ((afterRem s f).1.rem.table.get f.seat).state]) ++ ns := by
  have htable : (frameReady s f).rem.table = s.rem.table := by rw [frameReady_rem]
  unfold afterRem
  split
  · rw [← htable]; exact remSeatChanged_notices f.seat (frameReady s f)
  · refine ⟨[], .inl rfl, ?_⟩
    rw [if_pos (by rw [← htable]; rfl)]
    rfl

/-- What FEAT posts: CALIBRATION ABORTED, or nothing (R61). -/
theorem captureAborted_notices (s : State) (f : MatFrame) :
    (captureAborted s f).2 = [] ∨ ∃ i, (captureAborted s f).2 = [.calibration i .aborted] := by
  have habort (x : Feat) : (abortCapture x).2 = [] ∨ ∃ i, (abortCapture x).2 = [.calibration i .aborted] := by
    rw [abortCapture_notices]
    rcases x.capture with _ | c
    · exact .inl rfl
    · by_cases hc : c.state = .committing
      · exact .inl (by simp [hc])
      · exact .inr ⟨c.seat, by simp [hc]⟩
  unfold captureAborted abortCaptureOf
  split
  · split
    · split
      · exact habort _
      · exact .inl rfl
    · exact .inl rfl
  · exact .inl rfl

theorem frameOthers_perm (s : State) (f : MatFrame) : (frameOthers s f).Perm ((afterRem s f).2 ++ (captureAborted s f).2) := by
  have h := mergeNotices_perm (afterRem s f).1.free [(afterRem s f).2, (captureAborted s f).2]
  rwa [List.flatten_cons, List.flatten_cons, List.flatten_nil, List.append_nil] at h

theorem frameOthers_length (s : State) (f : MatFrame) : (frameOthers s f).length ≤ 3 := by
  obtain ⟨ns, hns, hrem⟩ := afterRem_notices s f
  have hcabin : ns.length ≤ 1 := by
    rcases hns with rfl | ⟨c, x, y, rfl⟩
    · exact Nat.zero_le 1
    · exact le_rfl
  have hfeat : (captureAborted s f).2.length ≤ 1 := by
    rcases captureAborted_notices s f with h | ⟨i, h⟩ <;> rw [h]
    · exact Nat.zero_le 1
    · exact le_rfl
  rw [(frameOthers_perm s f).length_eq, List.length_append, hrem, List.length_append]
  split
  · simp only [List.length_nil]; omega
  · simp only [List.length_singleton]; omega

/-- With at most 24 notices held, every notice of the event is kept: those of VERD and then the others (R159). -/
theorem addedNotices_eq (hf : s.verd.slot = some f) (hroom : s.lnk.notices.length ≤ 24) :
    addedNotices s (frameHandled s) = (handledBy s f).2 ++ frameOthers s f := by
  have hverd := handledBy_length s f
  have hothers := frameOthers_length s f
  have hfits : ((handledBy s f).2 ++ frameOthers s f).length ≤ 32 - s.lnk.notices.length := by
    rw [List.length_append]; omega
  rw [addedNotices, frameHandled_lnk_eq hf]
  simp only [enqueue, List.drop_left, List.take_of_length_le hfits]

/-- The notices of a kind that neither REM nor FEAT posts are VERD's. -/
theorem addedNotices_filter (hf : s.verd.slot = some f) (hroom : s.lnk.notices.length ≤ 24) {p : Notice → Bool}
    (hreminder : ∀ i st, p (.reminder i st) = false) (hcabin : ∀ c x y, p (.cabin c x y) = false)
    (hcal : ∀ i o, p (.calibration i o) = false) :
    (addedNotices s (frameHandled s)).filter p = (handledBy s f).2.filter p := by
  obtain ⟨ns, hns, hrem⟩ := afterRem_notices s f
  have hothers : ((afterRem s f).2 ++ (captureAborted s f).2).filter p = [] := by
    have h1 : ns.filter p = [] := by
      rcases hns with rfl | ⟨c, x, y, rfl⟩
      · rfl
      · simp [hcabin]
    have h2 : (captureAborted s f).2.filter p = [] := by
      rcases captureAborted_notices s f with h | ⟨i, h⟩ <;> rw [h]
      · rfl
      · simp [hcal]
    rw [List.filter_append, hrem, List.filter_append, h1, h2]
    split
    · rfl
    · simp [hreminder]
  have hperm := (frameOthers_perm s f).filter p
  rw [hothers] at hperm
  rw [addedNotices_eq hf hroom, List.filter_append, hperm.eq_nil, List.append_nil]

/-- A notice of a kind that a judgement does not post is of steps 2 and 3. -/
theorem handledBy_filter (hl : (s.verd.seats.get f.seat).lifecycle = .active ∨ (s.verd.seats.get f.seat).lifecycle = .faulted)
    {p : Notice → Bool} (hverdict : ∀ i a b, p (.verdict i a b) = false) (hstability : ∀ i x, p (.stability i x) = false) :
    (handledBy s f).2.filter p = (followed (s.cmap.seats.get f.seat) f (s.verd.seats.get f.seat)).2.filter p := by
  have hp (n : Notice) (hn : ofJudgement n = true) : p n = false := by
    cases n with
    | verdict i a b => exact hverdict i a b
    | stability i x => exact hstability i x
    | _ => cases hn
  have hjudged (q : SeatRec) : (judge (profileAt s f.seat) f q).2.filter p = [] := by
    rw [← (judge_notices (profileAt s f.seat) f q).2, List.filter_eq_nil_iff]
    intro n hn
    rw [hp n (List.mem_filter.1 hn).2]
    exact Bool.false_ne_true
  rw [handledBy, handleFrame_eq _ _ _ _ hl]
  split
  · rw [List.filter_append, hjudged, List.append_nil]
  · rfl

theorem filter_kept {p : Notice → Bool} {n : Notice} {c : Prop} [Decidable c] (h : c → p n = true) :
    (if c then [n] else []).filter p = if c then [n] else [] := by
  split
  · next hc => simp [h hc]
  · rfl

theorem filter_dropped {p : Notice → Bool} {n : Notice} {c : Prop} [Decidable c] (h : p n = false) :
    (if c then [n] else []).filter p = [] := by
  split
  · simp [h]
  · rfl

/-! ## The mat and the lifecycle (O22) -/

theorem dirty_iff (c : Conditions) : c.dirty = true ↔ c.open_ = true ∨ c.allOpen = true := by
  rw [Conditions.dirty, Bool.or_eq_true]

/-- A frame of a seat that is UNMAPPED or ABSENT only frees the slot (R64). -/
theorem frameHandled_unmounted (hf : s.verd.slot = some f)
    (hl : ¬ ((s.verd.seats.get f.seat).lifecycle = .active ∨ (s.verd.seats.get f.seat).lifecycle = .faulted)) :
    frameHandled s = { s with verd := { s.verd with slot := none }, free := (frameHandled s).free } := by
  have hr : handledBy s f = (s.verd.seats.get f.seat, []) := handleFrame_unmounted _ _ f hl
  have hsame (r : SeatRec) : changedForAdv r r = false ∧ changedForRem r r = false := by
    simp [changedForAdv, changedForRem]
  have hverd : afterVerd s f = { s with verd := { s.verd with slot := none } } := by
    rw [afterVerd, hr, postAll_nil, Tab.set_get]
  have hadv : afterAdv s f = afterVerd s f := by rw [afterAdv, hr, (hsame _).1, if_neg Bool.false_ne_true]
  have hfeat : captureAborted s f = (s.feat, []) := by
    rw [captureAborted, hr, hadv, hverd]
    refine if_neg ?_
    rw [Bool.and_eq_true, decide_eq_true_eq, decide_eq_true_eq]
    exact fun h => hl (.inl h.1)
  have hrem : afterRem s f = ({ s with verd := { s.verd with slot := none } }, []) := by
    rw [afterRem, hr, (hsame _).2, if_neg Bool.false_ne_true, hfeat, hadv, hverd]
    rfl
  rw [frameHandled_eq s f hf, hrem, hfeat]
  rfl

theorem frameHandled_capture (hf : s.verd.slot = some f) : (frameHandled s).feat = { s.feat with
    capture := if (s.verd.seats.get f.seat).lifecycle = .active ∧ (handledBy s f).1.lifecycle = .faulted ∧
        s.feat.capture.any (fun c => decide (c.seat = f.seat ∧ c.state ≠ .committing)) = true then none
      else s.feat.capture } := by
  have hfeat : (afterAdv s f).feat = s.feat := by rw [(afterAdv_advMoves s f).feat, afterVerd, postAll_feat]
  rw [frameHandled_feat hf, captureAborted, hfeat]
  by_cases h : (s.verd.seats.get f.seat).lifecycle = .active ∧ (handledBy s f).1.lifecycle = .faulted
  · rw [if_pos (by simp [h]), abortCaptureOf_feat]
    simp only [h, true_and, Bool.decide_and]
  · rw [if_neg (by simpa using h), if_neg fun hall => h ⟨hall.1, hall.2.1⟩]

/-- Settles O22. -/
theorem frameHandlingMovesTheMatStreaksAndTheLifecycle : Obligations.FrameHandlingMovesTheMatStreaksAndTheLifecycle := by
  refine ⟨fun s f hf hl => ⟨_, rfl, frameHandled_unmounted hf ?_⟩, fun s f hf hl => ⟨_, rfl, ?_⟩,
    fun s hempty => ⟨_, rfl, frameHandled_empty hempty⟩⟩
  · rcases hl with hl | hl <;> rw [hl] <;> decide
  · have hfields : FrameFollowed (s.cmap.seats.get f.seat) f (s.verd.seats.get f.seat) (handledBy s f).1 :=
      handleFrame_fields _ _ hl
    have hrec : (frameHandled s).verd.seats.get f.seat = (handledBy s f).1 := frameHandled_record s f hf
    rw [hrec]
    refine ⟨?_, ?_, ?_, hfields.motionHold, fun hactive hfaulted => ?_, fun hnot => ?_, fun hroom => ⟨?_, ?_⟩, ?_,
      fun i hi => ?_, ?_⟩
    · rw [hfields.matStreak]; simp only [dirty_iff]
    · rw [hfields.cleanStreak]; simp only [dirty_iff]
    · rw [hfields.lifecycle, lifecycleAfter]; simp only [dirty_iff]
    · obtain ⟨h1, h2, h3, h4, h5, h6, h7⟩ := handleFrame_faulted _ _ hactive hfaulted
      refine ⟨h1, h2, h3, h4, h5, h6, h7, ?_⟩
      rw [frameHandled_capture hf]
      simp only [hactive, hfaulted, true_and]
    · rw [frameHandled_capture hf]
      exact if_neg fun h => hnot ⟨h.1, h.2.1⟩
    · rw [frameHandled_lnk_eq hf]; exact enqueue_prefix ..
    · rw [addedNotices_filter hf hroom (fun _ _ => rfl) (fun _ _ _ => rfl) (fun _ _ => rfl),
        handledBy_filter hl (fun _ _ _ => rfl) (fun _ _ => rfl), followed_posts _ hl, hfields.lifecycle, hfields.buckle,
        hfields.tensionFault, List.filter_append, List.filter_append, filter_kept fun _ => rfl, filter_dropped rfl,
        filter_kept fun _ => rfl, List.append_nil]
      rfl
    · rw [frameHandled_verd hf]
    · rw [frameHandled_seat hf, if_neg hi]
    · refine state_ext (frameHandled_cmap hf) (frameHandled_scan hf) ?_ rfl ?_ rfl (frameHandled_ret hf) ?_
        (frameHandled_store hf) (frameHandled_pins hf) rfl (frameHandled_pending s)
      · rw [frameHandled_capture hf]
      · rw [frameHandled_rem hf]; exact afterRem_rem s f
      · rw [frameHandled_lnk_eq hf]; rfl

/-! ## Buckle, anchor and tension (O23) -/

/-- The notices of a kind that only steps 2 and 3 post. -/
theorem addedNotices_followed (hf : s.verd.slot = some f) (hroom : s.lnk.notices.length ≤ 24)
    (hl : (s.verd.seats.get f.seat).lifecycle = .active ∨ (s.verd.seats.get f.seat).lifecycle = .faulted)
    {p : Notice → Bool} (hreminder : ∀ i st, p (.reminder i st) = false) (hcabin : ∀ c x y, p (.cabin c x y) = false)
    (hcal : ∀ i o, p (.calibration i o) = false) (hverdict : ∀ i a b, p (.verdict i a b) = false)
    (hstability : ∀ i x, p (.stability i x) = false) : (addedNotices s (frameHandled s)).filter p =
      (followed (s.cmap.seats.get f.seat) f (s.verd.seats.get f.seat)).2.filter p :=
  (addedNotices_filter hf hroom hreminder hcabin hcal).trans (handledBy_filter hl hverdict hstability)

/-- BUCKLE is posted exactly when the buckle state changed, with the new state (R90, R91). -/
theorem buckle_mem_addedNotices (hf : s.verd.slot = some f) (hroom : s.lnk.notices.length ≤ 24)
    (hl : (s.verd.seats.get f.seat).lifecycle = .active ∨ (s.verd.seats.get f.seat).lifecycle = .faulted) (b : BuckleState) :
    .buckle f.seat b ∈ addedNotices s (frameHandled s) ↔
      buckleAfter f (s.verd.seats.get f.seat) = b ∧ (s.verd.seats.get f.seat).buckle ≠ b := by
  have hfilter := addedNotices_followed (p := fun n => decide (n = .buckle f.seat b)) hf hroom hl (fun _ _ => rfl)
    (fun _ _ _ => rfl) (fun _ _ => rfl) (fun _ _ _ => rfl) (fun _ _ => rfl)
  have hmem (ns : List Notice) : .buckle f.seat b ∈ ns ↔
      .buckle f.seat b ∈ ns.filter fun n => decide (n = .buckle f.seat b) := by simp
  rw [hmem, hfilter, ← hmem, followed_posts _ hl]
  by_cases h : (s.verd.seats.get f.seat).buckle = buckleAfter f (s.verd.seats.get f.seat)
  · simp [h, faultOf]
  · simp only [List.mem_append, List.mem_ite_nil_right, List.mem_singleton, faultOf, reduceCtorEq, and_false, false_or,
      or_false, Notice.buckle.injEq, true_and]
    constructor
    · rintro ⟨hne, rfl⟩; exact ⟨rfl, hne⟩
    · rintro ⟨rfl, hne⟩; exact ⟨hne, rfl⟩

theorem agreeAfter_band (f : MatFrame) (r : SeatRec) : agreeAfter f r = match f.band with
    | some .unlatched => (match r.agree with | .run false n => .run false (min 2 (n + 1)) | _ => .run false 1)
    | some .latched => (match r.agree with | .run true n => .run true (min 2 (n + 1)) | _ => .run true 1)
    | none => r.agree
    | _ => .zero := by
  unfold agreeAfter
  rcases f.band with _ | b
  · rfl
  · cases b with
    | unlatched => rcases r.agree with _ | ⟨_ | _, n⟩ <;> rfl
    | latched => rcases r.agree with _ | ⟨_ | _, n⟩ <;> rfl
    | openCircuit => rfl
    | short => rfl

theorem buckleAfter_band (f : MatFrame) (r : SeatRec) : buckleAfter f r = match f.band with
    | some .unlatched => if agreeAfter f r = .run false 2 then .unlatched else r.buckle
    | some .latched => if agreeAfter f r = .run true 2 then .latched else r.buckle
    | none => r.buckle
    | _ => if 2 ≤ r.buckleStreak then .fault else r.buckle := by
  unfold buckleAfter agreeAfter
  rcases f.band with _ | b
  · rfl
  · cases b <;> rfl

/-- Settles O23. -/
theorem frameHandlingFollowsBuckleAnchorAndTension : Obligations.FrameHandlingFollowsBuckleAnchorAndTension := by
  intro s f hf hl
  have hfields : FrameFollowed (s.cmap.seats.get f.seat) f (s.verd.seats.get f.seat) (handledBy s f).1 :=
    handleFrame_fields _ _ hl
  have hrec : (frameHandled s).verd.seats.get f.seat = (handledBy s f).1 := frameHandled_record s f hf
  refine ⟨_, rfl, ?_⟩
  rw [hrec, hfields.agree, hfields.buckle, hfields.tensionFault, hfields.lifecycle]
  refine ⟨?_, ?_, ?_, ?_, ?_, ?_, fun hroom b _ => buckle_mem_addedNotices hf hroom hl b, fun hroom => ?_⟩
  · rw [hfields.buckleStreak]; rfl
  · exact agreeAfter_band ..
  · exact buckleAfter_band ..
  · rw [hfields.anchor]; rfl
  · rfl
  · rw [hfields.tensionStreak]; rfl
  · rw [addedNotices_followed hf hroom hl (fun _ _ => rfl) (fun _ _ _ => rfl) (fun _ _ => rfl) (fun _ _ _ => rfl)
        (fun _ _ => rfl), followed_posts _ hl, List.filter_append, List.filter_append,
      filter_dropped (by simp [turnsTension, faultOf]), filter_dropped rfl,
      filter_kept fun h => by simpa [turnsTension, faultOf] using Ne.symm h]
    simp only [ne_comm]
    rfl

/-! ## The reminder and the advisory (O26) -/

theorem changedForRem_iff (a b : SeatRec) : changedForRem a b = true ↔
    (a.lifecycle, a.confirmed, a.buckle, a.anchor) ≠ (b.lifecycle, b.confirmed, b.buckle, b.anchor) := by
  simp only [changedForRem, Bool.or_eq_true, decide_eq_true_eq, ne_eq, Prod.mk.injEq]
  tauto

/-- REM evaluates the seat of the frame, and no other, when the frame changed what it reads (R66, R110 to R114). -/
theorem frameHandled_table (hf : s.verd.slot = some f) (j : Seat) : (frameHandled s).rem.table.get j =
    if j = f.seat ∧ s.ret.ignition = .on ∧ changedForRem (s.verd.seats.get f.seat) (handledBy s f).1 = true then
      movedTo s (caseOf (s.cmap.seats.get f.seat) (handledBy s f).1) (s.rem.table.get f.seat)
    else s.rem.table.get j := by
  have hrem := frameReady_rem s f
  have hret := frameReady_ret s f
  have hmoved := movedTo_congr (congrArg Ret.ignition hret) (congrArg Rem.startElapsed hrem) (congrArg Rem.speed hrem)
    (congrArg Rem.settings hrem)
  have htable := remSeatChanged_table f.seat (frameReady s f) j
  rw [frameReady_cmap, frameReady_record, hmoved, hrem, hret] at htable
  rw [frameHandled_rem hf]
  by_cases hchanged : changedForRem (s.verd.seats.get f.seat) (handledBy s f).1 = true
  · rw [afterRem, if_pos hchanged]
    simp only [hchanged, and_true]
    exact htable
  · rw [afterRem, if_neg hchanged, if_neg fun h => hchanged h.2.2]
    exact congrArg (fun x : Rem => x.table.get j) hrem

theorem perm_ite_eq {α : Type} {l : List α} {c : Prop} [Decidable c] {x : α} (h : l.Perm (if c then [] else [x])) :
    l = if c then [] else [x] := by
  split
  · next hc => rw [if_pos hc] at h; exact h.eq_nil
  · next hc => rw [if_neg hc] at h; exact List.perm_singleton.1 h

/-- VERD posts no REMINDER. -/
theorem handledBy_reminder (s : State) (f : MatFrame) : (handledBy s f).2.filter isReminder = [] := by
  by_cases hl : (s.verd.seats.get f.seat).lifecycle = .active ∨ (s.verd.seats.get f.seat).lifecycle = .faulted
  · rw [handledBy_filter hl (fun _ _ _ => rfl) (fun _ _ => rfl), followed_posts _ hl, List.filter_append,
      List.filter_append, filter_dropped rfl, filter_dropped rfl, filter_dropped rfl]
    rfl
  · rw [handledBy, handleFrame_unmounted _ _ f hl]; rfl

/-- REMINDER is posted exactly when the state of the seat changed, with the new state (R107). -/
theorem addedNotices_reminder (hf : s.verd.slot = some f) (hroom : s.lnk.notices.length ≤ 24) :
    (addedNotices s (frameHandled s)).filter isReminder =
      if (s.rem.table.get f.seat).state = ((frameHandled s).rem.table.get f.seat).state then []
      else [.reminder f.seat ((frameHandled s).rem.table.get f.seat).state] := by
  obtain ⟨ns, hns, hrem⟩ := afterRem_notices s f
  have hcabin : ns.filter isReminder = [] := by
    rcases hns with rfl | ⟨c, x, y, rfl⟩ <;> rfl
  have hfeat : (captureAborted s f).2.filter isReminder = [] := by
    rcases captureAborted_notices s f with h | ⟨i, h⟩ <;> rw [h] <;> rfl
  have hothers := (frameOthers_perm s f).filter isReminder
  rw [List.filter_append, hrem, List.filter_append, hcabin, hfeat, List.append_nil, List.append_nil,
    ← frameHandled_rem hf] at hothers
  rw [addedNotices_eq hf hroom, List.filter_append, handledBy_reminder, List.nil_append]
  refine perm_ite_eq (hothers.trans (List.Perm.of_eq ?_))
  split <;> rfl

theorem frameHandled_reported (hf : s.verd.slot = some f) : PositionsReported s (frameHandled s) := by
  have hverd : (frameHandled s).verd = (afterVerd s f).verd := by rw [frameHandled_verd hf, afterVerd, postAll_verd]
  have hadv : (afterVerd s f).adv = s.adv := postAll_adv ..
  have hafter : PositionsReported (afterVerd s f) (afterAdv s f) := by
    unfold afterAdv
    split
    · exact advSeats_reported ..
    · exact (Reported.refl 0 _).both (.refl 1 _)
  exact positionsReported_congr hafter (fun _ => by rw [hadv]) (by rw [afterVerd, postAll_pins_sup]) (by rw [hadv])
    (by rw [hadv]) (frameHandled_adv hf) (frameHandled_sup hf) (by rw [hverd, (afterAdv_advMoves s f).verd])

/-- Only a position of the frame's seat can change (R124). -/
theorem frameHandled_position (hf : s.verd.slot = some f) (p : Pos) :
    ((frameHandled s).adv.positions.get p).seat = (s.adv.positions.get p).seat ∧
    ((s.adv.positions.get p).seat ≠ some f.seat →
      ((frameHandled s).adv.positions.get p).value = (s.adv.positions.get p).value) := by
  have hadv : (afterVerd s f).adv = s.adv := postAll_adv ..
  rw [frameHandled_adv hf]
  unfold afterAdv
  split
  · rw [advSeats_position, hadv]
    refine ⟨rfl, fun hne => if_neg ?_⟩
    simp only [Option.any_eq_true, decide_eq_true_eq, not_exists, not_and]
    rintro i hi rfl
    exact hne hi
  · rw [hadv]; exact ⟨rfl, fun _ => rfl⟩

/-- A seat stands at one position at most (R122). -/
theorem position_unique (h : MappedLaw s) {p q : Pos} {i : Seat} (hp : (s.adv.positions.get p).seat = some i)
    (hq : (s.adv.positions.get q).seat = some i) : p = q := by
  rw [h] at hp hq
  exact Option.some.inj ((advisorySeat_some hp).2.2.symm.trans (advisorySeat_some hq).2.2)

/-- When a single position changed, the mailbox holds its record, or superseded the one held (R127, R128). -/
theorem reported_one (h : PositionsReported s t) {p : Pos}
    (hp : (t.adv.positions.get p).value ≠ (s.adv.positions.get p).value)
    (hother : ∀ q : Pos, q ≠ p → (t.adv.positions.get q).value = (s.adv.positions.get q).value) :
    t.adv.mailbox = some (recordAtPosition t p) ∧ t.adv.superseded = (s.adv.superseded || s.adv.mailbox.isSome) := by
  obtain ⟨-, hmail, hover⟩ := h
  match p with
  | 0 => rw [hmail, hover]; simp [hp, hother 1 (by decide)]
  | 1 => rw [hmail, hover]; simp [hp, hother 0 (by decide)]

theorem reported_none (h : PositionsReported s t)
    (hsame : ∀ p : Pos, (t.adv.positions.get p).value = (s.adv.positions.get p).value) :
    t.adv.mailbox = s.adv.mailbox ∧ t.adv.superseded = s.adv.superseded := by
  obtain ⟨-, hmail, hover⟩ := h
  rw [hmail, hover]
  simp [hsame]

/-- Settles O26. -/
theorem frameChangesReachTheReminderAndTheAdvisory : Obligations.FrameChangesReachTheReminderAndTheAdvisory := by
  intro s f hlaws hf
  have hcabin := cabin_of_laws hlaws
  have hremLaws := frameHandled_remLaws hcabin.rem hf
  have hrec : (frameHandled s).verd.seats.get f.seat = (handledBy s f).1 := frameHandled_record s f hf
  have hreported := frameHandled_reported hf
  refine ⟨_, rfl, fun i hi => ?_, fun hoff => Tab.ext_get fun i => ?_, fun hon => ?_, ?_, fun hroom => ?_,
    (frameHandled_advLaws hcabin.adv hf).2.1, hremLaws.2.2.2, fun p hp => ?_, reported_none hreported⟩
  · rw [frameHandled_table hf, if_neg fun h => hi h.1]
  · rw [frameHandled_table hf, if_neg fun h => by rw [hoff] at h; cases h.2.1]
  · rw [← frameHandled_cmap hf]
    exact hremLaws.1.2 (by rw [frameHandled_ret hf]; exact hon) f.seat
  · rw [frameHandled_table hf, hrec]
    simp only [true_and, changedForRem_iff]
  · rw [addedNotices_reminder hf hroom]
    simp only [eq_comm]
  · have hseat : (s.adv.positions.get p).seat = some f.seat :=
      Classical.byContradiction fun hne => hp ((frameHandled_position hf p).2 hne)
    obtain ⟨hmail, hover⟩ := reported_one hreported hp fun q hq =>
      (frameHandled_position hf q).2 fun hq' => hq (position_unique hlaws.mapped hq' hseat)
    refine ⟨hseat, ?_, hover⟩
    rw [hmail, recordAtPosition, (frameHandled_position hf p).1, hseat]
    rfl

end Sys2Proof.Machine

/-! SUPPORT. Settles the statements on MAP READ and CAL READ (O39), SCAN TIMING SET and RETENTION SET (O41), and SEAT PROBE
(O44). -/

namespace Sys2Proof.Machine

open Sys2Proof.Safety

variable {s t : State}

/-! ## Records of a map image as bytes (R173) -/

theorem RowRec.bytes_eq (r : RowRec) : r.bytes = rowBytes r := by
  rcases r with ⟨_ | _, _, _⟩ <;> rfl

/-- Two codes of four bits in one byte. -/
theorem nibbles_eq (lo hi : BitVec 4) : (hi ++ lo : BitVec 8) = (lo.toNat : Byte) + 16 * (hi.toNat : Byte) := by
  have hlo := lo.isLt
  have hhi := hi.isLt
  have hnumber : (hi ++ lo : BitVec 8) = byteOf (lo.toNat + 16 * hi.toNat) := by
    apply BitVec.eq_of_toNat_eq
    rw [BitVec.toNat_append, ← Nat.shiftLeft_add_eq_or_of_lt hlo, Nat.shiftLeft_eq, byteOf, BitVec.toNat_ofNat]
    omega
  rw [hnumber, byteOf_add, byteOf_mul]
  rfl

theorem SeatMap.bytes_eq (m : SeatMap) : m.bytes = seatBytes m := by
  have hlow : m.cells.extractLsb' 0 8 = byteOf m.cells.toNat := rfl
  have hhigh : m.cells.extractLsb' 8 8 = byteOf (m.cells.toNat / 256) := by
    rw [BitVec.extractLsb', Nat.shiftRight_eq_div_pow]; rfl
  rw [SeatMap.bytes, nibbles_eq, nibbles_eq, bitsOf_eq_flags4, hlow, hhigh]
  rfl

theorem Profile.group_toNat (p : Profile) : p.group.toNat = p.tc.toNat + 4096 * p.k.toNat := by
  have htc := p.tc.isLt
  have hk := p.k.isLt
  have happend : (p.k ++ p.tc : BitVec (10 + 12)).toNat = p.tc.toNat + 4096 * p.k.toNat := by
    rw [BitVec.toNat_append, ← Nat.shiftLeft_add_eq_or_of_lt htc, Nat.shiftLeft_eq]
    omega
  have hgroup : p.group.toNat = 0 <<< 22 ||| (p.k ++ p.tc : BitVec (10 + 12)).toNat := BitVec.toNat_append ..
  rw [hgroup, happend, Nat.zero_shiftLeft, Nat.zero_or]

theorem Profile.bytes_eq (p : Profile) : p.bytes = profileBytes p := by
  have hgroup (k : Nat) : p.group.extractLsb' k 8 = byteOf ((p.tc.toNat + 4096 * p.k.toNat) / 2 ^ k) := by
    rw [BitVec.extractLsb', Nat.shiftRight_eq_div_pow, p.group_toNat]; rfl
  rw [Profile.bytes, profileBytes, hgroup, hgroup, hgroup, ← le24_eq_bytesOf, Nat.pow_zero, Nat.div_one]
  rfl

/-- The seats of a half of the map (R155). -/
theorem seats_half (t : Tab 16 SeatMap) : t.cells.take 8 =
      ((List.finRange 16).filter fun i : Seat => decide (i.val / 8 + 1 = 1)).map t.get ∧
    t.cells.drop 8 = ((List.finRange 16).filter fun i : Seat => decide (i.val / 8 + 1 = 2)).map t.get := by
  rw [Tab.cells_eq_map_get, ← List.map_take, ← List.map_drop]
  exact ⟨congrArg (List.map t.get) (by decide), congrArg (List.map t.get) (by decide)⟩

theorem rowStates_eq (c : CMap) : (List.finRange 5).map (fun r : Row => byteOf (c.shownRow r).code) =
    (List.finRange 5).map fun r : Row => if c.valid then ((c.rowState.get r).code : Byte) else 0 := by
  refine List.map_congr_left fun r _ => ?_
  unfold CMap.shownRow
  split <;> rfl

/-- The MAP READ body (R14). -/
theorem readMap_eq (b : Byte) (s : State) (h : b.toNat ≤ 3) :
    readMap b s = (Answer.ok s (mapBytes s b.toNat)).withProfiles (s.cmap.profilesIn b.toNat) := by
  have hrow : RowRec.bytes = rowBytes := funext RowRec.bytes_eq
  have hseat : SeatMap.bytes = seatBytes := funext SeatMap.bytes_eq
  have hprofile : Profile.bytes = profileBytes := funext Profile.bytes_eq
  have hb : b = 0 ∨ b = 1 ∨ b = 2 ∨ b = 3 := by bv_omega
  rw [readMap, if_neg (by omega), CMap.partBytes, hrow, hseat, hprofile, (seats_half _).1, (seats_half _).2, rowStates_eq,
    toNat_eq_bit, Tab.cells_eq_map_get, Tab.cells_eq_map_get, List.flatMap_map, List.flatMap_map, List.flatMap_map,
    List.flatMap_map]
  rcases hb with rfl | rfl | rfl | rfl
  · rfl
  · rfl
  · rfl
  · rfl

/-- The N_child of the profiles of a part go beside the reply (assumption log 22). -/
theorem profilesIn_nChild (s : State) (part : Nat) : (s.cmap.profilesIn part).map Profile.nChild = nChildIn s part := by
  unfold CMap.profilesIn nChildIn
  split
  · rw [Tab.cells_eq_map_get, List.map_map]; rfl
  · rfl

/-- The CAL READ body (R58, R174). -/
theorem readCal_eq (i : Seat) (s : State) : readCal i s = Answer.ok s (calBytes s i) := by
  have hcapture : captureBytes s.feat i = match s.feat.capture with
      | some c =>
          if c.seat = i then match c.state with
            | .collecting => [1, (c.count : Byte)]
            | .waitingStore => [2, 0]
            | .committing => [3, 0]
          else [0, 0]
      | none => [0, 0] := by
    unfold captureBytes
    rcases s.feat.capture with _ | c
    · rfl
    · dsimp only
      cases c.state <;> rfl
  have hgroup (n : Cell) : calGroup ((s.feat.cal.get i).get n) (s.cmap.cellFitted i n) = bytesOf 3
      (((s.feat.cal.get i).get n).z.toNat + 1024 * ((s.feat.cal.get i).get n).g.toNat +
        1048576 * bit ((s.feat.cal.get i).get n).mark +
        2097152 * bit (s.cmap.valid && (s.cmap.seats.get i).fitted && (s.cmap.seats.get i).cells.getLsbD n.val)) := by
    rw [calGroup, le24_eq_bytesOf, toNat_eq_bit, toNat_eq_bit, CMap.cellFitted, SeatMap.cellFitted, Bool.and_assoc]
    simp only [Nat.reducePow, Nat.mul_comm _ 1024, Nat.mul_comm _ 1048576, Nat.mul_comm _ 2097152]
  rw [readCal, hcapture]
  simp only [hgroup] <;> rfl

/-- An owner that answers OK with profiles beside the reply. -/
theorem takeRequest_withProfiles {code : Byte} {owner : State → Answer} {body : List Byte} {ps : List Profile}
    (h : Ready s) (hc : code ≠ mapWriteCode) (ho : owner (closed s) = (Answer.ok t body).withProfiles ps) :
    takeRequest code owner s = answering code .ok body t (ps.map Profile.nChild) := by
  rw [takeRequest_taken code owner s h hc, ho]
  rfl

/-- Settles O39. -/
theorem mapReadAndCalReadReturnTheWorkingCopies : Obligations.MapReadAndCalReadReturnTheWorkingCopies := by
  refine ⟨fun s b hready hb => ⟨_, rfl, ?_⟩, fun s b hready hb => ⟨_, rfl, ?_⟩, fun s i hready => ⟨_, rfl, ?_⟩⟩
  · rw [← profilesIn_nChild]
    exact takeRequest_withProfiles hready (by decide) (readMap_eq b (closed s) hb)
  · exact takeRequest_refused _ _ s _ hready (by decide) (if_pos hb)
  · exact takeRequest_ok _ _ s _ _ hready (by decide) ((seatArg_seat i readCal (closed s)).trans (readCal_eq i (closed s)))

/-! ## SCAN TIMING SET and RETENTION SET (R38, R147) -/

/-- P, D and the settle time that six bytes ask for, clamped to their ranges (R38). -/
def timingWithin (b0 b1 b2 b3 b4 b5 : Byte) : Timing :=
  { p := within 2 1000 (b0.toNat + 256 * b1.toNat), d := within 2 65535 (b2.toNat + 256 * b3.toNat)
    settle := within 20 500 (b4.toNat + 256 * b5.toNat) }

/-- The timing in its layout, and the effective interval (R172). -/
def timingBytes (x : Timing) : List Byte :=
  bytesOf 2 x.p ++ bytesOf 2 x.d ++ bytesOf 2 x.settle ++ bytesOf 3 (within 10000 1000000 (x.p * x.d))

theorem timing_clamped (b0 b1 b2 b3 b4 b5 : Byte) :
    ({ p := ofLe16 b0 b1, d := ofLe16 b2 b3, settle := ofLe16 b4 b5 } : Timing).clamped = timingWithin b0 b1 b2 b3 b4 b5 := by
  simp only [Timing.clamped, clamp_eq_within (show 2 ≤ 1000 by decide), clamp_eq_within (show 2 ≤ 65535 by decide),
    clamp_eq_within (show 20 ≤ 500 by decide), ofLe16, timingWithin]

theorem timing_bytes (x : Timing) : x.bytes ++ le24 x.interval = timingBytes x := by
  rw [Timing.bytes, le24_eq_bytesOf, interval_eq]
  rfl

theorem answerScanTimingSet_eq (b0 b1 b2 b3 b4 b5 : Byte) (s : State) :
    answerScanTimingSet { body := [b0, b1, b2, b3, b4, b5], final := true } (closed s) = guardCommit s.store.switches.profile
      (fun s => Answer.ok (startCommit (.timing (timingWithin b0 b1 b2 b3 b4 b5))
          { s with scan := { s.scan with timing := timingWithin b0 b1 b2 b3 b4 b5 } })
        (timingBytes (timingWithin b0 b1 b2 b3 b4 b5))) (closed s) := by
  have howner : answerScanTimingSet { body := [b0, b1, b2, b3, b4, b5], final := true } (closed s) =
      setTiming { p := ofLe16 b0 b1, d := ofLe16 b2 b3, settle := ofLe16 b4 b5 } (closed s) := rfl
  rw [howner, setTiming, timing_clamped]
  simp only [timing_bytes]
  rfl

theorem clampRetain_eq (n : Nat) : clampRetain n = min 3600 n :=
  (clamp_eq_within (Nat.zero_le 3600) n).trans (Nat.zero_max _)

theorem answerRetention_eq (b0 b1 : Byte) (s : State) :
    answerRetention { body := [b0, b1], final := true } (closed s) = guardCommit s.store.switches.profile
      (fun s => Answer.ok (startCommit (.reminder s.rem.settings (min 3600 (b0.toNat + 256 * b1.toNat)))
          { s with ret := { s.ret with tRetain := min 3600 (b0.toNat + 256 * b1.toNat) } })
        (retentionBytes { s.ret with tRetain := min 3600 (b0.toNat + 256 * b1.toNat) })) (closed s) := by
  have howner : answerRetention { body := [b0, b1], final := true } (closed s) = setRetain (ofLe16 b0 b1) (closed s) := rfl
  rw [howner, setRetain, clampRetain_eq]
  simp only [retentionReport_eq_retentionBytes]
  rfl

/-- Settles O41. -/
theorem timingAndRetentionSettingsAreClampedAndCommitted : Obligations.TimingAndRetentionSettingsAreClampedAndCommitted :=
  ⟨fun s b0 b1 b2 b3 b4 b5 hready hbarred => ⟨_, rfl,
      takeRequest_barred hready (by decide) (answerScanTimingSet_eq b0 b1 b2 b3 b4 b5 s) hbarred⟩,
    fun s b0 b1 b2 b3 b4 b5 hready hfree hbusy => ⟨_, rfl,
      takeRequest_busy hready (by decide) (answerScanTimingSet_eq b0 b1 b2 b3 b4 b5 s) hfree hbusy⟩,
    fun s b0 b1 b2 b3 b4 b5 hready hfree hidle => ⟨_, rfl,
      takeRequest_free hready (by decide) (answerScanTimingSet_eq b0 b1 b2 b3 b4 b5 s) hfree hidle rfl⟩,
    fun s b0 b1 hready hbarred => ⟨_, rfl,
      takeRequest_barred hready (by decide) (answerRetention_eq b0 b1 s) hbarred⟩,
    fun s b0 b1 hready hfree hbusy => ⟨_, rfl,
      takeRequest_busy hready (by decide) (answerRetention_eq b0 b1 s) hfree hbusy⟩,
    fun s b0 b1 hready hfree hidle => ⟨_, congrArg Host.Outcome.next
      (takeRequest_free hready (by decide) (answerRetention_eq b0 b1 s) hfree hidle rfl), rfl⟩⟩

/-! ## SEAT PROBE (R33, R34) -/

theorem probeSeat_busy (i : Seat) (hheld : s.scan.probe.seat ≠ none) : probeSeat i s = Answer.refuse .busy s := by
  unfold probeSeat
  rcases hp : s.scan.probe with r | ⟨j, how⟩ | b
  · rw [hp] at hheld; exact absurd rfl hheld
  · rfl
  · rfl

theorem probeSeat_free (i : Seat) (hfree : s.scan.probe.seat = none) : probeSeat i s =
    if s.scan.state = .halted ∨ (s.verd.seats.get i).lifecycle = .unmapped ∨ (s.verd.seats.get i).lifecycle = .absent then
      Answer.refuse .state s
    else Answer.ok (armProbe i s) [] := by
  unfold probeSeat
  rcases hp : s.scan.probe with r | ⟨j, how⟩ | b
  · rfl
  · rw [hp] at hfree; cases hfree
  · rw [hp] at hfree; cases hfree

/-- An accepted SEAT PROBE is answered OK, with the part armed (R34). -/
theorem takeRequest_seatProbe {i : Seat} (hready : Ready s) (hfree : s.scan.probe.seat = none)
    (hmounted : (s.verd.seats.get i).lifecycle = .active ∨ (s.verd.seats.get i).lifecycle = .faulted)
    (hrunning : s.scan.state ≠ .halted) :
    takeRequest 0x22 (answerSeatProbe { body := [(i.val : Byte)], final := true }) s =
      answering 0x22 .ok [] (armProbe i (closed s)) := by
  refine takeRequest_ok _ _ s _ _ hready (by decide) ?_
  refine (seatArg_seat i probeSeat (closed s)).trans ((probeSeat_free (s := closed s) i hfree).trans (if_neg ?_))
  rintro (h | h | h)
  · exact hrunning h
  · have h' : (s.verd.seats.get i).lifecycle = .unmapped := h
    rw [h'] at hmounted; simp at hmounted
  · have h' : (s.verd.seats.get i).lifecycle = .absent := h
    rw [h'] at hmounted; simp at hmounted

/-- The part after an accepted SEAT PROBE that begins no probe pass (R34). -/
def armedFor (i : Seat) (how : ProbeService) (s : State) : State :=
  { closed s with scan := { s.scan with probe := .armed i how } }

theorem armProbe_timed (i : Seat) (h : s.scan.state = .waiting ∨ (s.scan.state = .pass ∧ s.scan.closing = false)) :
    armProbe i (closed s) = { closed s with
      scan := { s.scan with probe := .armed i .timed }, feat := { s.feat with intake := s.feat.intake.probeArmed } } := by
  have hhow : (closed s).scan.serviceOf = .timed := (serviceOf_eq _).trans (if_pos h)
  have hnot : ¬ (closed s).scan.state = .stopped := by
    intro hstopped
    rcases h with h | ⟨h, -⟩ <;> cases h.symm.trans hstopped
  rw [armProbe, hhow]
  exact if_neg hnot

theorem armProbe_other (i : Seat) {how : ProbeService} (hhow : s.scan.serviceOf = how) (hnot : how ≠ .timed) :
    armProbe i (closed s) =
      if s.scan.state = .stopped then beginProbePass i (armedFor i how s) else armedFor i how s := by
  have hclosed : (closed s).scan.serviceOf = how := hhow
  rw [armProbe, hclosed]
  dsimp only
  rw [if_neg hnot]
  rfl

theorem probeArmed_eq (x : Intake) : x.probeArmed = match x with | .finishing m _ c => .finishing m true c | y => y := by
  cases x <;> rfl

/-- Settles O44. -/
theorem seatProbeIsCheckedAndArmed : Obligations.SeatProbeIsCheckedAndArmed := by
  refine ⟨fun s z hready hz => ⟨_, rfl, takeRequest_refused _ _ s _ hready (by decide) (seatArg_bad z _ _ hz)⟩,
    fun s i hready hheld => ⟨_, rfl, takeRequest_refused _ _ s _ hready (by decide)
      ((seatArg_seat i probeSeat (closed s)).trans (probeSeat_busy (s := closed s) i hheld))⟩,
    fun s i hready hfree hstate => ⟨_, rfl, takeRequest_refused _ _ s _ hready (by decide)
      ((seatArg_seat i probeSeat (closed s)).trans ((probeSeat_free (s := closed s) i hfree).trans (if_pos hstate)))⟩,
    fun s i hready hfree hmounted hstate => ⟨_, congrArg Host.Outcome.next
      (takeRequest_seatProbe hready hfree hmounted ?_), ?_⟩,
    fun s i hready hfree hmounted hstate => ⟨_, congrArg Host.Outcome.next
      (takeRequest_seatProbe hready hfree hmounted (by rw [hstate]; decide)), ?_⟩,
    fun s i hready hfree hmounted hstate => ⟨_, congrArg Host.Outcome.next
      (takeRequest_seatProbe hready hfree hmounted (by rw [hstate]; decide)), ?_⟩,
    fun s i hready hfree hmounted hstate hclosing => ⟨_, congrArg Host.Outcome.next
      (takeRequest_seatProbe hready hfree hmounted (by rw [hstate]; decide)), ?_⟩⟩
  · rcases hstate with h | ⟨h, -⟩ <;> rw [h] <;> decide
  · rw [armProbe_timed i hstate, probeArmed_eq] <;> rfl
  · have hhow : s.scan.serviceOf = .probePass := by rw [serviceOf_eq, hstate]; simp
    rw [armProbe_other i hhow (by decide), if_pos hstate, beginProbePass_eq]
    rfl
  · have hhow : s.scan.serviceOf = .probePass := by rw [serviceOf_eq, hstate]; simp
    rw [armProbe_other i hhow (by decide), if_neg (by rw [hstate]; decide)]
    rfl
  · have hhow : s.scan.serviceOf = .closing := by rw [serviceOf_eq, hstate, hclosing]; simp
    rw [armProbe_other i hhow (by decide), if_neg (by rw [hstate]; decide)]
    rfl

end Sys2Proof.Machine

/-! SUPPORT. Settles the statement on SEAT SUMMARY and SEAT DETAIL (O46). -/

namespace Sys2Proof.Machine

open Sys2Proof.Safety

variable {s t : State} {r : SeatRec}

/-! ## SEAT SUMMARY (R79) -/

/-- Where the bytes of an element stand in a list of pairs of bytes. -/
theorem getElem?_flatMap_pair {α β : Type} (a b : α → β) (l : List α) (k : Nat) :
    (l.flatMap fun x => [a x, b x])[2 * k]? = (l[k]?).map a ∧
    (l.flatMap fun x => [a x, b x])[2 * k + 1]? = (l[k]?).map b := by
  induction l generalizing k with
  | nil => exact ⟨rfl, rfl⟩
  | cons x l ih =>
    cases k with
    | zero => exact ⟨rfl, rfl⟩
    | succ k => exact ih k

theorem summary_codes_lt (r : SeatRec) (m : ReminderState) : r.lifecycle.code + r.confirmed.code * 16 < 256 ∧
    r.buckle.code + m.code * 8 + r.latchedEmpty.toNat * 128 < 256 := by
  have hlife : r.lifecycle.code ≤ 3 := by cases r.lifecycle <;> decide
  have hverdict : r.confirmed.code ≤ 5 := by cases r.confirmed <;> decide
  have hbuckle : r.buckle.code ≤ 4 := by cases r.buckle <;> decide
  have hreminder : m.code ≤ 6 := by cases m <;> decide
  have hlatched := Bool.toNat_le r.latchedEmpty
  omega

/-- The SEAT SUMMARY body (R79, R175). -/
def summaryBody (s : State) : List Byte :=
  allSeats.flatMap fun i => summaryBytes (s.verd.seats.get i) (s.rem.table.get i).state

theorem summaryBody_length (s : State) : (summaryBody s).length = 32 := by
  simp [summaryBody, summaryBytes, allSeats]

theorem summaryBody_seat (s : State) (i : Seat) :
    ((summaryBody s).getD (2 * i.val) 0).toNat =
      (s.verd.seats.get i).lifecycle.code + 16 * (s.verd.seats.get i).confirmed.code ∧
    ((summaryBody s).getD (2 * i.val + 1) 0).toNat = (s.verd.seats.get i).buckle.code +
      8 * (s.rem.table.get i).state.code + 128 * bit (s.verd.seats.get i).latchedEmpty := by
  have hseat : allSeats[i.val]? = some i := by
    rw [allSeats, List.getElem?_eq_getElem (by simp), List.getElem_finRange]
    rfl
  obtain ⟨heven, hodd⟩ := getElem?_flatMap_pair
    (fun j : Seat => byteOf ((s.verd.seats.get j).lifecycle.code + (s.verd.seats.get j).confirmed.code * 16))
    (fun j : Seat => byteOf ((s.verd.seats.get j).buckle.code + (s.rem.table.get j).state.code * 8 +
      (s.verd.seats.get j).latchedEmpty.toNat * 128)) allSeats i.val
  obtain ⟨hfirst, hsecond⟩ := summary_codes_lt (s.verd.seats.get i) (s.rem.table.get i).state
  rw [hseat, Option.map_some] at heven hodd
  have hlow : (summaryBody s)[2 * i.val]? = _ := heven
  have hhigh : (summaryBody s)[2 * i.val + 1]? = _ := hodd
  rw [List.getD_eq_getElem?_getD, List.getD_eq_getElem?_getD, hlow, hhigh, Option.getD_some, Option.getD_some,
    byte_of_small hfirst, byte_of_small hsecond, toNat_eq_bit, Nat.mul_comm _ 16, Nat.mul_comm _ 8, Nat.mul_comm _ 128]
  exact ⟨rfl, rfl⟩

/-! ## SEAT DETAIL (R80) -/

theorem shownRequired_eq (p : Profile) (r : SeatRec) : shownRequired p r =
    match r.candidate with | some v => requiredAt p r.confirmed v r.motionHold | none => 0 := by
  rcases hc : r.candidate with _ | v
  · simp [shownRequired, hc]
  · have h := requiredCount_eq_requiredAt p r v r.candidateCount
    rw [← hc] at h
    simp only [shownRequired, hc, Option.isSome_some, if_true]
    exact h

theorem detailFlags_eq (r : SeatRec) : detailFlags r =
    (bit r.unstable + 2 * bit r.motionHold + 4 * bit r.features.isSome +
      8 * bit (r.features.any fun f => f.tension.isSome) +
      16 * bit (r.features.any fun f => f.tension.any fun x => x.2) + 32 * bit r.tensionFault + 64 * bit r.latchedEmpty :
      Byte) := by
  have hflags : detailFlags r = byteOf (bitsOf [r.unstable, r.motionHold, r.features.isSome,
      r.features.any fun f => f.tension.isSome, r.features.any fun f => f.tension.any fun x => x.2, r.tensionFault,
      r.latchedEmpty]) := by
    unfold detailFlags
    rcases r.features with _ | ⟨load, mass, contacts, rail, _ | x, evidence, conditions⟩
    · rfl
    · rfl
    · rfl
  rw [hflags]
  simp only [byteOf_bitsOf_cons, byteOf_bitsOf_nil]
  ring

theorem featureBytes_eq (x : Option LastFeatures) : featureBytes x = bytesOf 2 ((x.map LastFeatures.load).getD 0) ++
    [((x.map LastFeatures.mass).getD 0 : Byte), (x.map LastFeatures.contacts).getD 0, (x.map LastFeatures.rail).getD 0,
      ((x.bind LastFeatures.tension).map Prod.fst).getD 0, (x.map LastFeatures.evidence).getD 0,
      (x.map fun f => conditionNumber f.conditions).getD 0xFF] := by
  rcases x with _ | ⟨load, mass, contacts, rail, _ | x, evidence, conditions⟩
  · rfl
  · rw [featureBytes, conditions.bits_eq_conditionNumber]; rfl
  · rw [featureBytes, conditions.bits_eq_conditionNumber]; rfl

theorem agreeByte_eq (a : Agree) : agreeByte a =
    ((match a with | .zero => 0 | .run false n => 32 + n | .run true n => 48 + n : Nat) : Byte) := by
  rcases a with _ | ⟨_ | _, n⟩
  · rfl
  · exact congrArg byteOf (Nat.add_comm ..)
  · exact congrArg byteOf (Nat.add_comm ..)

theorem history_bytes (h : List Verdict) :
    (List.range 8).map (fun i => match h[i]? with | some v => byteOf v.code | none => 0) =
      (List.range 8).map fun k => (((h[k]?).map Verdict.code).getD 0 : Byte) := by
  refine List.map_congr_left fun k _ => ?_
  cases h[k]? <;> rfl

theorem readSeat_eq (i : Seat) (s : State) : readSeat i s = Answer.ok s (detailOf s i) := by
  rw [readSeat, detailBytes, thrEmpty_eq_thrAt, thrPerson_eq_thrAt, thrAdult_eq_thrAt, shownRequired_eq, detailFlags_eq,
    featureBytes_eq, agreeByte_eq, ← List.append_assoc _ (bytesOf 2 _), List.append_assoc]
  refine congrArg (Answer.ok s) (congrArg₂ (· ++ ·) (congrArg₂ (· ++ ·) (congrArg₂ (· ++ ·) (congrArg₂ (· ++ ·) ?record
    (history_bytes _)) ?flags) rfl) ?streaks)
  case record => cases (s.verd.seats.get i).candidate <;> rfl
  case flags => cases (s.verd.seats.get i).evicted <;> rfl
  case streaks => rcases (s.verd.seats.get i).agree with _ | ⟨_ | _, n⟩ <;> rfl

/-- Settles O46. -/
theorem seatSummaryAndDetailShowTheRecords : Obligations.SeatSummaryAndDetailShowTheRecords :=
  ⟨fun s hready => ⟨_, congrArg Host.Outcome.next
      (takeRequest_ok 0x38 (answerSeatSummary { body := [], final := true }) s (closed s) (summaryBody s) hready (by decide) rfl),
      rfl, summaryBody_length s, summaryBody_seat s⟩,
    fun s i hready => ⟨_, rfl, takeRequest_ok _ _ s _ _ hready (by decide)
      ((seatArg_seat i readSeat (closed s)).trans (readSeat_eq i (closed s)))⟩,
    fun s z hready hz => ⟨_, rfl, takeRequest_refused _ _ s _ hready (by decide) (seatArg_bad z _ _ hz)⟩⟩

end Sys2Proof.Machine

/-! SUPPORT. Settles the statements on the forms of requests (O34) and on the receiver (O32). -/

namespace Sys2Proof.Machine

open Sys2Proof.Safety

variable {s t : State} {f : ReqFrame} {code : Byte}

/-! ## The request that a CODE names (R153, R172) -/

/-- The codes of the requests whose command carries the whole frame. -/
def frameCodes : List Byte :=
  [0x01, 0x02, 0x03, 0x08, 0x09, 0x11, 0x12, 0x20, 0x21, 0x22, 0x23, 0x30, 0x31, 0x32, 0x38, 0x39, 0x41, 0x42, 0x43, 0x48,
   0x60, 0x61]

theorem exec_requestOf_frame (h : code ∈ frameCodes) (f : ReqFrame) (s : State) :
    exec (requestOf code f) s = .next (takeRequest code (requestAnswer code f) s) := by
  simp only [frameCodes, List.mem_cons, List.not_mem_nil, or_false] at h
  rcases h with rfl | rfl | rfl | rfl | rfl | rfl | rfl | rfl | rfl | rfl | rfl | rfl | rfl | rfl | rfl | rfl | rfl | rfl |
    rfl | rfl | rfl | rfl <;> rfl

theorem exec_requestOf_mapWrite (f : ReqFrame) (s : State) :
    exec (requestOf mapWriteCode f) s = .next (takeRequest mapWriteCode (answerMapWrite f none) s) := by
  rcases f with ⟨_ | ⟨part, records⟩, final⟩
  · rfl
  · have hof : requestOf mapWriteCode { body := part :: records, final := final } =
        if part = 0 then .mapWriteOpen records final
        else if part = 3 ∧ final = true then .mapWriteFinal ⟨records, none⟩
        else .mapWriteContinue part records final := rfl
    rw [hof]
    split
    · next h0 => rw [h0]; rfl
    · split
      · next h3 => rw [h3.1, h3.2]; rfl
      · rfl

theorem exec_requestOf_retention (f : ReqFrame) (s : State) :
    exec (requestOf 0x50 f) s = .next (takeRequest 0x50 (answerRetention f) s) := by
  rcases f with ⟨_ | ⟨b, body⟩, final⟩ <;> rfl

theorem requestCodes_cases (h : code ∈ requestCodes) : code = mapWriteCode ∨ code = 0x50 ∨ code ∈ frameCodes := by
  revert code
  decide

theorem requestOf_unknown (h : code ∉ requestCodes) (f : ReqFrame) : requestOf code f = .unknownRequest code f := by
  simp only [requestCodes, List.mem_cons, List.not_mem_nil, or_false, not_or] at h
  simp only [requestOf, h, if_false]

theorem requestAnswer_unknown (h : code ∉ requestCodes) (f : ReqFrame) (s : State) :
    requestAnswer code f s = Answer.refuse .unknownRequest s := by
  simp only [requestCodes, List.mem_cons, List.not_mem_nil, or_false, not_or] at h
  simp only [requestAnswer, mapWriteCode, h, if_false]

/-- The command that a CODE and a body name is taken with the answer of that CODE. -/
theorem exec_requestOf (code : Byte) (f : ReqFrame) (s : State) :
    exec (requestOf code f) s = .next (takeRequest code (requestAnswer code f) s) := by
  by_cases h : code ∈ requestCodes
  · rcases requestCodes_cases h with rfl | rfl | hframe
    · exact exec_requestOf_mapWrite f s
    · exact exec_requestOf_retention f s
    · exact exec_requestOf_frame hframe f s
  · rw [requestOf_unknown h]; rfl

/-! ## Requests refused by their form (O34) -/

/-- Every request command is a frame that dispatch takes. -/
theorem exec_request {cmd : Instr} (h : isRequest cmd = true) :
    ∃ code owner, ∀ s, exec cmd s = .next (takeRequest code owner s) := by
  cases cmd with
  | unknownRequest _ _ | identify _ | status _ | restart _ | noticeFetch _ | noticeLevelSet _ | mapWriteOpen _ _
  | mapWriteContinue _ _ _ | mapWriteFinal _ | mapRead _ | profileWrite _ | scanTimingSet _ | scanStatus _ | seatProbe _
  | probeRead _ | calWrite _ | calRead _ | zeroCapture _ | seatSummary _ | seatDetail _ | vehicleState _ | reminderSet _
  | cabinReminder _ | advisoryRead _ | retentionSet _ | retentionRead _ | protectSet _ | protectionClear _ =>
    exact ⟨_, _, fun _ => rfl⟩
  | _ => cases h

theorem exec_noArgument (k : Fin 8) : ∃ owner : State → Answer, ∀ (f : ReqFrame) (s : State),
    exec ((noArgument k).2 f) s = .next (takeRequest (noArgument k).1 (formEmpty f owner) s) := by
  fin_cases k <;> exact ⟨_, fun _ _ => rfl⟩

theorem exec_oneByte (j : Fin 10) : ∃ owner : Byte → State → Answer, ∀ (f : ReqFrame) (s : State),
    exec ((oneByte j).2 f) s = .next (takeRequest (oneByte j).1 (formByte f owner) s) := by
  fin_cases j <;> exact ⟨_, fun _ _ => rfl⟩

theorem exec_seatByte (q : Fin 4) : ∃ owner : Seat → State → Answer, ∀ (b : Byte) (s : State),
    exec ((seatByte q).2 { body := [b], final := true }) s = .next (takeRequest (seatByte q).1 (seatArg b owner) s) := by
  fin_cases q <;> exact ⟨_, fun _ _ => rfl⟩

theorem answerProfileWrite_bad (f : ProfileFrame) (s : State) (h : f.final = false ∨ f.body.length ≠ 13) :
    answerProfileWrite f s = Answer.refuse .badArg s := by
  unfold answerProfileWrite
  split
  · next ix record hbody =>
    refine if_neg ?_
    rw [hbody, List.length_cons] at h
    rcases h with h | h
    · simp [h]
    · simp only [Bool.and_eq_true, decide_eq_true_eq, not_and]; omega
  · rfl

theorem answerScanTimingSet_bad (f : ReqFrame) (s : State) (h : f.final = false ∨ f.body.length ≠ 6) :
    answerScanTimingSet f s = Answer.refuse .badArg s := by
  unfold answerScanTimingSet
  split
  · next hfinal hbody => rw [hfinal, hbody] at h; simp at h
  · rfl

theorem answerReminderSet_bad (f : ReqFrame) (s : State) (h : f.final = false ∨ f.body.length ≠ 6) :
    answerReminderSet f s = Answer.refuse .badArg s := by
  unfold answerReminderSet
  split
  · next hfinal hbody => rw [hfinal, hbody] at h; simp at h
  · rfl

theorem answerRetention_bad (f : ReqFrame) (s : State)
    (h : f.final = false ∨ (f.body.length ≠ 0 ∧ f.body.length ≠ 2)) : answerRetention f s = Answer.refuse .badArg s := by
  unfold answerRetention
  split
  · next hfinal hbody => rw [hfinal, hbody] at h; simp at h
  · next hfinal hbody => rw [hfinal, hbody] at h; simp at h
  · rfl

theorem answerCalWrite_bad (f : ReqFrame) (s : State) (h : f.final = false ∨ f.body.length < 5 ∨ 50 < f.body.length ∨
    f.body.length % 3 ≠ 2 ∨ (f.body.getD 1 0).toNat ≠ (f.body.length - 2) / 3 ∨ 16 ≤ (f.body.getD 0 0).toNat) :
    answerCalWrite f s = Answer.refuse .badArg s := by
  unfold answerCalWrite
  split
  · next seat k rest hfinal hbody =>
    rw [hfinal, hbody] at h
    split
    · next hform =>
      obtain ⟨hmod, hone, hsixteen, hk⟩ := hform
      simp only [List.length_cons, List.getD_cons_succ, List.getD_cons_zero, Bool.true_eq_false, false_or] at h
      refine seatArg_bad seat _ s ?_
      omega
    · rfl
  · rfl

/-- Settles O34. -/
theorem requestsAreDiscardedOrRefusedByTheirForm : Obligations.RequestsAreDiscardedOrRefusedByTheirForm := by
  have hplain : (∀ k, (noArgument k).1 ≠ mapWriteCode) ∧ (∀ j, (oneByte j).1 ≠ mapWriteCode) ∧
      ∀ q, (seatByte q).1 ≠ mapWriteCode := by decide
  obtain ⟨hnone, hone, hseat⟩ := hplain
  refine ⟨fun s cmd hreq hbusy => ?_, fun s f code hready hcode => ⟨_, rfl, ?_⟩, fun s f k hready hbad => ?_,
    fun s f j hready hbad => ?_, fun s q b hready hb => ?_,
    fun s f n hready hbad => ⟨_, rfl, takeRequest_refused _ _ s _ hready (by decide) (answerProfileWrite_bad _ _ hbad)⟩,
    fun s f hready hbad => ⟨_, rfl, takeRequest_refused _ _ s _ hready (by decide) (answerScanTimingSet_bad _ _ hbad)⟩,
    fun s f hready hbad => ⟨_, rfl, takeRequest_refused _ _ s _ hready (by decide) (answerReminderSet_bad _ _ hbad)⟩,
    fun s f hready hbad => ⟨_, rfl, takeRequest_refused _ _ s _ hready (by decide) (answerCalWrite_bad _ _ hbad)⟩,
    fun s f hready hbad => ⟨_, rfl, takeRequest_refused _ _ s _ hready (by decide) (answerRetention_bad _ _ hbad)⟩,
    fun s hready => ⟨_, rfl, takeRequest_refused _ _ s _ hready (by decide) rfl⟩,
    fun s f code _ => ⟨_, rfl, exec_requestOf code f s⟩⟩
  · obtain ⟨code, owner, hexec⟩ := exec_request hreq
    refine ⟨_, hexec s, takeRequest_discarded code owner s ?_⟩
    rintro ⟨hload, hidle⟩
    rcases hbusy with h | h
    · rw [hload] at h; cases h
    · exact h hidle
  · refine takeRequest_refused code _ s _ hready ?_ (requestAnswer_unknown hcode f (closed s))
    rintro rfl
    exact hcode (by decide)
  · obtain ⟨owner, hexec⟩ := exec_noArgument k
    exact ⟨_, hexec f s, takeRequest_refused _ _ s _ hready (hnone k) (formEmpty_bad f owner _ hbad.symm)⟩
  · obtain ⟨owner, hexec⟩ := exec_oneByte j
    exact ⟨_, hexec f s, takeRequest_refused _ _ s _ hready (hone j) (formByte_bad f owner _ hbad.symm)⟩
  · obtain ⟨owner, hexec⟩ := exec_seatByte q
    exact ⟨_, hexec b s, takeRequest_refused _ _ s _ hready (hseat q) (seatArg_bad b owner _ hb)⟩

/-! ## The receiver (O32) -/

theorem foldl_add_toNat (bs : List Byte) (a : Byte) :
    (bs.foldl (· + ·) a).toNat = (a.toNat + (bs.map BitVec.toNat).sum) % 256 := by
  induction bs generalizing a with
  | nil => have := a.isLt; simp only [List.foldl_nil, List.map_nil, List.sum_nil]; omega
  | cons b bs ih => rw [List.foldl_cons, ih, BitVec.toNat_add, List.map_cons, List.sum_cons]; omega

theorem byteSum_eq_zero (bs : List Byte) : byteSum bs = 0 ↔ sumOf bs = 0 := by
  have hsum : (byteSum bs).toNat = sumOf bs := by
    rw [byteSum, foldl_add_toNat, sumOf]
    exact congrArg (· % 256) (Nat.zero_add _)
  rw [← hsum, ← BitVec.toNat_inj]
  rfl

/-- What a byte does outside the load, state by state (R150). -/
theorem receive_enabled (b : Byte) (h : s.store.loading = false) : receive b s = match s.lnk.rxState with
    | .hunt =>
        if b = 0x3C then
          { s with lnk := { s.lnk with rxState := .length, rxLen := 0, rxBuf := [], rxCheck := 0, interByte := true } }
        else s
    | .length =>
        if 1 ≤ b.toNat ∧ b.toNat ≤ 57 then { s with lnk := { s.lnk with rxState := .body, rxLen := b, interByte := true } }
        else linkErrorReply .badLength 0 s
    | .body =>
        { s with lnk := { s.lnk with
            rxBuf := s.lnk.rxBuf ++ [b], interByte := true
            rxState := if s.lnk.rxLen.toNat ≤ s.lnk.rxBuf.length + 1 then .check else .body } }
    | .check => { s with lnk := { s.lnk with rxState := .end_, rxCheck := b, interByte := true } }
    | .end_ => frameEnds b s := by
  unfold receive
  rw [if_neg (by rw [h]; decide)]
  cases s.lnk.rxState with
  | body => simp only [List.length_append, List.length_singleton]
  | _ => rfl

theorem frameEnds_badEnd {b : Byte} (h : b ≠ 0x0D ∧ b ≠ 0x0B) (s : State) :
    frameEnds b s = linkErrorReply .badFrame (s.lnk.rxBuf.headD 0) s := if_pos h

theorem frameEnds_badCheck {b : Byte} (h : b = 0x0D ∨ b = 0x0B)
    (hsum : sumOf (s.lnk.rxLen :: s.lnk.rxCheck :: s.lnk.rxBuf) ≠ 0) :
    frameEnds b s = linkErrorReply .badCheck (s.lnk.rxBuf.headD 0) s := by
  rw [frameEnds, if_neg (by tauto), if_pos fun h0 => hsum ((byteSum_eq_zero _).1 h0)]
  rfl

theorem frameEnds_good {b : Byte} (h : b = 0x0D ∨ b = 0x0B)
    (hsum : sumOf (s.lnk.rxLen :: s.lnk.rxCheck :: s.lnk.rxBuf) = 0) : frameEnds b s =
      takeRequest (s.lnk.rxBuf.headD 0) (requestAnswer (s.lnk.rxBuf.headD 0)
        { body := s.lnk.rxBuf.drop 1, final := decide (b = 0x0D) }) (hunting s) := by
  rw [frameEnds, if_neg (by tauto), if_neg fun h0 => h0 ((byteSum_eq_zero _).2 hsum)]
  rfl

/-- Settles O32. -/
theorem receiverTakesBytesIntoAFrame : Obligations.ReceiverTakesBytesIntoAFrame := by
  refine ⟨fun s b hload => ⟨_, rfl, if_pos hload⟩, fun s b hload hst => ⟨_, rfl, ?_⟩, fun s b hload hst => ⟨_, rfl, ?_⟩,
    fun s b hload hst => ⟨_, rfl, ?_⟩, fun s b hload hst => ⟨_, rfl, ?_⟩, fun s b hload hst h13 h11 => ⟨_, rfl, ?_⟩,
    fun s b hload hst hend hsum => ⟨_, rfl, ?_⟩, fun s b hload hst hend hsum => ⟨_, rfl, ?_⟩,
    fun s hrun => ⟨_, rfl, if_pos hrun⟩, fun s hstop => ⟨_, rfl, if_neg (by rw [hstop]; decide)⟩⟩
  · rw [receive_enabled b hload, hst]
  · rw [receive_enabled b hload, hst]
  · rw [receive_enabled b hload, hst]
  · rw [receive_enabled b hload, hst]
  · rw [receive_enabled b hload, hst]; exact frameEnds_badEnd ⟨h13, h11⟩ s
  · rw [receive_enabled b hload, hst]; exact frameEnds_badCheck hend hsum
  · rw [receive_enabled b hload, hst]
    exact (exec_requestOf ..).trans (congrArg Host.Outcome.next (frameEnds_good hend hsum).symm)

end Sys2Proof.Machine

/-! SUPPORT. Settles the statement on PROFILE WRITE (O40). -/

namespace Sys2Proof.Machine

open Sys2Proof.Safety

variable {s t : State} {p : Profile} {rec : List Byte}

/-! ## Profile records (R3, R173) -/

theorem clamped_eq_within (p : Profile) : p.clamped = profileWithin p := by
  simp only [Profile.clamped, profileWithin, clampByte, clamp_eq_within (show 1 ≤ 4095 by decide),
    clamp_eq_within (show 1 ≤ 1023 by decide), clamp_eq_within (show 1 ≤ 253 by decide),
    clamp_eq_within (show 2 ≤ 254 by decide), clamp_eq_within (show 3 ≤ 255 by decide),
    clamp_eq_within (show 0 ≤ 20 by decide), clamp_eq_within (show 1 ≤ 64 by decide),
    clamp_eq_within (show 1 ≤ 255 by decide), clamp_eq_within (show 1 ≤ 16 by decide),
    clamp_eq_within (show 1 ≤ 20 by decide), clamp_eq_within (show 1 ≤ 60 by decide),
    clamp_eq_within (show 1 ≤ 30 by decide)]

theorem ordered_iff (p : Profile) :
    p.ordered = true ↔ p.mEmpty.toNat < p.mPerson.toNat ∧ p.mPerson.toNat < p.mAdult.toNat := by
  rw [Profile.ordered, Bool.and_eq_true, decide_eq_true_eq, decide_eq_true_eq]

/-- A record of twelve bytes is the profile whose wired fields it carries, with the N_child that goes beside it. -/
theorem ofBytes_eq (h : IsProfileOf rec p) (n : Byte) : Profile.ofBytes n rec = { p with nChild := n } := by
  obtain ⟨hgroup, h3, h4, h5, h6, h7, h8, h9, h10, h11⟩ := h
  have htc := p.tc.isLt
  have hk := p.k.isLt
  have hnumber := toNat_group (rec.getD 0 0) (rec.getD 1 0) (rec.getD 2 0)
  have hlow : ((rec.getD 2 0 ++ (rec.getD 1 0 ++ rec.getD 0 0) : BitVec 24).extractLsb' 0 12) = p.tc := by
    apply BitVec.eq_of_toNat_eq
    rw [BitVec.extractLsb'_toNat, hnumber, Nat.shiftRight_zero]
    omega
  have hhigh : ((rec.getD 2 0 ++ (rec.getD 1 0 ++ rec.getD 0 0) : BitVec 24).extractLsb' 12 10) = p.k := by
    apply BitVec.eq_of_toNat_eq
    rw [BitVec.extractLsb'_toNat, hnumber, Nat.shiftRight_eq_div_pow]
    omega
  rw [Profile.ofBytes, hlow, hhigh, ← h3, ← h4, ← h5, ← h6, ← h7, ← h8, ← h9, ← h10, ← h11]

/-! ## PROFILE WRITE (R15) -/

/-- The part after an accepted PROFILE WRITE, before the reply. -/
def profileWritten (ix : ProfileIx) (p : Profile) (s : State) : State :=
  startCommit (.profiles (s.cmap.profiles.set ix p)) { closed s with
    cmap := { s.cmap with profiles := s.cmap.profiles.set ix p }, free := s.free + 1 }

/-- The profile that a record asks for. -/
def profileSent (s : State) (rec : List Byte) (n : Option Byte) : Profile := Profile.ofBytes (sentNChild s.free n) rec

section
variable (hlength : rec.length = 12) (n : Option Byte)
include hlength

theorem answerProfileWrite_form (b : Byte) :
    answerProfileWrite { body := b :: rec, final := true, nChild := n } s = writeProfile b rec n s :=
  if_pos (by simp [hlength])

theorem answerProfileWrite_eq (ix : ProfileIx) :
    answerProfileWrite { body := (ix.val : Byte) :: rec, final := true, nChild := n } (closed s) =
      guardCommit s.store.switches.profile (fun _ =>
        if (profileSent s rec n).ordered then
          (Answer.ok (profileWritten ix (profileSent s rec n).clamped s)
            ((ix.val : Byte) :: (profileSent s rec n).clamped.bytes)).withProfiles [(profileSent s rec n).clamped]
        else Answer.refuse .badArg (closed s)) (closed s) := by
  have hix : ((ix.val : Byte)).toNat = ix.val := byte_of_small (by omega)
  have hlt : ((ix.val : Byte)).toNat < 4 := by rw [hix]; exact ix.isLt
  have hsame : (⟨((ix.val : Byte)).toNat, hlt⟩ : ProfileIx) = ix := Fin.ext hix
  rw [answerProfileWrite_form hlength, writeProfile, dif_pos hlt, hsame]
  rfl

theorem takeRequest_profileWritten (ix : ProfileIx) (hready : Ready s) (hbarred : s.store.switches.profile = false)
    (hidle : s.store.commit = .idle) (hordered : (profileSent s rec n).ordered = true) :
    takeRequest 0x12 (answerProfileWrite { body := (ix.val : Byte) :: rec, final := true, nChild := n }) s =
      answering 0x12 .ok ((ix.val : Byte) :: profileBytes (profileSent s rec n).clamped)
        (profileWritten ix (profileSent s rec n).clamped s) [(profileSent s rec n).clamped.nChild] := by
  rw [← Profile.bytes_eq]
  refine takeRequest_withProfiles (code := 0x12) (ps := [(profileSent s rec n).clamped]) hready (by decide) ?_
  rw [answerProfileWrite_eq hlength, hbarred, guardCommit_free _ (closed s) hidle, if_pos hordered]

end

/-- Settles O40. -/
theorem profileWriteReplacesOneClampedProfile : Obligations.ProfileWriteReplacesOneClampedProfile := by
  refine ⟨fun s b rec n hready hlength hb => ⟨_, rfl, takeRequest_refused 0x12 _ s _ hready (by decide) ?_⟩,
    fun s ix rec n hready hlength hbarred => ⟨_, rfl,
      takeRequest_barred hready (by decide) (answerProfileWrite_eq hlength n ix) hbarred⟩,
    fun s ix rec n hready hlength hfree hbusy => ⟨_, rfl,
      takeRequest_busy hready (by decide) (answerProfileWrite_eq hlength n ix) hfree hbusy⟩,
    fun s ix rec n hready hlength hfree hidle hnot => ⟨_, rfl, takeRequest_refused 0x12 _ s _ hready (by decide) ?_⟩,
    fun s ix rec p hready hlength hfree hidle hp hlow hhigh => ?_,
    fun s ix rec p hready hlength hfree hidle hp hlow hhigh => ?_⟩
  · rw [answerProfileWrite_form hlength]
    exact dif_neg (by omega)
  · rw [answerProfileWrite_eq hlength, hfree, guardCommit_free _ (closed s) hidle]
    exact if_neg fun h => hnot ((ordered_iff _).1 h)
  · have hsent : profileSent s rec (some p.nChild) = p := ofBytes_eq hp p.nChild
    have hordered : p.ordered = true := (ordered_iff p).2 ⟨hlow, hhigh⟩
    refine ⟨_, congrArg Host.Outcome.next (takeRequest_profileWritten hlength (some p.nChild) ix hready hfree hidle
      (by rw [hsent]; exact hordered)), ?_⟩
    rw [hsent, clamped_eq_within]
    exact ⟨Tab.get_set_same .., clamped_eq_within p ▸ clamped_ok p hordered, fun k hk => Tab.get_set_other _ _ hk, rfl⟩
  · have hsent := ofBytes_eq hp (sentNChild s.free none)
    have hordered : (profileSent s rec none).ordered = true := by
      rw [profileSent, hsent]; exact (ordered_iff p).2 ⟨hlow, hhigh⟩
    have hget : (s.cmap.profiles.set ix (profileSent s rec none).clamped).get ix = (profileSent s rec none).clamped :=
      Tab.get_set_same ..
    refine ⟨_, congrArg Host.Outcome.next (takeRequest_profileWritten hlength none ix hready hfree hidle hordered),
      ?_, ?_, fun k hk => Tab.get_set_other _ _ hk, ?_⟩
    · refine (congrArg (fun q : Profile => { q with nChild := 0 }) hget).trans ?_
      rw [profileSent, hsent, clamped_eq_within]
      rfl
    · exact (congrArg Profile.ok hget).trans (clamped_ok _ hordered)
    · have hframe := congrArg (fun q : Profile => answering 0x12 .ok ((ix.val : Byte) :: profileBytes q)
        (profileWritten ix (profileSent s rec none).clamped s) [q.nChild]) hget.symm
      exact hframe

end Sys2Proof.Machine

/-! SUPPORT. Settles the statements on MAP WRITE: the transfer (O37) and its final frame (O38). -/

namespace Sys2Proof.Machine

open Sys2Proof.Safety

variable {s t : State} {recs : List Byte} {final : Bool} {n : Option (Tab 4 Byte)} {part : Byte} {tr : Transfer}

/-! ## A MAP WRITE taken (R158) -/

theorem takeRequest_transferRefused {owner : State → Answer} {st : Status} (hready : Ready s)
    (h : owner s = refuseTransfer st s) : takeRequest mapWriteCode owner s = refusing 0x10 st s := by
  rw [takeRequest_mapWrite owner s hready, h]
  rfl

theorem takeRequest_staged {owner : State → Answer} (hready : Ready s) (h : owner s = stage tr s) :
    takeRequest mapWriteCode owner s = answering 0x10 .accepted [] { s with lnk := { s.lnk with transfer := some tr } } := by
  rw [takeRequest_mapWrite owner s hready, h]
  rfl

theorem closed_of_noTransfer (h : s.lnk.transfer = none) : closed s = s := by
  rw [closed, ← h]

theorem takeRequest_noTransfer {owner : State → Answer} (hready : Ready s) (hnone : s.lnk.transfer = none)
    (h : owner s = Answer.refuse .noTransfer s) : takeRequest mapWriteCode owner s = refusing 0x10 .noTransfer s := by
  rw [takeRequest_mapWrite owner s hready, h, refusing, closed_of_noTransfer hnone]
  rfl

/-! ## The parts in order (R155, R156) -/

/-- A part 0 of 15 record bytes (R155). -/
theorem answerMapWrite_open (s : State) (hlength : recs.length = 15) :
    answerMapWrite { body := 0 :: recs, final := final } n s =
      if s.store.switches.map then refuseTransfer .barred s
      else if final then refuseTransfer .badArg s
      else stage { expected := 1, part0 := some recs, part1 := none, part2 := none } s := by
  have hopen : answerMapWrite { body := 0 :: recs, final := final } n s = openTransfer recs final s :=
    congrFun (if_neg (by omega)) s
  rw [hopen, openTransfer, if_neg (by rw [hlength]; decide)]

/-- A part whose records are not of its length (R155, R156). -/
theorem answerMapWrite_badLength (s : State)
    (h : if part = 0 then recs.length ≠ 15 else 3 < part.toNat ∨ recs.length ≠ 48) :
    answerMapWrite { body := part :: recs, final := final } n s = refuseTransfer .badArg s := by
  unfold answerMapWrite
  dsimp only
  split
  · rfl
  · rw [mapWrite]
    split
    · next h0 =>
      rw [if_pos h0] at h
      exact if_pos fun hlength => h (Nat.succ.inj hlength)
    · next h0 =>
      rw [if_neg h0] at h
      refine if_pos (h.imp id fun hlength => ?_)
      have hpart : part.toNat ≠ 0 := fun hzero => h0 (BitVec.eq_of_toNat_eq hzero)
      rw [partLength, if_neg hpart]
      omega

/-- A part 1, 2 or 3 of 48 record bytes (R156). -/
theorem answerMapWrite_continue (s : State) (hmin : 1 ≤ part.toNat) (hmax : part.toNat ≤ 3) (hlength : recs.length = 48) :
    answerMapWrite { body := part :: recs, final := final } n s = match s.lnk.transfer with
      | none => Answer.refuse .noTransfer s
      | some tr =>
          if part.toNat ≠ tr.expected then refuseTransfer .badArg s
          else if final then
            if part.toNat = 3 then finishTransfer tr recs n s else refuseTransfer .badArg s
          else if part.toNat = 3 then refuseTransfer .badArg s
          else stage (tr.staged part.toNat recs) s := by
  have hpart : part ≠ 0 := by rintro rfl; exact absurd hmin (by decide)
  have hcontinue : answerMapWrite { body := part :: recs, final := final } n s =
      continueTransfer part.toNat recs final n s := by
    unfold answerMapWrite
    dsimp only
    rw [if_neg (by omega), mapWrite, if_neg hpart]
  have hgood : ¬ (3 < part.toNat ∨ recs.length + 1 ≠ partLength part.toNat) := by
    rw [partLength, if_neg (by omega)]; omega
  rw [hcontinue, continueTransfer, if_neg hgood] <;> rfl

/-- A part in a transfer that does not expect it so (R156). -/
theorem answerMapWrite_refused (hmin : 1 ≤ part.toNat) (hmax : part.toNat ≤ 3) (hlength : recs.length = 48)
    (htr : s.lnk.transfer = some tr)
    (h : part.toNat ≠ tr.expected ∨ (final = true ∧ part.toNat < 3) ∨ (final = false ∧ part.toNat = 3)) :
    answerMapWrite { body := part :: recs, final := final } n s = refuseTransfer .badArg s := by
  rw [answerMapWrite_continue s hmin hmax hlength, htr]
  dsimp only
  by_cases hexpected : part.toNat = tr.expected
  · rw [if_neg (not_not.2 hexpected)]
    rcases h with h | ⟨rfl, h⟩ | ⟨rfl, h⟩
    · exact absurd hexpected h
    · rw [if_pos rfl, if_neg (by omega)]
    · rw [if_neg Bool.false_ne_true, if_pos h]
  · rw [if_pos hexpected]

/-- Part 1 or 2 at its index (R156). -/
theorem answerMapWrite_staged (hmin : 1 ≤ part.toNat) (hmax : part.toNat ≤ 2) (hlength : recs.length = 48)
    (htr : s.lnk.transfer = some tr) (hexpected : tr.expected = part.toNat) :
    answerMapWrite { body := part :: recs, final := false } n s = stage (tr.staged part.toNat recs) s := by
  rw [answerMapWrite_continue s hmin (by omega) hlength, htr]
  dsimp only
  rw [if_neg (not_not.2 hexpected.symm), if_neg Bool.false_ne_true, if_neg (by omega)]

/-- Settles O37. -/
theorem mapTransfersStageTheirPartsInOrder : Obligations.MapTransfersStageTheirPartsInOrder := by
  refine ⟨fun s recs final hready hlength => ⟨_, rfl, takeRequest_transferRefused hready
      (answerMapWrite_badLength s (by rw [if_pos rfl]; exact hlength))⟩,
    fun s recs final hready hlength hbarred => ⟨_, rfl, takeRequest_transferRefused hready ?_⟩,
    fun s recs hready hlength hfree => ⟨_, rfl, takeRequest_transferRefused hready ?_⟩,
    fun s recs hready hlength hfree => ⟨_, rfl, takeRequest_staged hready ?_⟩,
    fun s recs final part hready hpart hbad => ⟨_, rfl, takeRequest_transferRefused hready
      (answerMapWrite_badLength s (by rw [if_neg hpart]; exact hbad))⟩,
    fun s recs final part hready hmin hmax hlength hnone => ⟨_, rfl, takeRequest_noTransfer hready hnone ?_⟩,
    fun s recs final part tr hready hmin hmax hlength htr hbad => ⟨_, rfl, takeRequest_transferRefused hready
      (answerMapWrite_refused hmin hmax hlength htr hbad)⟩,
    fun s recs tr hready hlength htr hexpected => ⟨_, rfl, ?_⟩,
    fun s recs tr hready hlength htr hexpected => ⟨_, rfl, ?_⟩, fun s => ⟨_, rfl, rfl⟩⟩
  · rw [answerMapWrite_open s hlength, hbarred]; rfl
  · rw [answerMapWrite_open s hlength, hfree]; rfl
  · rw [answerMapWrite_open s hlength, hfree]; rfl
  · rw [answerMapWrite_continue s hmin hmax hlength, hnone]
  · have hstaged : tr.staged 1 recs = { tr with expected := 2, part1 := some recs } := by
      rw [Transfer.staged, if_pos rfl, hexpected]
    rw [← hstaged]
    exact takeRequest_staged hready (answerMapWrite_staged (part := 1) (by decide) (by decide) hlength htr hexpected)
  · have hstaged : tr.staged 2 recs = { tr with expected := 3, part2 := some recs } := by
      rw [Transfer.staged, if_neg (by decide), hexpected]
    rw [← hstaged]
    exact takeRequest_staged hready (answerMapWrite_staged (part := 2) (by decide) (by decide) hlength htr hexpected)

/-! ## The records of a map image (R173) -/

theorem rowOfList_eq {b : List Byte} {r : RowRec} (h : IsRowOf b r) : RowRec.ofList b = r := by
  obtain ⟨hremovable, hpresence, hdoors⟩ := h
  rw [RowRec.ofList, RowRec.ofBytes, ← hremovable, ← hpresence, ← hdoors]

theorem seatOfList_eq {b : List Byte} {m : SeatMap} (h : IsSeatOf b m) : SeatMap.ofList b = m := by
  obtain ⟨hcells, hfitted, htension, hbuckle, hpresume, hrow, hgain, hprofile, hadvisory, hanchor⟩ := h
  have hset : (b.getD 1 0 ++ b.getD 0 0 : BitVec 16) = m.cells := by
    apply BitVec.eq_of_toNat_eq
    rw [BitVec.toNat_append, ← Nat.shiftLeft_add_eq_or_of_lt (b.getD 0 0).isLt, Nat.shiftLeft_eq, hcells]
    omega
  have hlow (x : Byte) (k : BitVec 4) (hk : k.toNat = x.toNat % 16) : x.extractLsb' 0 4 = k := by
    apply BitVec.eq_of_toNat_eq
    rw [BitVec.extractLsb'_toNat, Nat.shiftRight_zero, hk]
  have hhigh (x : Byte) (k : BitVec 4) (hk : k.toNat = x.toNat / 16) : x.extractLsb' 4 4 = k := by
    have hx := x.isLt
    apply BitVec.eq_of_toNat_eq
    rw [BitVec.extractLsb'_toNat, Nat.shiftRight_eq_div_pow, hk]
    omega
  rw [SeatMap.ofList, SeatMap.ofBytes, hset, hlow _ _ hrow, hhigh _ _ hgain, hlow _ _ hprofile, hhigh _ _ hadvisory,
    ← hfitted, ← htension, ← hbuckle, ← hpresume, ← hanchor]

/-- The records that were sent give the image they carry (R155). -/
theorem ofParts_eq {part0 part1 part2 : List Byte} {img : MapRecs}
    (hrows : ∀ r : Row, IsRowOf (recordOf 3 part0 r.val) (img.rows.get r))
    (hseats : ∀ i : Seat, IsSeatOf (recordOf 6 (if i.val < 8 then part1 else part2) (i.val % 8)) (img.seats.get i)) :
    MapRecs.ofParts part0 part1 part2 = img := by
  have hrow : Tab.ofFn (fun r : Row => RowRec.ofList (recordAt 3 part0 r.val)) = img.rows := Tab.ext_get fun r => by
    rw [Tab.get_ofFn]; exact rowOfList_eq (hrows r)
  have hseat : Tab.ofFn (fun i : Seat => SeatMap.ofList (if i.val < 8 then recordAt 6 part1 i.val
      else recordAt 6 part2 (i.val - 8))) = img.seats := Tab.ext_get fun i => by
    have hi := hseats i
    rw [Tab.get_ofFn]
    by_cases h8 : i.val < 8
    · rw [if_pos h8, Nat.mod_eq_of_lt h8] at hi
      rw [if_pos h8]; exact seatOfList_eq hi
    · have hmod : i.val % 8 = i.val - 8 := by omega
      rw [if_neg h8, hmod] at hi
      rw [if_neg h8]; exact seatOfList_eq hi
  rw [MapRecs.ofParts, hrow, hseat]

/-- Every twelve bytes carry the wired fields of the profile they give. -/
theorem isProfileOf_ofBytes (c : Byte) (b : List Byte) : IsProfileOf b (Profile.ofBytes c b) := by
  refine ⟨?_, rfl, rfl, rfl, rfl, rfl, rfl, rfl, rfl, rfl⟩
  have hnumber := toNat_group (b.getD 0 0) (b.getD 1 0) (b.getD 2 0)
  have htc : (Profile.ofBytes c b).tc.toNat = (b.getD 2 0 ++ (b.getD 1 0 ++ b.getD 0 0) : BitVec 24).toNat % 4096 := by
    rw [Profile.ofBytes, BitVec.extractLsb'_toNat, Nat.shiftRight_zero]
  have hk : (Profile.ofBytes c b).k.toNat = (b.getD 2 0 ++ (b.getD 1 0 ++ b.getD 0 0) : BitVec 24).toNat / 4096 % 1024 := by
    rw [Profile.ofBytes, BitVec.extractLsb'_toNat, Nat.shiftRight_eq_div_pow]
  rw [htc, hk, hnumber]
  omega

/-- A record that carries what the working profile holds is that profile, and every record carries the profile it gives. -/
theorem writtenBack_of_isProfileOf {b : List Byte} {held : Profile} (h : IsProfileOf b held) (c : Byte) :
    held.writtenBack (Profile.ofBytes c b) = held := by
  rw [Profile.writtenBack, ofBytes_eq h, if_pos rfl]

theorem isProfileOf_writtenBack (b : List Byte) (held : Profile) (c : Byte) :
    IsProfileOf b (held.writtenBack (Profile.ofBytes c b)) := by
  have hsent := isProfileOf_ofBytes c b
  rw [Profile.writtenBack]
  split
  · next h =>
    have hbeside : IsProfileOf b { Profile.ofBytes c b with nChild := held.nChild } := hsent
    rwa [h] at hbeside
  · exact hsent

theorem profilesOfPart_told (held : Tab 4 Profile) (k : Nat) (recs : List Byte) (i : ProfileIx) :
    IsProfileOf (recordOf 12 recs i.val) ((profilesOfPart held k none recs).get i) ∧
    (IsProfileOf (recordOf 12 recs i.val) (held.get i) → (profilesOfPart held k none recs).get i = held.get i) := by
  rw [profilesOfPart, Tab.get_ofFn]
  exact ⟨isProfileOf_writtenBack .., fun h => writtenBack_of_isProfileOf h _⟩

theorem profilesOfPart_same (k : Nat) (h : sameProfiles s recs) :
    profilesOfPart s.cmap.profiles k none recs = s.cmap.profiles :=
  Tab.ext_get fun i => (profilesOfPart_told s.cmap.profiles k recs i).2 (h i)

theorem profilesOfPart_beside {held ps : Tab 4 Profile} {ns : Tab 4 Byte} (k : Nat)
    (h : ∀ i : ProfileIx, IsProfileOf (recordOf 12 recs i.val) (ps.get i) ∧ (ps.get i).nChild = ns.get i) :
    profilesOfPart held k (some ns) recs = ps := Tab.ext_get fun i => by
  obtain ⟨hwired, hchild⟩ := h i
  rw [profilesOfPart, Tab.get_ofFn]
  refine (ofBytes_eq hwired (ns.get i)).trans ?_
  rw [← hchild]

/-! ## The map apply leaves alone -/

theorem mapApply_frame (recs : MapRecs) (valid : Bool) (s : State) : mapApply recs valid s = { s with
    cmap := { (mapApply recs valid s).cmap with strap := s.cmap.strap }
    scan := { (mapApply recs valid s).scan with
      timing := s.scan.timing, overrun := s.scan.overrun, tornFlag := s.scan.tornFlag, gain := s.scan.gain }
    feat := { (mapApply recs valid s).feat with cal := s.feat.cal }
    verd := (mapApply recs valid s).verd
    rem := { s.rem with table := (mapApply recs valid s).rem.table, summary := (mapApply recs valid s).rem.summary }
    adv := (mapApply recs valid s).adv
    ret := { s.ret with snapshots := (mapApply recs valid s).ret.snapshots, timer := (mapApply recs valid s).ret.timer }
    lnk := { s.lnk with
      notices := (mapApply recs valid s).lnk.notices, overflow := (mapApply recs valid s).lnk.overflow }
    pins := { s.pins with sup := (mapApply recs valid s).pins.sup, attn := (mapApply recs valid s).pins.attn }
    free := (mapApply recs valid s).free } := by
  obtain ⟨ns, hlnk⟩ := mapApply_lnk recs valid s
  refine state_ext ?_ ?_ ?_ rfl (mapApply_rem_frame ..) rfl ?_ ?_ (mapApply_store ..) (mapApply_pins ..) rfl
    (mapApply_pending ..)
  · rw [mapApply_cmap]; rfl
  · rw [mapApply_scan_eq]
  · rw [mapApply_feat]
  · rw [mapApply_ret]; rfl
  · rw [hlnk]; rfl

/-! ## The final frame (R157) -/

/-- The image and the profiles tested. -/
theorem answerMapWrite_final (hlength : recs.length = 48) (htr : s.lnk.transfer = some tr) (hexpected : tr.expected = 3) :
    answerMapWrite { body := 3 :: recs, final := true } n s = finishTransfer tr recs n s := by
  rw [answerMapWrite_continue s (by decide) (by decide) hlength, htr]
  dsimp only
  have hpart : (3 : Byte).toNat = tr.expected := hexpected.symm
  rw [if_neg (not_not.2 hpart), if_pos rfl, if_pos (show (3 : Byte).toNat = 3 from rfl)]

/-- The part when the image is applied (R157). -/
def mapReceived (ps : Tab 4 Profile) (s : State) : State :=
  { closed s with free := s.free + 4, cmap := { s.cmap with profiles := ps } }

/-- The part after an accepted map, before the reply. -/
def mapTaken (img : MapRecs) (ps : Tab 4 Profile) (s : State) : State :=
  startCommit (.map img) (mapApply img true (mapReceived ps s))

theorem mapTaken_written (img : MapRecs) (ps : Tab 4 Profile) (s : State) :
    MapWritten s img ps (answering 0x10 .ok [] (mapTaken img ps s)) := by
  have happlied : JustApplied (mapApply img true (mapReceived ps s)) := mapApply_justApplied ..
  have hreached : ApplyReached (mapReceived ps s) (mapApply img true (mapReceived ps s)) := mapApply_reached ..
  have hcmap := mapApply_cmap img true (mapReceived ps s)
  have hframe := mapApply_frame img true (mapReceived ps s)
  rw [mapTaken]
  generalize mapApply img true (mapReceived ps s) = v at happlied hreached hcmap hframe ⊢
  refine ⟨happlied, hreached, congrArg CMap.rows hcmap, congrArg CMap.seats hcmap, congrArg CMap.valid hcmap,
    congrArg CMap.profiles hcmap, ?_⟩
  exact congrArg (fun x => answering 0x10 .ok [] (startCommit (.map img) x)) hframe

theorem finishTransfer_busy (hbusy : s.store.commit ≠ .idle) : finishTransfer tr recs n s = Answer.refuse .busy s :=
  if_pos ((committing_iff s.store).2 hbusy)

/-- What the final frame answers, by the test of its image (R157). -/
theorem finishTransfer_free {img : MapRecs} {ps : Tab 4 Profile} (hidle : s.store.commit = .idle)
    (himg : MapRecs.ofParts (tr.part0.getD []) (tr.part1.getD []) (tr.part2.getD []) = img)
    (hps : profilesOfPart s.cmap.profiles s.free n recs = ps) : finishTransfer tr recs n s =
      match mapFailure img ps with
      | some fl => ⟨{ closed s with free := s.free + 4 }, .mapInvalid, fl.bytes, false, []⟩
      | none => Answer.ok (mapTaken img ps s) [] := by
  rw [finishTransfer, if_neg (by rw [(committing_false_iff s.store).2 hidle]; decide), himg, hps]
  dsimp only
  cases mapFailure img ps <;> rfl

/-- What the reply to the final frame leaves (R157). -/
def finalAnswered (img : MapRecs) (ps : Tab 4 Profile) (s : State) : State :=
  match mapFailure img ps with
  | some fl => answering 0x10 .mapInvalid fl.bytes { closed s with free := s.free + 4 }
  | none => answering 0x10 .ok [] (mapTaken img ps s)

section
variable {img : MapRecs} {ps : Tab 4 Profile} (hready : Ready s) (hlength : recs.length = 48)
  (htr : s.lnk.transfer = some tr) (hexpected : tr.expected = 3) (hidle : s.store.commit = .idle)
  (hrows : ∀ r : Row, IsRowOf (recordOf 3 (tr.part0.getD []) r.val) (img.rows.get r))
  (hseats : ∀ i : Seat,
    IsSeatOf (recordOf 6 (if i.val < 8 then tr.part1.getD [] else tr.part2.getD []) (i.val % 8)) (img.seats.get i))
include hready hlength htr hexpected hidle hrows hseats

theorem exec_mapWriteFinal (hps : profilesOfPart s.cmap.profiles s.free n recs = ps) :
    exec (.mapWriteFinal ⟨recs, n⟩) s = .next (finalAnswered img ps s) := by
  have howner := (answerMapWrite_final (n := n) hlength htr hexpected).trans
    (finishTransfer_free hidle (ofParts_eq hrows hseats) hps)
  have htaken := takeRequest_mapWrite (answerMapWrite { body := 3 :: recs, final := true } n) s hready
  rw [howner] at htaken
  refine (congrArg Host.Outcome.next htaken).trans ?_
  unfold finalAnswered
  cases mapFailure img ps <;> rfl

end

/-- What the reply leaves, in the words of the statement. -/
theorem finalAnswered_tested (img : MapRecs) (ps : Tab 4 Profile) (s : State) :
    match mapFailure img ps with
    | some fl => finalAnswered img ps s = answering 0x10 .mapInvalid [(fl.kind.code : Byte), fl.index, fl.reason.code]
        { closed s with free := (finalAnswered img ps s).free }
    | none => MapWritten s img ps (finalAnswered img ps s) := by
  unfold finalAnswered
  cases mapFailure img ps with
  | some fl => rfl
  | none => exact mapTaken_written img ps s

/-- Settles O38. -/
theorem theFinalMapFrameIsTestedAndApplied : Obligations.TheFinalMapFrameIsTestedAndApplied := by
  refine ⟨fun s recs tr n hready hlength htr hexpected hbusy => ⟨_, rfl, ?_⟩,
    fun s recs tr img fl hready hlength htr hexpected hidle hrows hseats hsame hfail =>
      ⟨_, exec_mapWriteFinal hready hlength htr hexpected hidle hrows hseats (profilesOfPart_same s.free hsame), ?_⟩,
    fun s recs tr img hready hlength htr hexpected hidle hrows hseats hsame hpass =>
      ⟨_, exec_mapWriteFinal hready hlength htr hexpected hidle hrows hseats (profilesOfPart_same s.free hsame), ?_⟩,
    fun s recs tr img hready hlength htr hexpected hidle hrows hseats =>
      ⟨_, exec_mapWriteFinal hready hlength htr hexpected hidle hrows hseats rfl, _,
        profilesOfPart_told s.cmap.profiles s.free recs, finalAnswered_tested _ _ _⟩,
    fun s recs tr img ns ps hready hlength htr hexpected hidle hrows hseats hps =>
      ⟨_, exec_mapWriteFinal hready hlength htr hexpected hidle hrows hseats (profilesOfPart_beside s.free hps),
        finalAnswered_tested _ _ _⟩,
    fun s recs n hready hlength => ⟨_, rfl, takeRequest_transferRefused hready
      (answerMapWrite_badLength s (by rw [if_neg (by decide)]; exact .inr hlength))⟩,
    fun s recs n hready hlength hnone => ⟨_, rfl, takeRequest_noTransfer hready hnone ?_⟩,
    fun s recs tr n hready hlength htr hexpected => ⟨_, rfl, takeRequest_transferRefused hready
      (answerMapWrite_refused (by decide) (by decide) hlength htr (.inl (Ne.symm hexpected)))⟩⟩
  · rw [takeRequest_mapWrite (answerMapWrite { body := 3 :: recs, final := true } n) s hready,
      answerMapWrite_final hlength htr hexpected, finishTransfer_busy hbusy]
    rfl
  · have htested := finalAnswered_tested img s.cmap.profiles s
    rw [hfail] at htested
    exact htested
  · have htested := finalAnswered_tested img s.cmap.profiles s
    rw [hpass] at htested
    exact htested
  · rw [answerMapWrite_continue s (by decide) (by decide) hlength, hnone]

end Sys2Proof.Machine

/-! SUPPORT. Settles the statement on PROTECT SET and PROTECTION CLEAR (O48). -/

namespace Sys2Proof.Machine

open Sys2Proof.Safety

variable {s t : State} {b : Byte}

/-! ## PROTECT SET (R169) -/

/-- The request asks a barred switch to become permitted. -/
theorem loosens_iff (w : Switches) (b : Byte) : w.loosens (.ofByte b) = true ↔
    (w.map = true ∧ b.getLsbD 0 = false) ∨ (w.calibration = true ∧ b.getLsbD 1 = false) ∨
    (w.profile = true ∧ b.getLsbD 2 = false) ∨ (w.clear = true ∧ b.getLsbD 3 = false) := by
  simp only [Switches.loosens, Switches.ofByte, Bool.or_eq_true, Bool.and_eq_true, Bool.not_eq_true', or_assoc]

/-- Every switch that is barred is asked barred (R169). -/
structure Tightens (w : Switches) (b : Byte) : Prop where
  map : w.map = true → b.getLsbD 0 = true
  calibration : w.calibration = true → b.getLsbD 1 = true
  profile : w.profile = true → b.getLsbD 2 = true
  clear : w.clear = true → b.getLsbD 3 = true

theorem Tightens.loosens {w : Switches} (h : Tightens w b) : w.loosens (.ofByte b) = false := by
  obtain ⟨hmap, hcal, hprofile, hclear⟩ := h
  rw [← Bool.not_eq_true, loosens_iff]
  rintro (⟨h1, h0⟩ | ⟨h1, h0⟩ | ⟨h1, h0⟩ | ⟨h1, h0⟩)
  · rw [hmap h1] at h0; cases h0
  · rw [hcal h1] at h0; cases h0
  · rw [hprofile h1] at h0; cases h0
  · rw [hclear h1] at h0; cases h0

theorem or_eq_of_imp {x y : Bool} (h : x = true → y = true) : (x || y) = y := by
  cases x with
  | false => rfl
  | true => rw [h rfl]; rfl

theorem Tightens.tighten {w : Switches} (h : Tightens w b) : w.tighten (.ofByte b) = .ofByte b := by
  rw [Switches.tighten, Switches.ofByte, or_eq_of_imp h.map, or_eq_of_imp h.calibration, or_eq_of_imp h.profile,
    or_eq_of_imp h.clear]

/-- The switches of a byte are its four low bits. -/
theorem ofByte_bits (b : Byte) : byteOf (Switches.ofByte b).bits = ((b.toNat % 16 : Nat) : Byte) := by
  revert b
  decide

theorem protect_loosened (h : s.store.switches.loosens (.ofByte b) = true) : protect b s = Answer.refuse .barred s := if_pos h

theorem protect_same (h : s.store.switches = .ofByte b) : protect b s = Answer.ok s [((b.toNat % 16 : Nat) : Byte)] := by
  have htight : Tightens s.store.switches b := by rw [h]; exact ⟨id, id, id, id⟩
  rw [protect]
  dsimp only
  rw [htight.loosens, if_neg Bool.false_ne_true, if_pos h.symm, h, ofByte_bits]

theorem protect_changed (htight : Tightens s.store.switches b) (h : s.store.switches ≠ .ofByte b) : protect b s =
    if s.store.committing then Answer.refuse .busy s
    else Answer.ok (startCommit (.protection (.ofByte b)) { s with store := { s.store with switches := .ofByte b } })
      [((b.toNat % 16 : Nat) : Byte)] := by
  rw [protect]
  dsimp only
  rw [htight.loosens, if_neg Bool.false_ne_true, if_neg h.symm, htight.tighten, ofByte_bits]

/-! ## PROTECTION CLEAR (R170) -/

/-- Step 1: the copies at their defaults, REM told (R170). -/
def cabinCleared (s : State) : State := settingsApplied defaultSettings (copiesCleared s)

theorem clearSettings_closed (s : State) : clearSettings (closed s) = cabinCleared s := rfl

/-- Step 2: the strap's map applied (R170). -/
def strapApplied (s : State) : State :=
  mapApply (strapRecords s.cmap.strap none) (decide (s.cmap.strap ≠ 0)) (cabinCleared s)

theorem cabinCleared_frame (s : State) : cabinCleared s = { closed (copiesCleared s) with
    rem := { s.rem with settings := defaultSettings, table := (cabinCleared s).rem.table
                        summary := (cabinCleared s).rem.summary }
    lnk := { s.lnk with transfer := none, notices := (cabinCleared s).lnk.notices, overflow := (cabinCleared s).lnk.overflow }
    pins := { s.pins with attn := (cabinCleared s).pins.attn } } := by
  have hframe := settingsApplied_frame defaultSettings (copiesCleared s)
  have hlnk := congrArg State.lnk hframe
  refine hframe.trans ?_
  rw [cabinCleared, hlnk]
  rfl

theorem clearMap_cabinCleared (s : State) : clearMap (cabinCleared s) = strapApplied s := by
  have hstrap : (cabinCleared s).cmap.strap = s.cmap.strap := congrArg (·.cmap.strap) (cabinCleared_frame s)
  rw [clearMap, hstrap]
  rfl

theorem answerProtectionClear_eq (s : State) : answerProtectionClear { body := [], final := true } (closed s) =
    guardCommit s.store.switches.clear (fun s => ⟨clearCommit (clearMap (clearSettings s)), .ok, [], true, []⟩) (closed s) :=
  rfl

theorem takeRequest_protectionClear (hready : Ready s) (hfree : s.store.switches.clear = false) (hidle : s.store.commit = .idle) :
    takeRequest 0x61 (answerProtectionClear { body := [], final := true }) s =
      { clearCommit (strapApplied s) with lnk := { (strapApplied s).lnk with
          dispatch := .handling { code := 0x61, status := .ok, body := [] } true } } := by
  have howner : answerProtectionClear { body := [], final := true } (closed s) =
      ⟨clearCommit (strapApplied s), .ok, [], true, []⟩ := by
    rw [answerProtectionClear_eq, hfree, guardCommit_free _ (closed s) hidle, clearSettings_closed, clearMap_cabinCleared]
  rw [takeRequest_taken _ _ s hready (by decide), howner]
  generalize strapApplied s = v
  rfl

theorem justApplied_of_eq {recs : MapRecs} {valid : Bool} (h : t = mapApply recs valid s) : JustApplied t := by
  subst h
  exact mapApply_justApplied recs valid s

theorem applyReached_of_eq {recs : MapRecs} {valid : Bool} (h : t = mapApply recs valid s) : ApplyReached s t := by
  subst h
  exact mapApply_reached recs valid s

theorem strapApplied_reached (s : State) : ApplyReached s (strapApplied s) := by
  have hreached : ApplyReached (cabinCleared s) (strapApplied s) := applyReached_of_eq rfl
  have hadv : (cabinCleared s).adv = s.adv := (congrArg State.adv (cabinCleared_frame s) :)
  have hscan : (cabinCleared s).scan = { s.scan with timing := defaultTiming } :=
    (congrArg State.scan (cabinCleared_frame s) :)
  have hsup : (cabinCleared s).pins.sup = s.pins.sup := (congrArg (·.pins.sup) (cabinCleared_frame s) :)
  rw [ApplyReached, hscan] at hreached
  obtain ⟨h1, h2, h3, h4⟩ := hreached
  exact ⟨h1, h2, h3, positionsReported_congr h4 (fun _ => by rw [hadv]) hsup (by rw [hadv]) (by rw [hadv]) rfl rfl rfl⟩

theorem strapApplied_cmap (s : State) : (strapApplied s).cmap =
    CMap.applied { s.cmap with profiles := defaultProfiles } s.pins (strapRecords s.cmap.strap none)
      (decide (s.cmap.strap ≠ 0)) := by
  have hcmap : (cabinCleared s).cmap = { s.cmap with profiles := defaultProfiles } :=
    (congrArg State.cmap (cabinCleared_frame s) :)
  have hrowp : (cabinCleared s).pins.rowp = s.pins.rowp := (congrArg (·.pins.rowp) (cabinCleared_frame s) :)
  rw [strapApplied, mapApply_cmap, hcmap]
  simp only [CMap.applied, Pins.presenceLevel, hrowp]

/-- What PROTECTION CLEAR leaves beside the map and what the map apply says (R170). -/
theorem strapApplied_frame (s : State) : strapApplied s = { s with
    cmap := (strapApplied s).cmap
    scan := { (strapApplied s).scan with
      timing := defaultTiming, overrun := s.scan.overrun, tornFlag := s.scan.tornFlag, gain := s.scan.gain }
    feat := { (strapApplied s).feat with cal := uncalibrated }
    verd := (strapApplied s).verd
    rem := { s.rem with settings := defaultSettings, table := (strapApplied s).rem.table
                        summary := (strapApplied s).rem.summary }
    adv := (strapApplied s).adv
    ret := { s.ret with tRetain := defaultRetain, snapshots := (strapApplied s).ret.snapshots
                        timer := (strapApplied s).ret.timer }
    lnk := { s.lnk with transfer := none, notices := (strapApplied s).lnk.notices
                        overflow := (strapApplied s).lnk.overflow }
    store := { s.store with switches := { permitted with clear := s.store.switches.clear } }
    pins := { s.pins with sup := (strapApplied s).pins.sup, attn := (strapApplied s).pins.attn }
    free := (strapApplied s).free } := by
  have hcleared := cabinCleared_frame s
  have happlied := mapApply_frame (strapRecords s.cmap.strap none) (decide (s.cmap.strap ≠ 0)) (cabinCleared s)
  rw [← strapApplied] at happlied
  generalize strapApplied s = v at happlied ⊢
  generalize cabinCleared s = u at hcleared happlied
  have hscan : u.scan = { s.scan with timing := defaultTiming } := (congrArg State.scan hcleared :)
  have hfeat : u.feat = { s.feat with cal := uncalibrated } := (congrArg State.feat hcleared :)
  have hrem : u.rem = { s.rem with settings := defaultSettings, table := u.rem.table, summary := u.rem.summary } :=
    (congrArg State.rem hcleared :)
  have hret : u.ret = { s.ret with tRetain := defaultRetain } := (congrArg State.ret hcleared :)
  have hlnk : u.lnk = { s.lnk with transfer := none, notices := u.lnk.notices, overflow := u.lnk.overflow } :=
    (congrArg State.lnk hcleared :)
  have hpins : u.pins = { s.pins with attn := u.pins.attn } := (congrArg State.pins hcleared :)
  refine state_ext rfl ((congrArg State.scan happlied :).trans ?_) ((congrArg State.feat happlied :).trans ?_) rfl
    ((congrArg State.rem happlied :).trans ?_) rfl ((congrArg State.ret happlied :).trans ?_)
    ((congrArg State.lnk happlied :).trans ?_)
    ((congrArg State.store happlied :).trans (congrArg State.store hcleared :))
    ((congrArg State.pins happlied :).trans ?_) rfl
    ((congrArg State.pending happlied :).trans (congrArg State.pending hcleared :))
  · rw [hscan]
  · rw [hfeat]
  · rw [hrem]
  · rw [hret]
  · rw [hlnk]
  · rw [hpins]

theorem applied_records (c : CMap) (p : Pins) (recs : MapRecs) (valid : Bool) :
    (c.applied p recs valid).rows = recs.rows ∧ (c.applied p recs valid).seats = recs.seats ∧
    (c.applied p recs valid).valid = valid ∧ (c.applied p recs valid).profiles = c.profiles ∧
    (c.applied p recs valid).strap = c.strap := ⟨rfl, rfl, rfl, rfl, rfl⟩

/-- The records that the strap chooses without the store (R5, R6). -/
theorem strapRecords_none_rows (straps : BitVec 2) (r : Row) : (strapRecords straps none).rows.get r =
    (if straps = 0 then [] else presetRowTable straps).getD r.val { removable := false, presence := 0xFF, doors := 0 } := by
  rw [strapRecords]
  split
  · revert r; decide
  · next h => exact preset_rows h r

/-- Settles O48. -/
theorem protectSetBarsSwitchesAndProtectionClearResets : Obligations.ProtectSetBarsSwitchesAndProtectionClearResets := by
  refine ⟨fun s b hready h => ⟨_, rfl, takeRequest_refused 0x60 _ s _ hready (by decide)
      (protect_loosened (s := closed s) ((loosens_iff ..).2 h))⟩,
    fun s b hready h => ⟨_, rfl, takeRequest_ok 0x60 _ s _ _ hready (by decide) (protect_same (s := closed s) h)⟩,
    fun s b hready hmap hcal hprofile hclear hdiffer hbusy => ⟨_, rfl, takeRequest_refused 0x60 _ s _ hready (by decide)
      ((protect_changed (s := closed s) ⟨hmap, hcal, hprofile, hclear⟩ hdiffer).trans
        (if_pos ((committing_iff s.store).2 hbusy)))⟩,
    fun s b hready hmap hcal hprofile hclear hdiffer hidle => ⟨_, congrArg Host.Outcome.next
      (takeRequest_ok 0x60 (answerProtectSet { body := [b], final := true }) s _ _ hready (by decide)
      ((protect_changed (s := closed s) ⟨hmap, hcal, hprofile, hclear⟩ hdiffer).trans (if_neg ?_))), rfl, rfl⟩,
    fun s hready hbarred => ⟨_, rfl, takeRequest_barred hready (by decide) (answerProtectionClear_eq s) hbarred⟩,
    fun s hready hfree hbusy => ⟨_, rfl, takeRequest_busy hready (by decide) (answerProtectionClear_eq s) hfree hbusy⟩,
    fun s hready hfree hidle => ⟨_, congrArg Host.Outcome.next (takeRequest_protectionClear hready hfree hidle), ?_⟩⟩
  · exact fun h => (committing_iff s.store).1 h hidle
  · have happlied : JustApplied (strapApplied s) := justApplied_of_eq rfl
    have hreached := strapApplied_reached s
    have hcmap := strapApplied_cmap s
    have hframe := strapApplied_frame s
    generalize strapApplied s = v at happlied hreached hcmap hframe ⊢
    obtain ⟨hrows, hseats, hvalid, hprofiles, hstrap⟩ := applied_records { s.cmap with profiles := defaultProfiles } s.pins
      (strapRecords s.cmap.strap none) (decide (s.cmap.strap ≠ 0))
    rw [← hcmap] at hrows hseats hvalid hprofiles hstrap
    have hstore : v.store = { s.store with switches := permitted } := by
      have h : v.store = { s.store with switches := { permitted with clear := s.store.switches.clear } } :=
        (congrArg State.store hframe :)
      rw [h, hfree]; rfl
    refine ⟨happlied, hreached, hstrap, ?_, fun h0 i => ?_, fun h0 i => ?_, fun r => ?_, fun k => ?_,
      (congrArg (·.rem.settings) hframe :), (congrArg (·.ret.tRetain) hframe :), (congrArg (·.scan.timing) hframe :),
      fun i c => ?_, ?_, ?_, (congrArg (·.rem.speed) hframe :), (congrArg (·.rem.freshness) hframe :),
      (congrArg (·.ret.ignition) hframe :), (congrArg (·.ret.doorOpen) hframe :), (congrArg State.pending hframe :),
      (congrArg State.pins hframe :)⟩
    · exact Iff.of_eq (congrArg (· = true) hvalid) |>.trans decide_eq_true_iff
    · refine (congrArg (fun x : Tab 16 SeatMap => x.get i) hseats).trans ?_
      rw [strapRecords, if_pos h0]
      exact Tab.get_const ..
    · have hseat : v.cmap.seats.get i = (preset s.cmap.strap).seats.get i := by rw [hseats, strapRecords, if_neg h0]
      have hpreset := preset_seat h0 i
      rw [← hseat] at hpreset
      exact hpreset
    · exact (congrArg (fun x : Tab 5 RowRec => x.get r) hrows).trans (strapRecords_none_rows s.cmap.strap r)
    · exact (congrArg (fun x : Tab 4 Profile => x.get k) hprofiles).trans (Tab.get_ofFn ..)
    · have hcal : v.feat.cal = uncalibrated := (congrArg (·.feat.cal) hframe :)
      refine (congrArg (fun x : Calibration => (x.get i).get c) hcal).trans ?_
      rw [uncalibrated, Tab.get_const, Tab.get_const]
      rfl
    · rw [clearCommit, hstore]
      rfl
    · have hlnk : v.lnk = { s.lnk with transfer := none, notices := v.lnk.notices, overflow := v.lnk.overflow } :=
        (congrArg State.lnk hframe :)
      exact congrArg (fun l : Lnk => { l with
        dispatch := Dispatch.handling { code := 0x61, status := .ok, body := [] } true }) hlnk

end Sys2Proof.Machine
